-- ==== Sys2Proof/Word.lean ====
section
/-!
DEFINITION. The byte of messages, frames and memories (spec/03 R50: every value on the wire is a string of bytes).
Cloyr's registers have their own widths (R50); a register's value is held as a natural number below two to its width.
-/
namespace Sys2Proof

/-- One byte, as the wire formats and the memories number them (R8, R50). -/
abbrev Byte := BitVec 8

/-- A string of bytes: a wire field, a frame, a table of records (R50). -/
abbrev Bytes := List Byte

end Sys2Proof
end

