-- ==== Sys2Proof/Syntax.lean ====
section
/-!
DEFINITION. The commands Cloyr takes: one constructor for each row of spec/opcode_table.json, with the operands of what
the row names. `dt` is the device time, in nanoseconds, that has passed since the command before (log entry 1); a
command without `dt` happens at an instant the manual fixes, and the machine's clock goes to that instant (log entry 2).
-/
namespace Sys2Proof

/-- Where a message came from, or goes to (R501, R64): the port (0–23 lane, 24 MGMT0, 25 MGMT1, 26 SPI target), the
16-byte address, the UDP port, and whether it arrived at SHOW_GROUP_V4. -/
structure Src where
  port : Nat
  addr : Nat := 0
  udp : Nat := 0
  group : Bool := false
  deriving DecidableEq, Repr

/-- A message of R65 without its command code. `length` is the LENGTH field; `payload` the bytes present. -/
structure Msg where
  src : Src
  magic : Nat := 0x4F44
  ver : Nat := 1
  reply : Bool := false
  seq : Nat
  device : Nat
  length : Nat
  payload : Bytes
  deriving DecidableEq, Repr

/-- Who makes a single-entry request: its source and the SEQ of its message. The message is otherwise well formed and
addressed to this device (log entry 3). -/
structure Req where
  src : Src
  seq : Nat
  deriving DecidableEq, Repr

/-- An output (R29). -/
inductive Out where
  | tile (n : Nat) | chain (port : Nat) | dmx (port : Nat) | matrix (group : Nat) | str (n : Nat)
  | raster (n : Nat) | sacn (univ : Nat)
  deriving DecidableEq, Repr

/-- What an Announce carries to the best master clock algorithm of IEEE 1588-2019 (R90, R93). -/
structure Announce where
  domainNumber : Nat
  gm : Nat
  priority1 : Nat
  clockClass : Nat
  accuracy : Nat
  variance : Nat
  priority2 : Nat
  stepsRemoved : Nat
  sender : Nat
  senderPort : Nat
  logInterval : Int
  utcOffset : Int
  deriving DecidableEq, Repr

/-- A Sync with its Follow_Up, if two-step (R90, R94): the corrected origin time and the receive capture in device time. -/
structure SyncMsg where
  domainNumber : Nat
  sender : Nat
  senderPort : Nat
  logInterval : Int
  origin : Nat
  correction : Int
  capture : Nat
  /-- the message kind is one R90 supports -/
  supported : Bool := true
  /-- currentUtcOffset of an ST 2059-2 synchronization metadata TLV, where one came (R90) -/
  smTlv : Option Int := none
  /-- cumulativeScaledRateOffset of the Follow_Up information TLV of 802.1AS, where one came (R90) -/
  infoTlv : Option Int := none
  deriving DecidableEq, Repr

/-- A Delay_Resp or Pdelay_Resp with its Follow_Up (R90). -/
structure DelayResp where
  domainNumber : Nat
  sender : Nat
  senderPort : Nat
  seq : Nat
  logInterval : Int
  /-- receive time of the request at the far end -/
  t4 : Nat
  /-- transmit time of the response (peer delay only) -/
  t3 : Nat := 0
  correction : Int := 0
  /-- receive capture of the response (peer delay only) -/
  capture : Nat := 0
  deriving DecidableEq, Repr

/-- A frame as the MAC receives it (R135): its bytes with the FCS, whether the PCS reported an error in it, and whether
the lane buffer or the basin had room for the whole of it (R139). Also the FEC codewords the lane's PCS has corrected, and those it
could not correct, since the frame before (R146). -/
structure RxFrame where
  bytes : Bytes
  pcsErr : Bool := false
  room : Bool := true
  fecCorr : Nat := 0
  fecUncorr : Nat := 0
  deriving DecidableEq, Repr

/-- One sample row data header and its bytes (R151). -/
structure Srd where
  row : Nat
  offset : Nat
  fbit : Bool
  length : Nat
  data : Bytes
  deriving DecidableEq, Repr

/-- An ST 2110-20 packet (R148, R151). -/
structure VideoPkt where
  dst : Nat
  dstPort : Nat
  srcAddr : Nat
  rtpVersion : Nat := 2
  pt : Nat
  seq16 : Nat
  extSeq : Nat
  timestamp : Nat
  srds : List Srd
  /-- payload bytes the packet carried after its headers -/
  carried : Nat
  deriving DecidableEq, Repr

/-- A link that the PCS reports up: its port, and whether the partner signals remote fault (R120). -/
structure LinkReport where
  port : Nat
  remote : Bool := false
  deriving DecidableEq, Repr

/-- Where a datagram arrived: its lane and its destination address, IPv4 in IPv4-mapped form (R158). -/
structure Landing where
  port : Nat
  dst : Nat
  deriving DecidableEq, Repr

/-- What the control processor hands the lock-keeper: counters to arm with their values (R248; log entry 124), and a barge (R242). -/
structure Submission where
  arms : List (Nat × Nat) := []
  bytes : Bytes
  deriving DecidableEq, Repr

/-- An E1.31 data packet (R158, R159). -/
structure SacnPkt where
  /-- destination address, IPv4 in IPv4-mapped form -/
  dst : Nat
  univ : Nat
  cid : Nat
  priority : Nat
  seq : Nat
  sync : Nat
  preview : Bool := false
  terminated : Bool := false
  startCode : Nat := 0
  /-- layer vectors and lengths are well formed -/
  wellFormed : Bool := true
  /-- the property value count: slots and the START Code -/
  count : Nat
  slots : Bytes
  deriving DecidableEq, Repr

/-- A Zhoeno frame as a tile sends it: its header and payload bytes (R287, R288), and the seal tag where it has one. -/
structure ZhFrame where
  bytes : Bytes
  tag : Bytes := []
  /-- receive capture, in device time ns, with its fraction in units of 2^-16 ns (R105) -/
  capture : Nat := 0
  frac : Nat := 0
  /-- the source addresses of the frame that carried it (R286) -/
  mac : Nat := 0
  ip : Nat := 0
  deriving DecidableEq, Repr

/-- The commands of Cloyr. -/
inductive Instr where
  -- timeline and commits
  /-- `ack`: after how many ns the frame engine acknowledges the tick, where it does (R42) -/
  | tick (ack : Option Nat)
  | tickOutFall
  | frameCutoff
  | tickMissed
  | holdDecision (o : Out)
  | outputLaunch (o : Out)
  | timelineStart (dt : Nat)
  | commit (dt : Nat) (r : Req)
  | commitAt (dt : Nat) (r : Req) (time : Nat)
  | cancelPending (dt : Nat) (r : Req)
  | commitCmd (dt : Nat) (m : Msg)
  | groupCommit (dt : Nat) (m : Msg)
  | groupSnapshot (dt : Nat) (m : Msg)
  | groupReset (dt : Nat) (m : Msg)
  | groupReplySend
  | deviceNumberWrite (dt : Nat) (r : Req) (v : Nat)
  -- object dictionary server
  | read (dt : Nat) (m : Msg)
  | write (dt : Nat) (m : Msg)
  | writePosted (dt : Nat) (m : Msg)
  | registerWrite (dt : Nat) (r : Req) (index sub ty : Nat) (value : Bytes)
  | bulkOpen (dt : Nat) (m : Msg)
  | bulkData (dt : Nat) (m : Msg)
  | bulkClose (dt : Nat) (m : Msg)
  | bulkExpire (handle : Nat)
  | subscribe (dt : Nat) (m : Msg)
  | subscriptionLapse (slot : Nat)
  | notify (dt : Nat) (slot : Nat)
  | irqPendingWrite (dt : Nat) (r : Req) (v : Nat)
  | mgmt1ClassWrite (dt : Nat) (r : Req) (v : Nat)
  | sync (dt : Nat) (r : Req)
  | journalWriteDone (dt : Nat)
  | putMsg (dt : Nat) (bytes : Bytes)
  | getMsg (dt : Nat)
  | spiStatus (dt : Nat)
  -- time engine
  | ptpAnnounceRx (dt port : Nat) (a : Announce)
  | ptpSyncRx (dt port : Nat) (m : SyncMsg)
  | ptpDelayRespRx (dt port : Nat) (m : DelayResp)
  | ptpPdelayReqRx (dt port domainNumber sender seq : Nat)
  | ptpPdelayRespRx (dt port : Nat) (m : DelayResp)
  | delayReqSend (dt domain : Nat)
  | announceReceiptTimeout (domain : Nat)
  | syncTimeout (domain : Nat)
  | holdoverExpired (domain : Nat)
  | domainEnableWrite (dt : Nat) (r : Req) (domain v : Nat)
  | selectWrite (dt : Nat) (r : Req) (v : Nat)
  | switchAtWrite (dt : Nat) (r : Req) (time : Nat)
  | scheduledSwitch
  | slewDone
  | tsqEntryDeliver (dt port : Nat)
  | ppsInEdge (dt : Nat)
  | ppsOutRise
  | ppsOutFall
  -- lanes
  /-- `remote`: the partner signals remote fault (R120) -/
  | linkUp (dt : Nat) (link : LinkReport)
  | linkDown (dt port : Nat)
  | mgmtInbandStatus (dt port : Nat) (up : Bool) (speed : Nat) (fullDuplex : Bool)
  | laneEnWrite (dt : Nat) (r : Req) (port v : Nat)
  | txSelect (dt port : Nat)
  | txFrameDone (dt port : Nat)
  | rxFrame (dt port : Nat) (f : RxFrame)
  | pauseExpire (port tc : Nat)
  | pauseOverride (port tc : Nat)
  | pauseIgnoreEnd (port : Nat)
  -- intake
  | videoPacket (dt port : Nat) (p : VideoPkt)
  | pathTimeout (stream part path : Nat)
  | streamTimeout (stream : Nat)
  | sacnDataPacket (dt port : Nat) (p : SacnPkt)
  | sacnSyncPacket (dt : Nat) (rcv : Landing) (address seq cid : Nat)
  | sacnSourceTimeout (univ cid : Nat)
  | sacnSyncTimeout (univ cid : Nat)
  -- colour and weir
  | ditherReset (dt : Nat) (r : Req)
  | ageLedgerWrite (dt : Nat) (r : Req) (value : Bytes)
  | ledgerJournal
  | ageRecompute
  | calCacheWriteDone (dt : Nat)
  | dieTempSample (temps : List Int)
  | tjShut (dt : Nat)
  -- cells and the lock-keeper
  /-- `arms`: the counters the control processor arms before it submits, with their values (R248; log entry 124) -/
  | bargeSubmit (dt : Nat) (sub : Submission)
  /-- `corrected`: errors the cell's SRAM has corrected since it last asked (R236) -/
  | ask (dt cell corrected : Nat)
  | bargeDispatch (dt : Nat)
  | sampleComplete (dt cell : Nat)
  | tallyComplete (dt cell : Nat)
  | weirComplete (dt cell : Nat)
  | packComplete (dt cell : Nat)
  | firmwareBargeComplete (dt cell : Nat) (target : Nat) (entries : List Bytes)
  | yieldWrite (dt : Nat)
  | flightRelease (dt flight : Nat)
  | bargeTimeout (cell : Nat)
  | cellSramError (dt cell : Nat)
  | cellIllegalOp (dt cell : Nat)
  | cellResetDone (dt cell : Nat)
  | cellRetire (dt : Nat) (r : Req) (cell : Nat)
  | cellRestore (dt : Nat) (r : Req) (cell : Nat)
  | delayEntryAct (list : Nat)
  | delayInsert (dt list : Nat) (entry : Bytes)
  -- pounds
  | poundWrite (dt pound slot prio : Nat) (data : Bytes)
  | poundRead (dt pound : Nat) (headEmpty : Bool)
  | spillFetchDone (dt pound bad : Nat)
  | sluicePinUpdate (dt pin : Nat)
  -- Zhoeno link
  | latchFixup (lane : Nat)
  | echoSend (tile : Nat)
  | echoReplyRx (dt lane : Nat) (f : ZhFrame)
  | echoTimeout (tile : Nat)
  | helloRx (dt lane : Nat) (f : ZhFrame)
  | retRx (dt lane : Nat) (f : ZhFrame)
  | tileTimeout (tile : Nat)
  | paramResend (tile : Nat)
  | sealRollNow (dt : Nat) (r : Req) (sectionNo : Nat)
  -- lamp ports
  /-- `loop` in steps of 1.25 ns (R314, R320) -/
  | chainReturnWindowClose (port : Nat) (bits : List Bool) (loop : Nat)
  | dmxPacketStart (port : Nat)
  | rdmTransaction (dt port : Nat)
  | rdmResponseRx (dt port : Nat) (bytes : Bytes)
  | rdmTimeout (port : Nat)
  | rdmDiscovery (port : Nat) (uids : List Nat)
  | rdmQueueWrite (dt : Nat) (r : Req) (port : Nat) (value : Bytes)
  | portEnWrite (dt : Nat) (r : Req) (port v : Nat)
  | matrixScanStart (group : Nat) (status : List Nat)
  -- strings
  | dimPeriodStart (str : Nat)
  | currentSample (dt str code vcode : Nat)
  | stageFault (dt str : Nat)
  | stringRetry (str code vcode : Nat)
  | senseBurstDone (group : Nat) (dark : Nat × Nat) (lit : List (Nat × Nat))
  | senseCapture (dt : Nat) (r : Req) (group : Nat)
  | ntcSample (dt ntc code : Nat)
  -- raster
  | rasterFrameStart
  | rasterLatchLine
  | rsShadowWrite (dt : Nat) (r : Req) (record : Nat) (value : Bytes)
  | rsCommit (dt : Nat) (r : Req) (v : Nat)
  | rasterPllLocked (dt : Nat)
  | rasterUnderrun (dt output px : Nat)
  -- aqueduct
  | aqForwardSend (dt device : Nat)
  | aqReplyRx (dt port : Nat) (src : Src) (bytes : Bytes)
  | aqTimeout (device : Nat)
  | aqParamTimeout (tile : Nat)
  -- towpath
  | peerAssert (dt : Nat)
  | peerDeassert (dt : Nat)
  | towClaimStart
  | towClaimRecheck
  | beaconWaitTimeout
  | epochWriteDone (dt : Nat)
  | claimBackoffExpire
  | holdoffExpire
  | acquire (dt : Nat) (r : Req)
  | release (dt : Nat) (r : Req)
  | handover (dt : Nat) (r : Req)
  | clearFault (dt : Nat) (r : Req)
  | beaconSend
  | peerBeaconWrite (dt : Nat) (r : Req) (value : Bytes)
  | mirrorSmallSend
  | mirrorSmallWrite (dt : Nat) (r : Req) (value : Bytes)
  | mirrorTableWrite (dt : Nat) (r : Req) (value : Bytes)
  | mirrorPartsExpire
  | peerLinkLost
  | standbyModeWrite (dt : Nat) (r : Req) (v : Nat)
  -- keys
  | keyRegisterWrite (dt : Nat) (r : Req) (reg : Nat) (value : Bytes)
  | keyLoad (dt : Nat) (r : Req) (value : Bytes)
  | keyInvalidate (dt : Nat) (r : Req) (slot : Nat)
  | orphanGraceExpire (slot : Nat)
  | drbgReseed (dt : Nat)
  | drbgHealthFail (dt test : Nat)
  | drbgRetry
  | challenge (dt : Nat) (m : Msg)
  -- updates
  | updateOpen (dt : Nat) (m : Msg)
  | updatePiece (dt : Nat) (m : Msg)
  | updateFinish (dt : Nat) (m : Msg)
  | updateActivate (dt : Nat) (m : Msg)
  | updateConfirm (dt : Nat) (m : Msg)
  | updateAbort (dt : Nat) (m : Msg)
  | updateActivation
  | updateSessionExpire
  | autoConfirm
  | confirmWindowExpire
  -- trim and the lengthsman
  | lengthsmanSecond
  | lifeLedgerWrite
  | ddrCeStep (corrected : Nat)
  | trimTRun (dt : Nat) (r : Req)
  | trimTRunDone (dt : Nat)
  | trimARun (dt : Nat) (r : Req) (tag : Nat)
  | trimARunDone (dt : Nat)
  -- power and reset
  | porst (dt : Nat)
  /-- `good`: rails and reference clocks have met R463 for 1 ms -/
  | porstRelease (dt straps : Nat) (good : Bool)
  | warmAssert (dt : Nat)
  | warmStart (dt : Nat)
  | powerOnReset (dt : Nat)
  | brownOut (dt rail : Nat)
  | brownOutRecovery (dt : Nat)
  | domainEnWrite (dt : Nat) (r : Req) (v : Nat)
  | domainPowerGood (dt domain : Nat)
  | domainFault (domain : Nat)
  | cpWatchdog (dt core : Nat)
  | supervisorWatchdog (dt : Nat)
  | restart (dt : Nat) (r : Req)
  | shutdownCool
  | strapChanged (dt strap : Nat) (level : Bool)
  | powerOnResetEnd (dt : Nat)
  -- completions
  | keyRegisterWriteDone (dt : Nat)
  | drbgStartupTestDone (dt : Nat)
  | mirrorPartNotAnswered (dt : Nat)
  | ageLedgerMirrorSend
  deriving DecidableEq, Repr

end Sys2Proof
end

