-- ==== Sys2Proof/Config.lean ====
section
/-!
DEFINITION. Values the manual leaves open, as constants without a body: nothing can evaluate them, so a statement about
them holds whatever they are. Each names its rule; the log entries give the reasons.
-/
namespace Sys2Proof.Config

/-- A GENERATED EOTF entry is rounded from binary64 power functions whose last place is open (R173, R174): where the exact value
stands at a tie, whether entry `i` is rounded up, for transfer system `tcs` (0 SDR, 1 PQ, 2 HLG) and its parameter. -/
opaque eotfUp (tcs param i : Nat) : Bool

/-- The servo's correction of a domain's estimate at a Sync, ns, from its offset and SERVO_BW (R94: the loop's law is not
stated). -/
opaque servoStep (offset : Int) (bandwidth : Nat) : Int

/-- The randomised part of the interval between Delay_Req messages, ns, at a draw (R90: IEEE 1588-2019's randomisation). -/
opaque reqWait (draw : Nat) : Nat

/-- The fraction of a nanosecond, units of 2^-16, that a step of device time leaves, at a draw (R96, R97). -/
opaque stepFrac (draw : Nat) : Nat

/-- The frequency the servo sets, ppb, from its offset, SERVO_BW and the frequency before (R96). -/
opaque servoFreq (offset : Int) (bandwidth : Nat) (freq : Int) : Int

/-- The figures of a class T trim run (R447, R450): tap and residual of each path; the run's index and the path. -/
opaque trimTap (run path : Nat) : Nat
opaque trimResidual (run path : Nat) : Int

/-- The calibrated delay a tap gives a path, ps (R103, R447). -/
opaque pathDelay (path tap : Nat) (rate fec : Nat) : Nat

/-- The figures of a class A trim run (R452). -/
opaque trimAField (run field : Nat) : Nat

/-- TRIM_A_RECORD as the wafer test left it (R454: the figures are the part's). -/
opaque waferField (field : Nat) : Nat

/-- Spare rows of an SRAM macro, by its place in SRAM_REPAIR, until a self-test reports it (R456: the silicon's). -/
opaque spareRows (record : Nat) : Nat

/-- The lengthsman's addition to LIFE_USED for one second at a junction temperature (R455), millionths of the profile × 2^32. -/
opaque lifeStep (tj : Int) : Nat

/-- Output words of the DRBG (R425: its states and entropy are not given), by draw. -/
opaque drbg (draw : Nat) : Nat

/-- The device-unique hardware key that protects key registers and blobs (R412). -/
opaque hardwareKey : Nat

/-- Identity of the device, set at manufacture (R1, R55, R136): SERIAL as a number of 16 bytes, BASE_MAC, IMAGE_VERSION and
OD_SCHEMA of the running image. -/
opaque serial : Nat
opaque baseMac : Nat

/-- Cloyr's own IPv4 address and IPv6 address on a port (R64, R158: the manual names them and gives no entry for them). -/
opaque ownIpv4 (port : Nat) : Nat
opaque ownIpv6 (port : Nat) : Nat

/-- Fields of the IPv4 headers Cloyr writes that the manual leaves open: 0 type of service, 1 identification and flags, 2 time to
live. -/
opaque ipOpen (port field : Nat) : Nat

/-- The default of SACN_CID, which is derived from BASE_MAC (R167: the derivation is not given). -/
opaque cidOf (mac : Nat) : Nat

/-- The Ethernet address that an IP address has on a port (R64, R164: address resolution is not described). -/
opaque macOf (port addr : Nat) : Nat

/-- The level that a lamp port's pin has from outside at a draw of free values (R336: an input). -/
opaque pinLevel (draw port pin : Nat) : Nat

/-- The voltage of a rail, mV, at a draw of free values (R464: the board's). -/
opaque railMv (draw rail : Nat) : Nat

/-- Fields of E1.20 requests Cloyr sends that the manual leaves open (R326): 0 its own UID, 1 the transaction number of a request,
2 the port's identification byte. -/
opaque rdmOpen (field n : Nat) : Nat

/-- The 28 data bytes a pack barge gives the output engine beside the frame number (R254). -/
opaque packWord (unit n : Nat) : Nat

/-- The turn-on delay, ns, that string controller `str` takes at its `n`-th measurement where its first sample, `after` ns behind the
edge, already stands at i_ref ÷ 2 or above: R346's interpolation has no sample before it. -/
opaque donMeasure (str n after : Nat) : Nat

/-- The quotient of R352 where the measurement is 0, for a reference (SENSE_MIN may be 0; the rule divides by the measurement). -/
opaque senseQuotient (ref : Nat) : Nat

/-- An image's migration table (R442: the image's own): what becomes of an entry from one schema to the next (0 kept, 1
dropped, 2 converted, 3 moved, otherwise it cannot be carried), the entry that a converted or moved value goes to, and a converted
number or table. -/
opaque migrateKind (from_ to_ key : Nat) : Nat
opaque migrateKey (from_ to_ key : Nat) : Nat
opaque migrateNum (from_ to_ key v : Nat) : Nat
opaque migrateTab (from_ to_ key : Nat) (v : Bytes) : Bytes

end Sys2Proof.Config
end

