-- ==== Sys2Proof/Machine/Bytes.lean ====
section
/-!
DEFINITION. Byte order, bit fields, two's complement, rounding and saturating (R8, R10, R50), the two check sums the
manual uses (CRC-32 and CRC-32C), and the keyed lists in which registers, tables and sparse memories are held.
-/
namespace Sys2Proof.Machine

/-- The unsigned number a big-endian byte string spells (R8). -/
def beNat (b : Bytes) : Nat := b.foldl (fun a x => a * 256 + x.toNat) 0

/-- `n` bytes, big-endian, of `v` modulo 256^n (R8). -/
def natBE : Nat → Nat → Bytes
  | 0, _ => []
  | n + 1, v => BitVec.ofNat 8 (v / 256 ^ n) :: natBE n v

/-- The unsigned number a little-endian byte string spells. -/
def leNat : Bytes → Nat
  | [] => 0
  | x :: t => x.toNat + 256 * leNat t

/-- `n` bytes, little-endian, of `v` modulo 256^n. -/
def natLE : Nat → Nat → Bytes
  | 0, _ => []
  | n + 1, v => BitVec.ofNat 8 v :: natLE n (v / 256)

/-- `len` bytes from offset `off`. -/
def slice (b : Bytes) (off len : Nat) : Bytes := (b.drop off).take len

/-- Exactly `n` bytes: the string cut or padded at its end with zero bytes (R50: STR padding, R70: item padding). -/
def padTo (n : Nat) (b : Bytes) : Bytes := b.take n ++ List.replicate (n - b.length) 0#8

def u8  (b : Bytes) (o : Nat) : Nat := beNat (slice b o 1)
def u16 (b : Bytes) (o : Nat) : Nat := beNat (slice b o 2)
def u24 (b : Bytes) (o : Nat) : Nat := beNat (slice b o 3)
def u32 (b : Bytes) (o : Nat) : Nat := beNat (slice b o 4)
def u48 (b : Bytes) (o : Nat) : Nat := beNat (slice b o 6)
def u64 (b : Bytes) (o : Nat) : Nat := beNat (slice b o 8)

/-- The signed value of the low `w` bits of `v`, two's complement (R50). -/
def toS (w v : Nat) : Int :=
  let m := v % 2 ^ w
  if m < 2 ^ (w - 1) then (m : Int) else (m : Int) - (2 ^ w : Nat)

/-- The `w`-bit two's complement word of an integer (R50). -/
def ofS (w : Nat) (i : Int) : Nat := (i % ((2 ^ w : Nat) : Int)).toNat

def s16 (b : Bytes) (o : Nat) : Int := toS 16 (u16 b o)
def s32 (b : Bytes) (o : Nat) : Int := toS 32 (u32 b o)

/-- Bits `hi` down to `lo` of `v`. -/
def bits (v hi lo : Nat) : Nat := (v / 2 ^ lo) % 2 ^ (hi + 1 - lo)

/-- Bit `i` of `v`. -/
def bit (v i : Nat) : Bool := v / 2 ^ i % 2 == 1

/-- `v` with bit `i` set. -/
def setBit (v i : Nat) : Nat := if bit v i then v else v + 2 ^ i

/-- `v` with bit `i` cleared. -/
def clrBit (v i : Nat) : Nat := if bit v i then v - 2 ^ i else v

def b2n (b : Bool) : Nat := if b then 1 else 0

/-- Clamp an integer into `lo`..`hi`. -/
def clampI (lo hi v : Int) : Int := if v < lo then lo else if hi < v then hi else v

/-- Saturate an integer into an unsigned field of `w` bits (R10). -/
def satU (w : Nat) (v : Int) : Nat := (clampI 0 ((2 ^ w - 1 : Nat) : Int) v).toNat

/-- Saturate an integer into a signed field of `w` bits, as its two's complement word (R10). -/
def satS (w : Nat) (v : Int) : Nat := ofS w (clampI (-((2 ^ (w - 1) : Nat) : Int)) ((2 ^ (w - 1) - 1 : Nat) : Int) v)

/-- Division rounding half up (R10): ⌊(v + d/2) / d⌋. -/
def divRound (v : Int) (d : Nat) : Int := (2 * v + (d : Int)) / (2 * (d : Int))

/-- A natural shifted right by `n`, rounding half up (R10). -/
def shrRound (v n : Nat) : Nat := (v + 2 ^ n / 2) / 2 ^ n

/-- Up-division. -/
def ceilDiv (a b : Nat) : Nat := (a + b - 1) / b

/-- A list cut into pieces of `n` (the last may be shorter); `fuel` bounds the number of pieces. -/
def chunksF {α : Type} : Nat → Nat → List α → List (List α)
  | 0, _, _ => []
  | _ + 1, _, [] => []
  | fuel + 1, n, x :: t => (x :: t).take n :: chunksF fuel n ((x :: t).drop n)

/-- The records of a table of `n`-byte records (R50). -/
def records (n : Nat) (b : Bytes) : List Bytes := chunksF (b.length / n) n b

/-- Replace element `i` (no effect beyond the end). -/
def setAt {α : Type} : List α → Nat → α → List α
  | [], _, _ => []
  | _ :: t, 0, v => v :: t
  | x :: t, i + 1, v => x :: setAt t i v

/-- Apply `f` to element `i`. -/
def modAt {α : Type} : List α → Nat → (α → α) → List α
  | [], _, _ => []
  | x :: t, 0, f => f x :: t
  | x :: t, i + 1, f => x :: modAt t i f

/-- Replace bytes at an offset. -/
def putAt (b : Bytes) (off : Nat) (v : Bytes) : Bytes := b.take off ++ v ++ b.drop (off + v.length)

/-- Insert before the first element that does not come before `x` by `le`. -/
def insertBy {α : Type} (le : α → α → Bool) (x : α) : List α → List α
  | [] => [x]
  | y :: t => if le x y then x :: y :: t else y :: insertBy le x t

/-- A list in the order of `le`, equal elements in the order they had. -/
def sortBy {α : Type} (le : α → α → Bool) (l : List α) : List α := l.foldr (insertBy le) []

/-- Look a key up in a keyed list. -/
def kvGet {α : Type} (k : Nat) : List (Nat × α) → Option α
  | [] => none
  | (j, v) :: t => if j = k then some v else kvGet k t

/-- Set a key in a keyed list whose keys rise strictly; the list keeps that form. -/
def kvSet {α : Type} (k : Nat) (v : α) : List (Nat × α) → List (Nat × α)
  | [] => [(k, v)]
  | (j, w) :: t => if k < j then (k, v) :: (j, w) :: t else if k = j then (k, v) :: t else (j, w) :: kvSet k v t

/-- Remove a key. -/
def kvDel {α : Type} (k : Nat) (l : List (Nat × α)) : List (Nat × α) := l.filter (fun p => p.1 != k)

/-- A keyed list read with a default. -/
def kvGetD {α : Type} (k : Nat) (d : α) (l : List (Nat × α)) : α := (kvGet k l).getD d

/-- Update one key, from a default where it is absent. -/
def kvMod {α : Type} (k : Nat) (d : α) (f : α → α) (l : List (Nat × α)) : List (Nat × α) :=
  kvSet k (f (kvGetD k d l)) l

/-- One bit step of a reflected CRC. -/
def crcStep (poly c : Nat) : Nat := if c % 2 = 1 then (c / 2) ^^^ poly else c / 2

/-- One byte into a reflected CRC. -/
def crcByte (poly c : Nat) (x : Byte) : Nat := (List.range 8).foldl (fun a _ => crcStep poly a) (c ^^^ x.toNat)

/-- A reflected 32-bit CRC with all-ones start and final inversion. -/
def crcRefl (poly : Nat) (b : Bytes) : Nat := (b.foldl (crcByte poly) 0xFFFFFFFF) ^^^ 0xFFFFFFFF

/-- CRC-32C (Castagnoli), as R76 and the image formats name it.
PRESUMED: the parameters are those of the public standard the name refers to (log entry 20). -/
def crc32c (b : Bytes) : Nat := crcRefl 0x82F63B78 b

/-- CRC-32 of Ethernet, the frame check sequence (R135). PRESUMED: the standard's parameters (log entry 20). -/
def crc32 (b : Bytes) : Nat := crcRefl 0xEDB88320 b

/-- A later frame number than `b` (R27): (a − b) mod 2^32 in 1 .. 2^31 − 1. -/
def frameLater (a b : Nat) : Bool :=
  let d := (a + 2 ^ 32 - b % 2 ^ 32) % 2 ^ 32
  1 ≤ d && d < 2 ^ 31

/-- A sixteen-bit sequence number `a` not behind `b`. -/
def seqDiff16 (a b : Nat) : Int := toS 16 (a + 2 ^ 16 - b % 2 ^ 16)

/-- A list with `x` appended, keeping only the newest `n` elements (EVENT_LOG, POSTED_LOG and other bounded logs). -/
def pushLast {α : Type} (n : Nat) (l : List α) (x : α) : List α := (l ++ [x]).drop (l.length + 1 - n)

/-- Seconds and nanoseconds of an 80-bit TIME (R50), from nanoseconds. -/
def timeOfNs (ns : Nat) : Nat := ns / 1000000000 * 2 ^ 32 + ns % 1000000000

/-- Nanoseconds of an 80-bit TIME (R50). -/
def nsOfTime (t : Nat) : Nat := t / 2 ^ 32 * 1000000000 + t % 2 ^ 32

/-- A TIME whose nanoseconds field is at most 999,999,999 (R50). -/
def timeOk (t : Nat) : Bool := t % 2 ^ 32 ≤ 999999999

end Sys2Proof.Machine
end

