-- ==== Sys2Proof/Machine/OdTable.lean ====
section
/-!
DEFINITION. The object dictionary's entries: one descriptor for each row of the OD tables of spec/00 to spec/21 (index,
type, access, classes, P flag, range, default, clearing), written out from those tables. R49: the running image fixes
these properties. Entries marked '—' in the Default column have the value log entry 5 names.
-/
namespace Sys2Proof.Machine

/-- The access codes of R51. -/
inductive Acc where
  | r | w | rw | rws | x
  deriving DecidableEq, Repr

/-- The default of a TABLE, BLOB or STR entry, as its row gives it. -/
inductive TabDflt where
  /-- these bytes -/
  | lit (b : Bytes)
  /-- `count` records, each these bytes -/
  | rep (count : Nat) (b : Bytes)
  /-- 4,096 U32 records, record i = i × num / den (the identity ramps of R173, R180, R202) -/
  | ramp (num den : Nat)
  /-- the 16 EMITTER_CLASS records of R211 -/
  | emitters
  /-- the NTC_TABLE of a part without a wafer-test table: 33 records, CODE 512 × i, TEMP −640 + 85 × i (log entry 48) -/
  | ntc
  deriving DecidableEq, Repr

/-- One row of an OD table. `key` is INDEX × 256 + SUB; a row with one sub per port, page or class stands for `n`
entries from `key` on. `lo`..`hi` is the Range column for numbers; a table has records of `recLen` bytes, at most
`maxRec`, exactly so many where `fixed`. -/
structure OdRow where
  key : Nat
  n : Nat := 1
  ty : Nat
  len : Nat := 0
  acc : Acc
  /-- bit 0: class M, bit 1: class O, bit 2: class P (R52) -/
  cls : Nat
  persist : Bool := false
  clr : Bool := false
  wrap : Bool := false
  start : Bool := false
  stop : Bool := false
  lo : Int := 0
  hi : Int := 0
  dflt : Nat := 0
  alts : List (Nat × Nat) := []
  recLen : Nat := 0
  maxRec : Nat := 0
  fixed : Bool := false
  dtab : TabDflt := .lit []
  deriving DecidableEq, Repr

/-- TABLE, BLOB or STR: held as bytes. -/
def OdRow.isTab (r : OdRow) : Bool := r.ty == 11 || r.ty == 12 || r.ty == 13

/-- S16 or S32. -/
def OdRow.isSigned (r : OdRow) : Bool := r.ty == 6 || r.ty == 7

/-- The default of entry `i` of a row. -/
def OdRow.default (r : OdRow) (i : Nat) : Nat := kvGetD i r.dflt r.alts

/-- 0x1000.00 IDENTITY (spec/00_scope.md). -/
def Od.identity : OdRow := { key := 0x100000, ty := 4, len := 4, acc := .r, cls := 7, hi := 4294967295, dflt := 1129088000 }
/-- 0x1000.01 SILICON_REV (spec/00_scope.md). -/
def Od.siliconRev : OdRow := { key := 0x100001, ty := 11, len := 4, acc := .r, cls := 7, dtab := .lit [0x42#8, 0x30#8, 0x00#8, 0x00#8] }
/-- 0x1800.01 DEVICE_NUMBER (spec/01_venue_and_scale.md). -/
def Od.deviceNumber : OdRow := { key := 0x180001, ty := 3, len := 2, acc := .rw, cls := 1, persist := true, hi := 4095 }
/-- 0x1800.02 NUMBER_SET (spec/01_venue_and_scale.md). -/
def Od.numberSet : OdRow := { key := 0x180002, ty := 1, len := 1, acc := .r, cls := 7, hi := 1 }
/-- 0x1800.03 PAIR_PARTNER (spec/01_venue_and_scale.md). -/
def Od.pairPartner : OdRow := { key := 0x180003, ty := 3, len := 2, acc := .rw, cls := 1, persist := true, hi := 65535, dflt := 65535 }
/-- 0x1800.04 SHOW_GROUP_V4 (spec/01_venue_and_scale.md). -/
def Od.showGroupV4 : OdRow := { key := 0x180004, ty := 4, len := 4, acc := .rw, cls := 1, persist := true, lo := 3758096384, hi := 4026531839, dflt := 4026517624 }
/-- 0x1800.05 REPLY_SLOT (spec/01_venue_and_scale.md). -/
def Od.replySlot : OdRow := { key := 0x180005, ty := 3, len := 2, acc := .rw, cls := 1, persist := true, hi := 1000, dflt := 10 }
/-- 0x1800.06 GROUP_IGNORED (spec/01_venue_and_scale.md). -/
def Od.groupIgnored : OdRow := { key := 0x180006, ty := 3, len := 2, acc := .r, cls := 1, clr := true, hi := 65535 }
/-- 0x1800.07 GROUP_LATE (spec/01_venue_and_scale.md). -/
def Od.groupLate : OdRow := { key := 0x180007, ty := 3, len := 2, acc := .r, cls := 1, clr := true, hi := 65535 }
/-- 0x1810.01 SECTION_COUNT (spec/01_venue_and_scale.md). -/
def Od.sectionCount : OdRow := { key := 0x181001, ty := 2, len := 1, acc := .rws, cls := 1, persist := true, lo := 1, hi := 16, dflt := 1 }
/-- 0x1810.02 SECTION_LIST (spec/01_venue_and_scale.md). -/
def Od.sectionList : OdRow := { key := 0x181002, ty := 13, acc := .rws, cls := 1, persist := true, recLen := 6, maxRec := 16, dtab := .lit [0x00#8, 0x00#8, 0x00#8, 0x00#8, 0x00#8, 0x00#8] }
/-- 0x1820.01 PX_PER_FRAME (spec/01_venue_and_scale.md). -/
def Od.pxPerFrame : OdRow := { key := 0x182001, ty := 4, len := 4, acc := .r, cls := 3, hi := 4294967295 }
/-- 0x1820.02 PX_BUDGET (spec/01_venue_and_scale.md). -/
def Od.pxBudget : OdRow := { key := 0x182002, ty := 4, len := 4, acc := .r, cls := 3, hi := 4294967295 }
/-- 0x1820.03 TILES_USED (spec/01_venue_and_scale.md). -/
def Od.tilesUsed : OdRow := { key := 0x182003, ty := 3, len := 2, acc := .r, cls := 3, hi := 65535 }
/-- 0x1820.04 FEEDS_USED (spec/01_venue_and_scale.md). -/
def Od.feedsUsed : OdRow := { key := 0x182004, ty := 3, len := 2, acc := .r, cls := 3, hi := 65535 }
/-- 0x1820.05 ENDPOINTS_USED (spec/01_venue_and_scale.md). -/
def Od.endpointsUsed : OdRow := { key := 0x182005, ty := 3, len := 2, acc := .r, cls := 3, hi := 65535 }
/-- 0x1820.06 SAMPLES_USED (spec/01_venue_and_scale.md). -/
def Od.samplesUsed : OdRow := { key := 0x182006, ty := 4, len := 4, acc := .r, cls := 3, hi := 4294967295 }
/-- 0x1820.07 UNIV_IN_USED (spec/01_venue_and_scale.md). -/
def Od.univInUsed : OdRow := { key := 0x182007, ty := 3, len := 2, acc := .r, cls := 3, hi := 65535 }
/-- 0x1820.08 UNIV_OUT_USED (spec/01_venue_and_scale.md). -/
def Od.univOutUsed : OdRow := { key := 0x182008, ty := 3, len := 2, acc := .r, cls := 3, hi := 65535 }
/-- 0x1400.01 COMMIT (spec/02_frame_tick.md). -/
def Od.commit : OdRow := { key := 0x140001, ty := 0, len := 8, acc := .x, cls := 3, hi := 18446744073709551615 }
/-- 0x1400.02 COMMIT_AT (spec/02_frame_tick.md). -/
def Od.commitAt : OdRow := { key := 0x140002, ty := 9, len := 10, acc := .w, cls := 3, hi := 1208925819614629174706175 }
/-- 0x1400.03 BOUND_FRAME (spec/02_frame_tick.md). -/
def Od.boundFrame : OdRow := { key := 0x140003, ty := 4, len := 4, acc := .r, cls := 7, hi := 4294967295 }
/-- 0x1400.04 PENDING_COMMITS (spec/02_frame_tick.md). -/
def Od.pendingCommits : OdRow := { key := 0x140004, ty := 2, len := 1, acc := .r, cls := 3, hi := 255 }
/-- 0x1400.05 CANCEL_PENDING (spec/02_frame_tick.md). -/
def Od.cancelPending : OdRow := { key := 0x140005, ty := 0, len := 8, acc := .x, cls := 1, hi := 18446744073709551615 }
/-- 0x1400.06 DIRTY_COUNT (spec/02_frame_tick.md). -/
def Od.dirtyCount : OdRow := { key := 0x140006, ty := 3, len := 2, acc := .r, cls := 3, hi := 65535 }
/-- 0x1401.00 COMMIT_CUTOFF (spec/02_frame_tick.md). -/
def Od.commitCutoff : OdRow := { key := 0x140100, ty := 4, len := 4, acc := .rw, cls := 1, persist := true, lo := 50, hi := 5000, dflt := 250 }
/-- 0x1402.00 PRESENT_DELAY (spec/02_frame_tick.md). -/
def Od.presentDelay : OdRow := { key := 0x140200, ty := 2, len := 1, acc := .rws, cls := 1, persist := true, lo := 2, hi := 8, dflt := 2 }
/-- 0x1403.00 FRAME_RATE (spec/02_frame_tick.md). -/
def Od.frameRate : OdRow := { key := 0x140300, ty := 2, len := 1, acc := .rws, cls := 1, persist := true, lo := 1, hi := 17, dflt := 9 }
/-- 0x1404.00 LAUNCH_GUARD (spec/02_frame_tick.md). -/
def Od.launchGuard : OdRow := { key := 0x140400, ty := 4, len := 4, acc := .rw, cls := 1, persist := true, lo := 10, hi := 1000, dflt := 40 }
/-- 0x1405.00 TICK_OUT_EN (spec/02_frame_tick.md). -/
def Od.tickOutEn : OdRow := { key := 0x140500, ty := 1, len := 1, acc := .rw, cls := 1, persist := true, hi := 1, dflt := 1 }
/-- 0x1406.00 TICK_OUT_DIV (spec/02_frame_tick.md). -/
def Od.tickOutDiv : OdRow := { key := 0x140600, ty := 2, len := 1, acc := .rw, cls := 1, persist := true, lo := 1, hi := 255, dflt := 1 }
/-- 0x1410.01 CURRENT_FRAME (spec/02_frame_tick.md). -/
def Od.currentFrame : OdRow := { key := 0x141001, ty := 4, len := 4, acc := .r, cls := 7, hi := 4294967295 }
/-- 0x1410.02 PRESENTED_FRAME (spec/02_frame_tick.md). -/
def Od.presentedFrame : OdRow := { key := 0x141002, ty := 4, len := 4, acc := .r, cls := 7, hi := 4294967295 }
/-- 0x1410.03 TICK_ORIGIN (spec/02_frame_tick.md). -/
def Od.tickOrigin : OdRow := { key := 0x141003, ty := 9, len := 10, acc := .r, cls := 7, hi := 1208925819614629174706175 }
/-- 0x1410.04 TIMELINE_STATE (spec/02_frame_tick.md). -/
def Od.timelineState : OdRow := { key := 0x141004, ty := 2, len := 1, acc := .r, cls := 7, hi := 255 }
/-- 0x1411.01 HOLDS (spec/02_frame_tick.md). -/
def Od.holds : OdRow := { key := 0x141101, ty := 4, len := 4, acc := .r, cls := 3, wrap := true, hi := 4294967295 }
/-- 0x1411.02 HELD_LAST (spec/02_frame_tick.md). -/
def Od.heldLast : OdRow := { key := 0x141102, ty := 4, len := 4, acc := .r, cls := 3, hi := 4294967295 }
/-- 0x1411.03 MISSED_TICKS (spec/02_frame_tick.md). -/
def Od.missedTicks : OdRow := { key := 0x141103, ty := 3, len := 2, acc := .r, cls := 3, clr := true, hi := 65535 }
/-- 0x1411.04 MISSED_RUN (spec/02_frame_tick.md). -/
def Od.missedRun : OdRow := { key := 0x141104, ty := 2, len := 1, acc := .r, cls := 3, hi := 255 }
/-- 0x1411.05 LATE_BOUND_COUNT (spec/02_frame_tick.md). -/
def Od.lateBoundCount : OdRow := { key := 0x141105, ty := 3, len := 2, acc := .r, cls := 3, clr := true, hi := 65535 }
/-- 0x1411.06 SKIPPED_FRAMES (spec/02_frame_tick.md). -/
def Od.skippedFrames : OdRow := { key := 0x141106, ty := 3, len := 2, acc := .r, cls := 3, clr := true, hi := 65535 }
/-- 0x1411.07 TRANSITION_HOLDS (spec/02_frame_tick.md). -/
def Od.transitionHolds : OdRow := { key := 0x141107, ty := 3, len := 2, acc := .r, cls := 3, clr := true, hi := 65535 }
/-- 0x1411.08 TIMELINE_RESTARTS (spec/02_frame_tick.md). -/
def Od.timelineRestarts : OdRow := { key := 0x141108, ty := 3, len := 2, acc := .r, cls := 3, clr := true, hi := 65535 }
/-- 0x1000.02 SERIAL (spec/03_object_dictionary.md). -/
def Od.serial : OdRow := { key := 0x100002, ty := 11, len := 16, acc := .r, cls := 7 }
/-- 0x1000.03 IMAGE_VERSION (spec/03_object_dictionary.md). -/
def Od.imageVersion : OdRow := { key := 0x100003, ty := 4, len := 4, acc := .r, cls := 7, hi := 4294967295 }
/-- 0x1000.04 OD_SCHEMA (spec/03_object_dictionary.md). -/
def Od.odSchema : OdRow := { key := 0x100004, ty := 3, len := 2, acc := .r, cls := 7, hi := 65535 }
/-- 0x1001.01 OD_UDP_PORT (spec/03_object_dictionary.md). -/
def Od.odUdpPort : OdRow := { key := 0x100101, ty := 3, len := 2, acc := .rw, cls := 1, persist := true, lo := 1024, hi := 65535, dflt := 51120 }
/-- 0x1001.02 MGMT1_CLASS (spec/03_object_dictionary.md). -/
def Od.mgmt1Class : OdRow := { key := 0x100102, ty := 2, len := 1, acc := .rw, cls := 1, persist := true, hi := 1 }
/-- 0x1001.03 SUB_LEASE (spec/03_object_dictionary.md). -/
def Od.subLease : OdRow := { key := 0x100103, ty := 3, len := 2, acc := .rw, cls := 1, persist := true, lo := 10, hi := 3600, dflt := 60 }
/-- 0x1002.00 PERSIST_PENDING (spec/03_object_dictionary.md). -/
def Od.persistPending : OdRow := { key := 0x100200, ty := 1, len := 1, acc := .r, cls := 1, hi := 1 }
/-- 0x1003.00 SYNC (spec/03_object_dictionary.md). -/
def Od.sync : OdRow := { key := 0x100300, ty := 0, len := 8, acc := .x, cls := 1, hi := 18446744073709551615 }
/-- 0x1010.01 RX_MSGS (spec/03_object_dictionary.md). -/
def Od.rxMsgs : OdRow := { key := 0x101001, ty := 4, len := 4, acc := .r, cls := 3, wrap := true, start := true, hi := 4294967295 }
/-- 0x1010.02 MSG_DISCARDED (spec/03_object_dictionary.md). -/
def Od.msgDiscarded : OdRow := { key := 0x101002, ty := 3, len := 2, acc := .r, cls := 1, clr := true, hi := 65535 }
/-- 0x1010.03 CLASS_T_DROPPED (spec/03_object_dictionary.md). -/
def Od.classTDropped : OdRow := { key := 0x101003, ty := 3, len := 2, acc := .r, cls := 1, clr := true, hi := 65535 }
/-- 0x1010.04 NO_RIGHT_COUNT (spec/03_object_dictionary.md). -/
def Od.noRightCount : OdRow := { key := 0x101004, ty := 3, len := 2, acc := .r, cls := 1, clr := true, hi := 65535 }
/-- 0x1010.05 QUEUE_DROPS (spec/03_object_dictionary.md). -/
def Od.queueDrops : OdRow := { key := 0x101005, ty := 3, len := 2, acc := .r, cls := 1, clr := true, hi := 65535 }
/-- 0x1010.06 DUP_REPLIES (spec/03_object_dictionary.md). -/
def Od.dupReplies : OdRow := { key := 0x101006, ty := 3, len := 2, acc := .r, cls := 1, clr := true, hi := 65535 }
/-- 0x1011.01 POSTED_FAILS (spec/03_object_dictionary.md). -/
def Od.postedFails : OdRow := { key := 0x101101, ty := 3, len := 2, acc := .r, cls := 3, clr := true, hi := 65535 }
/-- 0x1011.02 POSTED_LOG (spec/03_object_dictionary.md). -/
def Od.postedLog : OdRow := { key := 0x101102, ty := 13, acc := .r, cls := 3 }
/-- 0x1020.01 SUBSCRIBERS (spec/03_object_dictionary.md). -/
def Od.subscribers : OdRow := { key := 0x102001, ty := 13, acc := .r, cls := 1 }
/-- 0x1020.02 NOTIFY_LOST (spec/03_object_dictionary.md). -/
def Od.notifyLost : OdRow := { key := 0x102002, ty := 3, len := 2, acc := .r, cls := 1, clr := true, hi := 65535 }
/-- 0x1021.00 EVENT_LOG (spec/03_object_dictionary.md). -/
def Od.eventLog : OdRow := { key := 0x102100, ty := 13, acc := .r, cls := 1 }
/-- 0x1030.01 IRQ_MASK (spec/03_object_dictionary.md). -/
def Od.irqMask : OdRow := { key := 0x103001, ty := 3, len := 2, acc := .rw, cls := 1, persist := true, hi := 65535 }
/-- 0x1030.02 IRQ_PENDING (spec/03_object_dictionary.md). -/
def Od.irqPending : OdRow := { key := 0x103002, ty := 3, len := 2, acc := .rw, cls := 1, hi := 65535 }
/-- 0x1040.00 SNAPSHOT_FRAME (spec/03_object_dictionary.md). -/
def Od.snapshotFrame : OdRow := { key := 0x104000, ty := 4, len := 4, acc := .r, cls := 3, hi := 4294967295 }
/-- 0x2000.01 SELECT (spec/04_time.md). -/
def Od.select : OdRow := { key := 0x200001, ty := 2, len := 1, acc := .rw, cls := 1, persist := true, hi := 1 }
/-- 0x2000.02 SWITCH_AT (spec/04_time.md). -/
def Od.switchAt : OdRow := { key := 0x200002, ty := 9, len := 10, acc := .rw, cls := 1, hi := 1208925819614629174706175 }
/-- 0x2000.03 AUTO_SWITCH (spec/04_time.md). -/
def Od.autoSwitch : OdRow := { key := 0x200003, ty := 1, len := 1, acc := .rw, cls := 1, persist := true, hi := 1, dflt := 1 }
/-- 0x2000.04 SWITCH_SLEW (spec/04_time.md). -/
def Od.switchSlew : OdRow := { key := 0x200004, ty := 2, len := 1, acc := .rw, cls := 1, persist := true, lo := 1, hi := 100, dflt := 10 }
/-- 0x2000.05 DEVICE_TIME (spec/04_time.md). -/
def Od.deviceTime : OdRow := { key := 0x200005, ty := 9, len := 10, acc := .r, cls := 7, hi := 1208925819614629174706175 }
/-- 0x2000.06 TIME_SET (spec/04_time.md). -/
def Od.timeSet : OdRow := { key := 0x200006, ty := 1, len := 1, acc := .r, cls := 7, hi := 1 }
/-- 0x2000.07 OFFSET_AB (spec/04_time.md). -/
def Od.offsetAb : OdRow := { key := 0x200007, ty := 7, len := 4, acc := .r, cls := 3, lo := -2147483648, hi := 2147483647 }
/-- 0x2000.08 SLEW_REMAINING (spec/04_time.md). -/
def Od.slewRemaining : OdRow := { key := 0x200008, ty := 7, len := 4, acc := .r, cls := 3, lo := -2147483648, hi := 2147483647 }
/-- 0x2000.09 STEP_THRESHOLD (spec/04_time.md). -/
def Od.stepThreshold : OdRow := { key := 0x200009, ty := 4, len := 4, acc := .rw, cls := 1, persist := true, lo := 1000, hi := 1000000000, dflt := 50000 }
/-- 0x2000.0A NO_STEP_RUNNING (spec/04_time.md). -/
def Od.noStepRunning : OdRow := { key := 0x20000A, ty := 1, len := 1, acc := .rw, cls := 1, persist := true, hi := 1 }
/-- 0x2000.0B LATE_WINDOW (spec/04_time.md). -/
def Od.lateWindow : OdRow := { key := 0x20000B, ty := 4, len := 4, acc := .rw, cls := 1, persist := true, lo := 100, hi := 1000000, dflt := 5000 }
/-- 0x2000.0C LATE_POLICY (spec/04_time.md). -/
def Od.latePolicy : OdRow := { key := 0x20000C, ty := 2, len := 1, acc := .rw, cls := 1, persist := true, hi := 1 }
/-- 0x2000.0D SWITCHES (spec/04_time.md). -/
def Od.switches : OdRow := { key := 0x20000D, ty := 3, len := 2, acc := .r, cls := 3, clr := true, hi := 65535 }
/-- 0x2000.0E TIME_STEPS (spec/04_time.md). -/
def Od.timeSteps : OdRow := { key := 0x20000E, ty := 3, len := 2, acc := .r, cls := 3, clr := true, hi := 65535 }
/-- 0x2000.0F STEP_FLUSHED (spec/04_time.md). -/
def Od.stepFlushed : OdRow := { key := 0x20000F, ty := 3, len := 2, acc := .r, cls := 1, clr := true, hi := 65535 }
/-- 0x2000.10 TRIM_GENERATION (spec/04_time.md). -/
def Od.trimGeneration : OdRow := { key := 0x200010, ty := 3, len := 2, acc := .r, cls := 1, wrap := true, hi := 65535 }
/-- 0x2010.01 ENABLE (spec/04_time.md). -/
def Od.ptpEnable : OdRow := { key := 0x201001, ty := 1, len := 1, acc := .rw, cls := 1, persist := true, hi := 1, dflt := 1 }
/-- 0x2010.02 PROFILE (spec/04_time.md). -/
def Od.ptpProfile : OdRow := { key := 0x201002, ty := 2, len := 1, acc := .rw, cls := 1, persist := true, stop := true, hi := 2, dflt := 1 }
/-- 0x2010.03 TRANSPORT (spec/04_time.md). -/
def Od.ptpTransport : OdRow := { key := 0x201003, ty := 2, len := 1, acc := .rw, cls := 1, persist := true, stop := true, hi := 2 }
/-- 0x2010.04 PORT (spec/04_time.md). -/
def Od.ptpPort : OdRow := { key := 0x201004, ty := 2, len := 1, acc := .rw, cls := 1, persist := true, stop := true, hi := 25 }
/-- 0x2010.05 DOMAIN_NUMBER (spec/04_time.md). -/
def Od.ptpDomainNumber : OdRow := { key := 0x201005, ty := 2, len := 1, acc := .rw, cls := 1, persist := true, stop := true, hi := 127, dflt := 127 }
/-- 0x2010.06 LOCK_THRESHOLD (spec/04_time.md). -/
def Od.ptpLockThreshold : OdRow := { key := 0x201006, ty := 4, len := 4, acc := .rw, cls := 1, persist := true, lo := 20, hi := 10000, dflt := 100 }
/-- 0x2010.07 UNLOCK_THRESHOLD (spec/04_time.md). -/
def Od.ptpUnlockThreshold : OdRow := { key := 0x201007, ty := 4, len := 4, acc := .rw, cls := 1, persist := true, lo := 100, hi := 100000, dflt := 1000 }
/-- 0x2010.08 HOLDOVER_LIMIT (spec/04_time.md). -/
def Od.ptpHoldoverLimit : OdRow := { key := 0x201008, ty := 3, len := 2, acc := .rw, cls := 1, persist := true, hi := 3600, dflt := 60 }
/-- 0x2010.09 SERVO_BW (spec/04_time.md). -/
def Od.ptpServoBw : OdRow := { key := 0x201009, ty := 3, len := 2, acc := .rw, cls := 1, persist := true, lo := 10, hi := 2000, dflt := 100 }
/-- 0x2010.0A DELAY_ASYM (spec/04_time.md). -/
def Od.ptpDelayAsym : OdRow := { key := 0x20100A, ty := 7, len := 4, acc := .rw, cls := 1, persist := true, lo := -1000000, hi := 1000000 }
/-- 0x2010.0B ACCEPTABLE_MASTERS (spec/04_time.md). -/
def Od.ptpAcceptableMasters : OdRow := { key := 0x20100B, ty := 13, acc := .rw, cls := 1, persist := true, recLen := 8, maxRec := 8 }
/-- 0x2010.0C ANNOUNCE_RECEIPT_TIMEOUT (spec/04_time.md). -/
def Od.ptpAnnounceReceiptTimeout : OdRow := { key := 0x20100C, ty := 2, len := 1, acc := .rw, cls := 1, persist := true, lo := 2, hi := 10, dflt := 3 }
/-- 0x2010.10 STATE (spec/04_time.md). -/
def Od.ptpState : OdRow := { key := 0x201010, ty := 2, len := 1, acc := .r, cls := 7, hi := 255 }
/-- 0x2010.11 OFFSET (spec/04_time.md). -/
def Od.ptpOffset : OdRow := { key := 0x201011, ty := 7, len := 4, acc := .r, cls := 3, lo := -2147483648, hi := 2147483647 }
/-- 0x2010.12 MEAN_PATH_DELAY (spec/04_time.md). -/
def Od.ptpMeanPathDelay : OdRow := { key := 0x201012, ty := 4, len := 4, acc := .r, cls := 3, hi := 4294967295 }
/-- 0x2010.13 FREQ_ADJ (spec/04_time.md). -/
def Od.ptpFreqAdj : OdRow := { key := 0x201013, ty := 7, len := 4, acc := .r, cls := 3, lo := -2147483648, hi := 2147483647 }
/-- 0x2010.14 MASTER_ID (spec/04_time.md). -/
def Od.ptpMasterId : OdRow := { key := 0x201014, ty := 5, len := 8, acc := .r, cls := 3, hi := 18446744073709551615 }
/-- 0x2010.15 UTC_OFFSET (spec/04_time.md). -/
def Od.ptpUtcOffset : OdRow := { key := 0x201015, ty := 6, len := 2, acc := .r, cls := 3, lo := -32768, hi := 32767 }
/-- 0x2010.16 SYNC_RX (spec/04_time.md). -/
def Od.ptpSyncRx : OdRow := { key := 0x201016, ty := 4, len := 4, acc := .r, cls := 3, wrap := true, start := true, hi := 4294967295 }
/-- 0x2010.17 ANNOUNCE_TIMEOUTS (spec/04_time.md). -/
def Od.ptpAnnounceTimeouts : OdRow := { key := 0x201017, ty := 3, len := 2, acc := .r, cls := 3, clr := true, hi := 65535 }
/-- 0x2010.18 LOCK_LOSSES (spec/04_time.md). -/
def Od.ptpLockLosses : OdRow := { key := 0x201018, ty := 3, len := 2, acc := .r, cls := 3, clr := true, hi := 65535 }
/-- 0x2010.19 RX_DISCARDED (spec/04_time.md). -/
def Od.ptpRxDiscarded : OdRow := { key := 0x201019, ty := 3, len := 2, acc := .r, cls := 1, clr := true, hi := 65535 }
/-- 0x2030.01 PPS_IN_MODE (spec/04_time.md). -/
def Od.ppsInMode : OdRow := { key := 0x203001, ty := 2, len := 1, acc := .rw, cls := 1, persist := true, hi := 2 }
/-- 0x2030.02 PPS_IN_DELAY (spec/04_time.md). -/
def Od.ppsInDelay : OdRow := { key := 0x203002, ty := 4, len := 4, acc := .rw, cls := 1, persist := true, hi := 1000000 }
/-- 0x2030.03 PPS_IN_OFFSET (spec/04_time.md). -/
def Od.ppsInOffset : OdRow := { key := 0x203003, ty := 7, len := 4, acc := .r, cls := 3, lo := -2147483648, hi := 2147483647 }
/-- 0x2030.04 PPS_IN_EDGES (spec/04_time.md). -/
def Od.ppsInEdges : OdRow := { key := 0x203004, ty := 4, len := 4, acc := .r, cls := 3, wrap := true, start := true, hi := 4294967295 }
/-- 0x2030.05 PPS_IN_FAR_COUNT (spec/04_time.md). -/
def Od.ppsInFarCount : OdRow := { key := 0x203005, ty := 3, len := 2, acc := .r, cls := 1, clr := true, hi := 65535 }
/-- 0x2030.06 PPS_OUT_EN (spec/04_time.md). -/
def Od.ppsOutEn : OdRow := { key := 0x203006, ty := 1, len := 1, acc := .rw, cls := 1, persist := true, hi := 1 }
/-- 0x2030.07 PPS_OUT_WIDTH (spec/04_time.md). -/
def Od.ppsOutWidth : OdRow := { key := 0x203007, ty := 4, len := 4, acc := .rw, cls := 1, persist := true, lo := 1, hi := 500000, dflt := 100000 }
/-- 0x2040.01 MGMT0_PHY_RX_DELAY (spec/04_time.md). -/
def Od.mgmt0PhyRxDelay : OdRow := { key := 0x204001, ty := 3, len := 2, acc := .rw, cls := 1, persist := true, hi := 2000 }
/-- 0x2040.02 MGMT0_PHY_TX_DELAY (spec/04_time.md). -/
def Od.mgmt0PhyTxDelay : OdRow := { key := 0x204002, ty := 3, len := 2, acc := .rw, cls := 1, persist := true, hi := 2000 }
/-- 0x2040.03 MGMT1_PHY_RX_DELAY (spec/04_time.md). -/
def Od.mgmt1PhyRxDelay : OdRow := { key := 0x204003, ty := 3, len := 2, acc := .rw, cls := 1, persist := true, hi := 2000 }
/-- 0x2040.04 MGMT1_PHY_TX_DELAY (spec/04_time.md). -/
def Od.mgmt1PhyTxDelay : OdRow := { key := 0x204004, ty := 3, len := 2, acc := .rw, cls := 1, persist := true, hi := 2000 }
/-- 0x2100.00 TSQ_LOST (spec/04_time.md). -/
def Od.tsqLost : OdRow := { key := 0x210000, n := 26, ty := 3, len := 2, acc := .r, cls := 1, clr := true, hi := 65535 }
/-- 0x2101.00 TSQ_OVF (spec/04_time.md). -/
def Od.tsqOvf : OdRow := { key := 0x210100, n := 26, ty := 1, len := 1, acc := .rw, cls := 1, hi := 1 }
/-- 0x2102.00 TSQ_LEVEL (spec/04_time.md). -/
def Od.tsqLevel : OdRow := { key := 0x210200, n := 26, ty := 2, len := 1, acc := .r, cls := 1, hi := 255 }
/-- 0x2103.00 TSQ_MAX (spec/04_time.md). -/
def Od.tsqMax : OdRow := { key := 0x210300, n := 26, ty := 2, len := 1, acc := .r, cls := 1, clr := true, hi := 255 }
/-- 0x2110.00 LATE_DROPS (spec/04_time.md). -/
def Od.lateDrops : OdRow := { key := 0x211000, n := 26, ty := 3, len := 2, acc := .r, cls := 3, clr := true, hi := 65535 }
/-- 0x2111.00 LATE_SENT (spec/04_time.md). -/
def Od.lateSent : OdRow := { key := 0x211100, n := 26, ty := 3, len := 2, acc := .r, cls := 3, clr := true, hi := 65535 }
/-- 0x2120.00 RX_PATH_DELAY (spec/04_time.md). -/
def Od.rxPathDelay : OdRow := { key := 0x212000, n := 24, ty := 4, len := 4, acc := .r, cls := 1, hi := 4294967295 }
/-- 0x2121.00 TX_PATH_DELAY (spec/04_time.md). -/
def Od.txPathDelay : OdRow := { key := 0x212100, n := 24, ty := 4, len := 4, acc := .r, cls := 1, hi := 4294967295 }
/-- 0x2400.00 BASE_MAC (spec/05_lanes_and_frames.md). -/
def Od.baseMac : OdRow := { key := 0x240000, ty := 5, len := 8, acc := .r, cls := 7, hi := 18446744073709551615 }
/-- 0x2401.00 ZH_ETHERTYPE (spec/05_lanes_and_frames.md). -/
def Od.zhEthertype : OdRow := { key := 0x240100, ty := 3, len := 2, acc := .rw, cls := 1, persist := true, lo := 1536, hi := 65535, dflt := 34997 }
/-- 0x2410.00 LANE_EN (spec/05_lanes_and_frames.md). -/
def Od.laneEn : OdRow := { key := 0x241000, n := 26, ty := 1, len := 1, acc := .rw, cls := 1, persist := true, hi := 1, alts := [(24, 1), (25, 1)] }
/-- 0x2411.00 ROLE (spec/05_lanes_and_frames.md). -/
def Od.role : OdRow := { key := 0x241100, n := 24, ty := 2, len := 1, acc := .rw, cls := 1, persist := true, stop := true, hi := 3 }
/-- 0x2412.00 RATE (spec/05_lanes_and_frames.md). -/
def Od.rate : OdRow := { key := 0x241200, n := 24, ty := 2, len := 1, acc := .rw, cls := 1, persist := true, stop := true, hi := 2, dflt := 2 }
/-- 0x2413.00 FEC (spec/05_lanes_and_frames.md). -/
def Od.fec : OdRow := { key := 0x241300, n := 24, ty := 2, len := 1, acc := .rw, cls := 1, persist := true, stop := true, hi := 2 }
/-- 0x2414.00 MAX_FRAME (spec/05_lanes_and_frames.md). -/
def Od.maxFrame : OdRow := { key := 0x241400, n := 26, ty := 3, len := 2, acc := .rw, cls := 1, persist := true, lo := 64, hi := 9600, dflt := 1522 }
/-- 0x2415.00 PAUSE_HONOUR (spec/05_lanes_and_frames.md). -/
def Od.pauseHonour : OdRow := { key := 0x241500, n := 26, ty := 2, len := 1, acc := .rw, cls := 1, persist := true, hi := 2, dflt := 2 }
/-- 0x2416.00 PFC_EN (spec/05_lanes_and_frames.md). -/
def Od.pfcEn : OdRow := { key := 0x241600, n := 26, ty := 2, len := 1, acc := .rw, cls := 1, persist := true, hi := 255, dflt := 255 }
/-- 0x2417.00 PAUSE_LIMIT (spec/05_lanes_and_frames.md). -/
def Od.pauseLimit : OdRow := { key := 0x241700, n := 26, ty := 4, len := 4, acc := .rw, cls := 1, persist := true, lo := 100, hi := 100000, dflt := 2000 }
/-- 0x2418.00 RX_KEEP_BAD (spec/05_lanes_and_frames.md). -/
def Od.rxKeepBad : OdRow := { key := 0x241800, n := 26, ty := 1, len := 1, acc := .rw, cls := 1, persist := true, hi := 1 }
/-- 0x2419.00 BAD_POUND (spec/05_lanes_and_frames.md). -/
def Od.badPound : OdRow := { key := 0x241900, n := 26, ty := 3, len := 2, acc := .rw, cls := 1, persist := true, hi := 65535, dflt := 65535 }
/-- 0x241A.00 BCAST_EN (spec/05_lanes_and_frames.md). -/
def Od.bcastEn : OdRow := { key := 0x241A00, n := 26, ty := 1, len := 1, acc := .rw, cls := 1, persist := true, hi := 1, dflt := 1 }
/-- 0x241B.00 PROMISC (spec/05_lanes_and_frames.md). -/
def Od.promisc : OdRow := { key := 0x241B00, n := 26, ty := 1, len := 1, acc := .rw, cls := 1, persist := true, hi := 1 }
/-- 0x241C.00 EXACT (spec/05_lanes_and_frames.md). -/
def Od.exact : OdRow := { key := 0x241C00, n := 26, ty := 13, acc := .rw, cls := 1, persist := true, recLen := 9, maxRec := 16, fixed := true }
/-- 0x241D.00 MCAST_HASH (spec/05_lanes_and_frames.md). -/
def Od.mcastHash : OdRow := { key := 0x241D00, n := 26, ty := 13, acc := .rw, cls := 1, persist := true, recLen := 512, maxRec := 1, fixed := true }
/-- 0x241E.00 VLAN_ID (spec/05_lanes_and_frames.md). -/
def Od.vlanId : OdRow := { key := 0x241E00, n := 26, ty := 3, len := 2, acc := .rw, cls := 1, persist := true, hi := 4094 }
/-- 0x241F.00 TXQ_POUND (spec/05_lanes_and_frames.md). -/
def Od.txqPound : OdRow := { key := 0x241F00, n := 26, ty := 13, acc := .rw, cls := 1, persist := true, stop := true, recLen := 2, maxRec := 8, fixed := true }
/-- 0x2420.00 TX_COMPL_POUND (spec/05_lanes_and_frames.md). -/
def Od.txComplPound : OdRow := { key := 0x242000, n := 26, ty := 3, len := 2, acc := .rw, cls := 1, persist := true, stop := true, hi := 4095, alts := [(0, 208), (1, 209), (2, 210), (3, 211), (4, 212), (5, 213), (6, 214), (7, 215), (8, 216), (9, 217), (10, 218), (11, 219), (12, 220), (13, 221), (14, 222), (15, 223), (16, 224), (17, 225), (18, 226), (19, 227), (20, 228), (21, 229), (22, 230), (23, 231), (24, 232), (25, 233)] }
/-- 0x2430.01 MGMT0_SPEED (spec/05_lanes_and_frames.md). -/
def Od.mgmt0Speed : OdRow := { key := 0x243001, ty := 2, len := 1, acc := .rw, cls := 1, persist := true, hi := 2 }
/-- 0x2430.02 MGMT1_SPEED (spec/05_lanes_and_frames.md). -/
def Od.mgmt1Speed : OdRow := { key := 0x243002, ty := 2, len := 1, acc := .rw, cls := 1, persist := true, hi := 2 }
/-- 0x2430.03 MGMT0_TXDLY (spec/05_lanes_and_frames.md). -/
def Od.mgmt0Txdly : OdRow := { key := 0x243003, ty := 1, len := 1, acc := .rw, cls := 1, persist := true, hi := 1 }
/-- 0x2430.04 MGMT0_RXDLY (spec/05_lanes_and_frames.md). -/
def Od.mgmt0Rxdly : OdRow := { key := 0x243004, ty := 1, len := 1, acc := .rw, cls := 1, persist := true, hi := 1 }
/-- 0x2430.05 MGMT1_TXDLY (spec/05_lanes_and_frames.md). -/
def Od.mgmt1Txdly : OdRow := { key := 0x243005, ty := 1, len := 1, acc := .rw, cls := 1, persist := true, hi := 1 }
/-- 0x2430.06 MGMT1_RXDLY (spec/05_lanes_and_frames.md). -/
def Od.mgmt1Rxdly : OdRow := { key := 0x243006, ty := 1, len := 1, acc := .rw, cls := 1, persist := true, hi := 1 }
/-- 0x2440.00 LINK_STATE (spec/05_lanes_and_frames.md). -/
def Od.linkState : OdRow := { key := 0x244000, n := 26, ty := 2, len := 1, acc := .r, cls := 7, hi := 255 }
/-- 0x2441.00 LINK_SPEED (spec/05_lanes_and_frames.md). -/
def Od.linkSpeed : OdRow := { key := 0x244100, n := 26, ty := 2, len := 1, acc := .r, cls := 3, hi := 255 }
/-- 0x2500.00 RX_FRAMES (spec/05_lanes_and_frames.md). -/
def Od.rxFrames : OdRow := { key := 0x250000, n := 26, ty := 4, len := 4, acc := .r, cls := 3, wrap := true, start := true, hi := 4294967295 }
/-- 0x2501.00 RX_BYTES (spec/05_lanes_and_frames.md). -/
def Od.rxBytes : OdRow := { key := 0x250100, n := 26, ty := 5, len := 8, acc := .r, cls := 3, wrap := true, start := true, hi := 18446744073709551615 }
/-- 0x2502.00 TX_FRAMES (spec/05_lanes_and_frames.md). -/
def Od.txFrames : OdRow := { key := 0x250200, n := 26, ty := 4, len := 4, acc := .r, cls := 3, wrap := true, start := true, hi := 4294967295 }
/-- 0x2503.00 TX_BYTES (spec/05_lanes_and_frames.md). -/
def Od.txBytes : OdRow := { key := 0x250300, n := 26, ty := 5, len := 8, acc := .r, cls := 3, wrap := true, start := true, hi := 18446744073709551615 }
/-- 0x2510.00 RX_FCS_ERR (spec/05_lanes_and_frames.md). -/
def Od.rxFcsErr : OdRow := { key := 0x251000, n := 26, ty := 4, len := 4, acc := .r, cls := 1, clr := true, hi := 4294967295 }
/-- 0x2511.00 RX_RUNT (spec/05_lanes_and_frames.md). -/
def Od.rxRunt : OdRow := { key := 0x251100, n := 26, ty := 4, len := 4, acc := .r, cls := 1, clr := true, hi := 4294967295 }
/-- 0x2512.00 RX_OVERSIZE (spec/05_lanes_and_frames.md). -/
def Od.rxOversize : OdRow := { key := 0x251200, n := 26, ty := 4, len := 4, acc := .r, cls := 1, clr := true, hi := 4294967295 }
/-- 0x2513.00 RX_PCS_ERR (spec/05_lanes_and_frames.md). -/
def Od.rxPcsErr : OdRow := { key := 0x251300, n := 26, ty := 4, len := 4, acc := .r, cls := 1, clr := true, hi := 4294967295 }
/-- 0x2514.00 RX_GIANT (spec/05_lanes_and_frames.md). -/
def Od.rxGiant : OdRow := { key := 0x251400, n := 26, ty := 4, len := 4, acc := .r, cls := 1, clr := true, hi := 4294967295 }
/-- 0x2515.00 RX_FILTERED (spec/05_lanes_and_frames.md). -/
def Od.rxFiltered : OdRow := { key := 0x251500, n := 26, ty := 4, len := 4, acc := .r, cls := 1, clr := true, hi := 4294967295 }
/-- 0x2516.00 RX_UNCLAIMED (spec/05_lanes_and_frames.md). -/
def Od.rxUnclaimed : OdRow := { key := 0x251600, n := 26, ty := 4, len := 4, acc := .r, cls := 1, clr := true, hi := 4294967295 }
/-- 0x2517.00 RX_OVF (spec/05_lanes_and_frames.md). -/
def Od.rxOvf : OdRow := { key := 0x251700, n := 26, ty := 1, len := 1, acc := .rw, cls := 1, hi := 1 }
/-- 0x2520.00 FEC_CORRECTED (spec/05_lanes_and_frames.md). -/
def Od.fecCorrected : OdRow := { key := 0x252000, n := 24, ty := 4, len := 4, acc := .r, cls := 1, clr := true, hi := 4294967295 }
/-- 0x2521.00 FEC_UNCORRECTED (spec/05_lanes_and_frames.md). -/
def Od.fecUncorrected : OdRow := { key := 0x252100, n := 24, ty := 4, len := 4, acc := .r, cls := 1, clr := true, hi := 4294967295 }
/-- 0x2522.00 LINK_DOWNS (spec/05_lanes_and_frames.md). -/
def Od.linkDowns : OdRow := { key := 0x252200, n := 26, ty := 3, len := 2, acc := .r, cls := 3, clr := true, hi := 65535 }
/-- 0x2523.00 PAUSE_RX (spec/05_lanes_and_frames.md). -/
def Od.pauseRx : OdRow := { key := 0x252300, n := 26, ty := 4, len := 4, acc := .r, cls := 1, clr := true, hi := 4294967295 }
/-- 0x2524.00 PFC_RX (spec/05_lanes_and_frames.md). -/
def Od.pfcRx : OdRow := { key := 0x252400, n := 26, ty := 4, len := 4, acc := .r, cls := 1, clr := true, hi := 4294967295 }
/-- 0x2525.00 PAUSE_OVERRIDES (spec/05_lanes_and_frames.md). -/
def Od.pauseOverrides : OdRow := { key := 0x252500, n := 26, ty := 3, len := 2, acc := .r, cls := 1, clr := true, hi := 65535 }
/-- 0x2526.00 GATE_DROPS (spec/05_lanes_and_frames.md). -/
def Od.gateDrops : OdRow := { key := 0x252600, n := 26, ty := 4, len := 4, acc := .r, cls := 1, clr := true, hi := 4294967295 }
/-- 0x2527.00 GATE_ABORTS (spec/05_lanes_and_frames.md). -/
def Od.gateAborts : OdRow := { key := 0x252700, n := 26, ty := 3, len := 2, acc := .r, cls := 1, clr := true, hi := 65535 }
/-- 0x2528.00 TX_DESC_ERR (spec/05_lanes_and_frames.md). -/
def Od.txDescErr : OdRow := { key := 0x252800, n := 26, ty := 3, len := 2, acc := .r, cls := 1, clr := true, hi := 65535 }
/-- 0x2529.00 TX_COMPL_LOST (spec/05_lanes_and_frames.md). -/
def Od.txComplLost : OdRow := { key := 0x252900, n := 26, ty := 3, len := 2, acc := .r, cls := 1, clr := true, hi := 65535 }
/-- 0x2530.00 RX_OVF_DROP (spec/05_lanes_and_frames.md). -/
def Od.rxOvfDrop : OdRow := { key := 0x253000, n := 26, ty := 4, len := 4, acc := .r, cls := 3, wrap := true, start := true, hi := 4294967295 }
/-- 0x3000.01 ENABLE (spec/06_intake.md). -/
def Od.strEnable : OdRow := { key := 0x300001, ty := 1, len := 1, acc := .rws, cls := 1, persist := true, hi := 1 }
/-- 0x3000.02 WIDTH (spec/06_intake.md). -/
def Od.strWidth : OdRow := { key := 0x300002, ty := 3, len := 2, acc := .rws, cls := 1, persist := true, lo := 16, hi := 8192, dflt := 1920 }
/-- 0x3000.03 HEIGHT (spec/06_intake.md). -/
def Od.strHeight : OdRow := { key := 0x300003, ty := 3, len := 2, acc := .rws, cls := 1, persist := true, lo := 16, hi := 4320, dflt := 1080 }
/-- 0x3000.04 SAMPLING (spec/06_intake.md). -/
def Od.strSampling : OdRow := { key := 0x300004, ty := 2, len := 1, acc := .rws, cls := 1, persist := true, hi := 2 }
/-- 0x3000.05 DEPTH (spec/06_intake.md). -/
def Od.strDepth : OdRow := { key := 0x300005, ty := 2, len := 1, acc := .rws, cls := 1, persist := true, lo := 8, hi := 16, dflt := 10 }
/-- 0x3000.06 COLORIMETRY (spec/06_intake.md). -/
def Od.strColorimetry : OdRow := { key := 0x300006, ty := 2, len := 1, acc := .rws, cls := 1, persist := true, hi := 2 }
/-- 0x3000.07 TCS (spec/06_intake.md). -/
def Od.strTcs : OdRow := { key := 0x300007, ty := 2, len := 1, acc := .rws, cls := 1, persist := true, hi := 2 }
/-- 0x3000.08 NOMINAL_RATE (spec/06_intake.md). -/
def Od.strNominalRate : OdRow := { key := 0x300008, ty := 2, len := 1, acc := .rws, cls := 1, persist := true, lo := 1, hi := 17, dflt := 9 }
/-- 0x3000.09 PT (spec/06_intake.md). -/
def Od.strPt : OdRow := { key := 0x300009, ty := 2, len := 1, acc := .rws, cls := 1, persist := true, lo := 96, hi := 127, dflt := 96 }
/-- 0x3000.0A PARTS (spec/06_intake.md). -/
def Od.strParts : OdRow := { key := 0x30000A, ty := 13, acc := .rws, cls := 1, persist := true, recLen := 8, maxRec := 8, dtab := .lit [0x00#8, 0x00#8, 0x00#8, 0x00#8, 0x07#8, 0x80#8, 0x04#8, 0x38#8] }
/-- 0x3000.0B PROTECT (spec/06_intake.md). -/
def Od.strProtect : OdRow := { key := 0x30000B, ty := 1, len := 1, acc := .rws, cls := 1, persist := true, hi := 1 }
/-- 0x3000.0C INCOMPLETE_POLICY (spec/06_intake.md). -/
def Od.strIncompletePolicy : OdRow := { key := 0x30000C, ty := 2, len := 1, acc := .rws, cls := 1, persist := true, hi := 1 }
/-- 0x3000.0D MEDIA_OFFSET (spec/06_intake.md). -/
def Od.strMediaOffset : OdRow := { key := 0x30000D, ty := 4, len := 4, acc := .rws, cls := 1, persist := true, hi := 41708 }
/-- 0x3000.0E STREAM_TIMEOUT (spec/06_intake.md). -/
def Od.strStreamTimeout : OdRow := { key := 0x30000E, ty := 3, len := 2, acc := .rw, cls := 1, persist := true, lo := 20, hi := 5000, dflt := 100 }
/-- 0x3000.0F LOSS_ACTION (spec/06_intake.md). -/
def Od.strLossAction : OdRow := { key := 0x30000F, ty := 2, len := 1, acc := .rw, cls := 1, persist := true, hi := 1 }
/-- 0x3000.10 SKEW_LIMIT (spec/06_intake.md). -/
def Od.strSkewLimit : OdRow := { key := 0x300010, ty := 2, len := 1, acc := .rw, cls := 1, persist := true, lo := 1, hi := 50, dflt := 10 }
/-- 0x3002.00 VIDEO_FLOWS (spec/06_intake.md). -/
def Od.videoFlows : OdRow := { key := 0x300200, ty := 13, acc := .rws, cls := 1, persist := true, recLen := 38, maxRec := 32 }
/-- 0x3010.01 STATE (spec/06_intake.md). -/
def Od.strState : OdRow := { key := 0x301001, ty := 2, len := 1, acc := .r, cls := 3, hi := 255 }
/-- 0x3010.02 FRAMES_TAKEN (spec/06_intake.md). -/
def Od.strFramesTaken : OdRow := { key := 0x301002, ty := 4, len := 4, acc := .r, cls := 3, wrap := true, start := true, hi := 4294967295 }
/-- 0x3010.03 REPEATED (spec/06_intake.md). -/
def Od.strRepeated : OdRow := { key := 0x301003, ty := 3, len := 2, acc := .r, cls := 3, clr := true, hi := 65535 }
/-- 0x3010.04 INCOMPLETE (spec/06_intake.md). -/
def Od.strIncomplete : OdRow := { key := 0x301004, ty := 3, len := 2, acc := .r, cls := 3, clr := true, hi := 65535 }
/-- 0x3010.05 ACCEPTED_INCOMPLETE (spec/06_intake.md). -/
def Od.strAcceptedIncomplete : OdRow := { key := 0x301005, ty := 3, len := 2, acc := .r, cls := 3, clr := true, hi := 65535 }
/-- 0x3010.06 LATE_PKTS (spec/06_intake.md). -/
def Od.strLatePkts : OdRow := { key := 0x301006, ty := 4, len := 4, acc := .r, cls := 3, clr := true, hi := 4294967295 }
/-- 0x3010.07 EARLY_PKTS (spec/06_intake.md). -/
def Od.strEarlyPkts : OdRow := { key := 0x301007, ty := 4, len := 4, acc := .r, cls := 3, clr := true, hi := 4294967295 }
/-- 0x3010.08 FORMAT_ERR (spec/06_intake.md). -/
def Od.strFormatErr : OdRow := { key := 0x301008, ty := 4, len := 4, acc := .r, cls := 1, clr := true, hi := 4294967295 }
/-- 0x3010.09 NO_SLOT (spec/06_intake.md). -/
def Od.strNoSlot : OdRow := { key := 0x301009, ty := 3, len := 2, acc := .r, cls := 1, clr := true, hi := 65535 }
/-- 0x3010.0A SELECTED_RTP (spec/06_intake.md). -/
def Od.strSelectedRtp : OdRow := { key := 0x30100A, ty := 4, len := 4, acc := .r, cls := 3, hi := 4294967295 }
/-- 0x3010.0B PATH_A_MISSING (spec/06_intake.md). -/
def Od.strPathAMissing : OdRow := { key := 0x30100B, ty := 4, len := 4, acc := .r, cls := 3, clr := true, hi := 4294967295 }
/-- 0x3010.0C PATH_B_MISSING (spec/06_intake.md). -/
def Od.strPathBMissing : OdRow := { key := 0x30100C, ty := 4, len := 4, acc := .r, cls := 3, clr := true, hi := 4294967295 }
/-- 0x3010.0D BOTH_MISSING (spec/06_intake.md). -/
def Od.strBothMissing : OdRow := { key := 0x30100D, ty := 4, len := 4, acc := .r, cls := 3, clr := true, hi := 4294967295 }
/-- 0x3010.0E SKEW_DROPS (spec/06_intake.md). -/
def Od.strSkewDrops : OdRow := { key := 0x30100E, ty := 4, len := 4, acc := .r, cls := 1, clr := true, hi := 4294967295 }
/-- 0x3010.0F MERGE_RESETS (spec/06_intake.md). -/
def Od.strMergeResets : OdRow := { key := 0x30100F, ty := 3, len := 2, acc := .r, cls := 1, clr := true, hi := 65535 }
/-- 0x3010.10 PATH_SKEW (spec/06_intake.md). -/
def Od.strPathSkew : OdRow := { key := 0x301010, ty := 7, len := 4, acc := .r, cls := 3, lo := -2147483648, hi := 2147483647 }
/-- 0x3010.11 PATH_STATE (spec/06_intake.md). -/
def Od.strPathState : OdRow := { key := 0x301011, ty := 2, len := 1, acc := .r, cls := 3, hi := 255 }
/-- 0x3100.01 SACN_LANES (spec/06_intake.md). -/
def Od.sacnLanes : OdRow := { key := 0x310001, ty := 4, len := 4, acc := .rws, cls := 1, persist := true, hi := 16777215 }
/-- 0x3100.02 SACN_IN (spec/06_intake.md). -/
def Od.sacnIn : OdRow := { key := 0x310002, ty := 13, acc := .rws, cls := 1, persist := true, recLen := 4, maxRec := 4096 }
/-- 0x3100.03 SACN_SOURCE_TIMEOUT (spec/06_intake.md). -/
def Od.sacnSourceTimeout : OdRow := { key := 0x310003, ty := 3, len := 2, acc := .rw, cls := 1, persist := true, lo := 500, hi := 10000, dflt := 2500 }
/-- 0x3100.04 SACN_SYNC_TIMEOUT (spec/06_intake.md). -/
def Od.sacnSyncTimeout : OdRow := { key := 0x310004, ty := 3, len := 2, acc := .rw, cls := 1, persist := true, lo := 500, hi := 10000, dflt := 2500 }
/-- 0x3100.05 SACN_STATUS (spec/06_intake.md). -/
def Od.sacnStatus : OdRow := { key := 0x310005, ty := 13, acc := .r, cls := 3 }
/-- 0x3110.01 SACN_PKTS (spec/06_intake.md). -/
def Od.sacnPkts : OdRow := { key := 0x311001, ty := 4, len := 4, acc := .r, cls := 3, wrap := true, start := true, hi := 4294967295 }
/-- 0x3110.02 PREVIEW_DROPS (spec/06_intake.md). -/
def Od.previewDrops : OdRow := { key := 0x311002, ty := 4, len := 4, acc := .r, cls := 1, clr := true, hi := 4294967295 }
/-- 0x3110.03 START_CODE_DROPS (spec/06_intake.md). -/
def Od.startCodeDrops : OdRow := { key := 0x311003, ty := 4, len := 4, acc := .r, cls := 1, clr := true, hi := 4294967295 }
/-- 0x3110.04 SEQ_DROPS (spec/06_intake.md). -/
def Od.seqDrops : OdRow := { key := 0x311004, ty := 4, len := 4, acc := .r, cls := 1, clr := true, hi := 4294967295 }
/-- 0x3110.05 SACN_FORMAT_ERR (spec/06_intake.md). -/
def Od.sacnFormatErr : OdRow := { key := 0x311005, ty := 4, len := 4, acc := .r, cls := 1, clr := true, hi := 4294967295 }
/-- 0x3110.06 UNKNOWN_UNIV (spec/06_intake.md). -/
def Od.unknownUniv : OdRow := { key := 0x311006, ty := 4, len := 4, acc := .r, cls := 1, clr := true, hi := 4294967295 }
/-- 0x3110.07 SOURCE_OVERFLOW (spec/06_intake.md). -/
def Od.sourceOverflow : OdRow := { key := 0x311007, ty := 3, len := 2, acc := .r, cls := 3, clr := true, hi := 65535 }
/-- 0x3110.08 SOURCE_LOSSES (spec/06_intake.md). -/
def Od.sourceLosses : OdRow := { key := 0x311008, ty := 3, len := 2, acc := .r, cls := 3, clr := true, hi := 65535 }
/-- 0x3110.09 SYNC_TIMEOUTS (spec/06_intake.md). -/
def Od.syncTimeouts : OdRow := { key := 0x311009, ty := 3, len := 2, acc := .r, cls := 3, clr := true, hi := 65535 }
/-- 0x3200.01 SACN_OUT (spec/06_intake.md). -/
def Od.sacnOut : OdRow := { key := 0x320001, ty := 13, acc := .rws, cls := 1, persist := true, recLen := 26, maxRec := 4096 }
/-- 0x3200.02 SACN_CID (spec/06_intake.md). -/
def Od.sacnCid : OdRow := { key := 0x320002, ty := 13, acc := .rw, cls := 1, persist := true, recLen := 16, maxRec := 1, fixed := true }
/-- 0x3200.03 SOURCE_NAME (spec/06_intake.md). -/
def Od.sourceName : OdRow := { key := 0x320003, ty := 11, len := 64, acc := .rw, cls := 1, persist := true, dtab := .lit [0x43#8, 0x6c#8, 0x6f#8, 0x79#8, 0x72#8] }
/-- 0x3200.04 SACN_OUT_SYNC (spec/06_intake.md). -/
def Od.sacnOutSync : OdRow := { key := 0x320004, ty := 3, len := 2, acc := .rws, cls := 1, persist := true, hi := 63999 }
/-- 0x3400.01 RANGE (spec/07_mapping.md). -/
def Od.mapRange : OdRow := { key := 0x340001, ty := 2, len := 1, acc := .rws, cls := 1, persist := true, hi := 1 }
/-- 0x3400.02 EOTF_MODE (spec/07_mapping.md). -/
def Od.mapEotfMode : OdRow := { key := 0x340002, ty := 2, len := 1, acc := .rws, cls := 1, persist := true, hi := 1 }
/-- 0x3400.03 PQ_WHITE (spec/07_mapping.md). -/
def Od.mapPqWhite : OdRow := { key := 0x340003, ty := 3, len := 2, acc := .rws, cls := 1, persist := true, lo := 100, hi := 10000, dflt := 1000 }
/-- 0x3400.04 HLG_GAMMA (spec/07_mapping.md). -/
def Od.mapHlgGamma : OdRow := { key := 0x340004, ty := 8, len := 2, acc := .rws, cls := 1, persist := true, lo := 32768, hi := 49152, dflt := 39322 }
/-- 0x3400.05 EOTF_LUT (spec/07_mapping.md). -/
def Od.mapEotfLut : OdRow := { key := 0x340005, ty := 13, acc := .r, cls := 3 }
/-- 0x3400.06 CUSTOM_LUT (spec/07_mapping.md). -/
def Od.mapCustomLut : OdRow := { key := 0x340006, ty := 13, acc := .rws, cls := 1, persist := true, recLen := 4, maxRec := 4096, fixed := true, dtab := .ramp 256 1 }
/-- 0x3410.00 TILE_MAP (spec/07_mapping.md). -/
def Od.tileMap : OdRow := { key := 0x341000, ty := 13, acc := .rws, cls := 1, persist := true, recLen := 56, maxRec := 1024 }
/-- 0x3420.00 ENDPOINT_MAP (spec/07_mapping.md). -/
def Od.endpointMap : OdRow := { key := 0x342000, ty := 13, acc := .rws, cls := 1, persist := true, recLen := 16, maxRec := 16384 }
/-- 0x3430.00 POINTS (spec/07_mapping.md). -/
def Od.points : OdRow := { key := 0x343000, n := 4, ty := 12, acc := .rws, cls := 1, persist := true, recLen := 8, maxRec := 1048576 }
/-- 0x3440.01 UNIV_EOTF (spec/07_mapping.md). -/
def Od.univEotf : OdRow := { key := 0x344001, ty := 2, len := 1, acc := .rws, cls := 1, persist := true, hi := 2 }
/-- 0x3440.02 UNIV_LUT (spec/07_mapping.md). -/
def Od.univLut : OdRow := { key := 0x344002, ty := 13, acc := .r, cls := 3 }
/-- 0x3440.03 UNIV_CUSTOM_LUT (spec/07_mapping.md). -/
def Od.univCustomLut : OdRow := { key := 0x344003, ty := 13, acc := .rws, cls := 1, persist := true, recLen := 4, maxRec := 4096, fixed := true, dtab := .ramp 256 1 }
/-- 0x3450.01 SAMPLE_BLOCKS (spec/07_mapping.md). -/
def Od.sampleBlocks : OdRow := { key := 0x345001, ty := 4, len := 4, acc := .r, cls := 3, hi := 4294967295 }
/-- 0x3450.02 TAP_RATE (spec/07_mapping.md). -/
def Od.tapRate : OdRow := { key := 0x345002, ty := 5, len := 8, acc := .r, cls := 3, hi := 18446744073709551615 }
/-- 0x3450.03 OFF_CANVAS_PX (spec/07_mapping.md). -/
def Od.offCanvasPx : OdRow := { key := 0x345003, ty := 4, len := 4, acc := .r, cls := 3, hi := 4294967295 }
/-- 0x3800.01 MASTER_BRIGHTNESS (spec/08_colour.md). -/
def Od.masterBrightness : OdRow := { key := 0x380001, ty := 8, len := 2, acc := .rws, cls := 3, persist := true, hi := 65535, dflt := 32768 }
/-- 0x3800.02 GROUP_BRIGHTNESS (spec/08_colour.md). -/
def Od.groupBrightness : OdRow := { key := 0x380002, ty := 13, acc := .rws, cls := 3, persist := true, recLen := 2, maxRec := 256, fixed := true, dtab := .rep 256 [0x80#8, 0x00#8] }
/-- 0x3800.03 DITHER_RESET (spec/08_colour.md). -/
def Od.ditherReset : OdRow := { key := 0x380003, ty := 0, len := 8, acc := .x, cls := 1, hi := 18446744073709551615 }
/-- 0x3810.00 TILE_COLOUR (spec/08_colour.md). -/
def Od.tileColour : OdRow := { key := 0x381000, ty := 13, acc := .rws, cls := 1, persist := true, recLen := 40, maxRec := 1024 }
/-- 0x3811.00 ENDPOINT_PACK (spec/08_colour.md). -/
def Od.endpointPack : OdRow := { key := 0x381100, ty := 13, acc := .rws, cls := 1, persist := true, recLen := 16, maxRec := 16384 }
/-- 0x3812.00 EMITTER_CLASS (spec/08_colour.md). -/
def Od.emitterClass : OdRow := { key := 0x381200, ty := 13, acc := .rws, cls := 1, persist := true, recLen := 148, maxRec := 16, fixed := true, dtab := .emitters }
/-- 0x3813.01 OUT_LUT (spec/08_colour.md). -/
def Od.outLut : OdRow := { key := 0x381301, n := 15, ty := 13, acc := .rws, cls := 1, persist := true, recLen := 4, maxRec := 4096, fixed := true, dtab := .ramp 256 1 }
/-- 0x3820.01 CAL_TARGET (spec/08_colour.md). -/
def Od.calTarget : OdRow := { key := 0x382001, ty := 4, len := 4, acc := .rw, cls := 1, hi := 4294967295 }
/-- 0x3820.02 CAL_DATA (spec/08_colour.md). -/
def Od.calData : OdRow := { key := 0x382002, ty := 12, acc := .rws, cls := 1, recLen := 20, maxRec := 838860 }
/-- 0x3820.03 CAL_CACHE_PENDING (spec/08_colour.md). -/
def Od.calCachePending : OdRow := { key := 0x382003, ty := 3, len := 2, acc := .r, cls := 1, hi := 65535 }
/-- 0x3820.04 CAL_PAGES (spec/08_colour.md). -/
def Od.calPages : OdRow := { key := 0x382004, ty := 13, acc := .r, cls := 1 }
/-- 0x3820.05 CAL_CACHE_FREE (spec/08_colour.md). -/
def Od.calCacheFree : OdRow := { key := 0x382005, ty := 4, len := 4, acc := .r, cls := 1, hi := 4294967295 }
/-- 0x3830.01 AGE_EN (spec/08_colour.md). -/
def Od.ageEn : OdRow := { key := 0x383001, ty := 1, len := 1, acc := .rws, cls := 1, persist := true, hi := 1, dflt := 1 }
/-- 0x3830.02 AGE_PERIOD (spec/08_colour.md). -/
def Od.agePeriod : OdRow := { key := 0x383002, ty := 4, len := 4, acc := .rw, cls := 1, persist := true, lo := 60, hi := 86400, dflt := 3600 }
/-- 0x3830.03 AGE_LEDGER (spec/08_colour.md). -/
def Od.ageLedger : OdRow := { key := 0x383003, ty := 13, acc := .rw, cls := 1, recLen := 19, maxRec := 17408 }
/-- 0x3830.04 AGE_GAIN (spec/08_colour.md). -/
def Od.ageGain : OdRow := { key := 0x383004, ty := 13, acc := .r, cls := 3 }
/-- 0x3840.01 TEMP_STALE (spec/08_colour.md). -/
def Od.tempStale : OdRow := { key := 0x384001, ty := 3, len := 2, acc := .rw, cls := 1, persist := true, lo := 100, hi := 60000, dflt := 2000 }
/-- 0x3840.02 TILE_TEMP (spec/08_colour.md). -/
def Od.tileTemp : OdRow := { key := 0x384002, ty := 13, acc := .r, cls := 3 }
/-- 0x3850.01 DEAD_PX (spec/08_colour.md). -/
def Od.deadPx : OdRow := { key := 0x385001, ty := 4, len := 4, acc := .r, cls := 3, hi := 4294967295 }
/-- 0x3850.02 MASKED_PX (spec/08_colour.md). -/
def Od.maskedPx : OdRow := { key := 0x385002, ty := 4, len := 4, acc := .r, cls := 3, hi := 4294967295 }
/-- 0x3850.03 SPARE_PX (spec/08_colour.md). -/
def Od.sparePx : OdRow := { key := 0x385003, ty := 4, len := 4, acc := .r, cls := 3, hi := 4294967295 }
/-- 0x3850.04 TEMP_STALE_TILES (spec/08_colour.md). -/
def Od.tempStaleTiles : OdRow := { key := 0x385004, ty := 3, len := 2, acc := .r, cls := 3, hi := 65535 }
/-- 0x3850.05 RESIDUAL_RESETS (spec/08_colour.md). -/
def Od.residualResets : OdRow := { key := 0x385005, ty := 4, len := 4, acc := .r, cls := 1, wrap := true, start := true, hi := 4294967295 }
/-- 0x7000.00 FEEDS (spec/09_weir.md). -/
def Od.feeds : OdRow := { key := 0x700000, ty := 13, acc := .rws, cls := 1, persist := true, recLen := 12, maxRec := 4096 }
/-- 0x7001.00 UNIT_MODEL (spec/09_weir.md). -/
def Od.unitModel : OdRow := { key := 0x700100, ty := 13, acc := .rws, cls := 1, persist := true, recLen := 28, maxRec := 17408 }
/-- 0x7002.00 WEIR_LEAD (spec/09_weir.md). -/
def Od.weirLead : OdRow := { key := 0x700200, ty := 4, len := 4, acc := .rw, cls := 1, persist := true, lo := 50, hi := 2000, dflt := 300 }
/-- 0x7010.00 FEED_STATUS (spec/09_weir.md). -/
def Od.feedStatus : OdRow := { key := 0x701000, ty := 13, acc := .r, cls := 3, wrap := true, start := true }
/-- 0x7011.01 TALLY_LATE (spec/09_weir.md). -/
def Od.tallyLate : OdRow := { key := 0x701101, ty := 4, len := 4, acc := .r, cls := 3, clr := true, hi := 4294967295 }
/-- 0x7011.02 HOLD_OVER (spec/09_weir.md). -/
def Od.holdOver : OdRow := { key := 0x701102, ty := 3, len := 2, acc := .r, cls := 3, clr := true, hi := 65535 }
/-- 0x7011.03 RELEASE_LIMITED (spec/09_weir.md). -/
def Od.releaseLimited : OdRow := { key := 0x701103, ty := 4, len := 4, acc := .r, cls := 3, clr := true, hi := 4294967295 }
/-- 0x7100.01 CLOCK_MAX (spec/09_weir.md). -/
def Od.clockMax : OdRow := { key := 0x710001, ty := 2, len := 1, acc := .rw, cls := 1, persist := true, hi := 3 }
/-- 0x7100.02 TJ_THROTTLE (spec/09_weir.md). -/
def Od.tjThrottle : OdRow := { key := 0x710002, ty := 2, len := 1, acc := .rw, cls := 1, persist := true, lo := 100, hi := 145, dflt := 135 }
/-- 0x7100.03 TJ_CRIT (spec/09_weir.md). -/
def Od.tjCrit : OdRow := { key := 0x710003, ty := 2, len := 1, acc := .rw, cls := 1, persist := true, lo := 120, hi := 150, dflt := 150 }
/-- 0x7100.04 TJ_SHUT (spec/09_weir.md). -/
def Od.tjShut : OdRow := { key := 0x710004, ty := 2, len := 1, acc := .r, cls := 3, hi := 255, dflt := 160 }
/-- 0x7100.05 TJ_HYST (spec/09_weir.md). -/
def Od.tjHyst : OdRow := { key := 0x710005, ty := 2, len := 1, acc := .rw, cls := 1, persist := true, lo := 2, hi := 20, dflt := 5 }
/-- 0x7100.06 CRIT_PRIO (spec/09_weir.md). -/
def Od.critPrio : OdRow := { key := 0x710006, ty := 2, len := 1, acc := .rw, cls := 1, persist := true, hi := 7, dflt := 1 }
/-- 0x7100.07 CELL_POWER_LIMIT (spec/09_weir.md). -/
def Od.cellPowerLimit : OdRow := { key := 0x710007, ty := 4, len := 4, acc := .rw, cls := 1, persist := true, lo := 2000, hi := 40000, dflt := 30000 }
/-- 0x7100.08 P0_RESERVE (spec/09_weir.md). -/
def Od.p0Reserve : OdRow := { key := 0x710008, ty := 8, len := 2, acc := .rw, cls := 1, persist := true, hi := 32768, dflt := 8192 }
/-- 0x7100.09 CELL_LIMIT (spec/09_weir.md). -/
def Od.cellLimit : OdRow := { key := 0x710009, ty := 2, len := 1, acc := .rw, cls := 1, persist := true, lo := 1, hi := 32, dflt := 32 }
/-- 0x7110.01 CLOCK_LEVEL (spec/09_weir.md). -/
def Od.clockLevel : OdRow := { key := 0x711001, ty := 2, len := 1, acc := .r, cls := 3, hi := 255 }
/-- 0x7110.02 ALLOWANCE (spec/09_weir.md). -/
def Od.allowance : OdRow := { key := 0x711002, ty := 4, len := 4, acc := .r, cls := 3, hi := 4294967295 }
/-- 0x7110.03 ACTIVE_MASK (spec/09_weir.md). -/
def Od.activeMask : OdRow := { key := 0x711003, ty := 13, acc := .r, cls := 3 }
/-- 0x7110.04 ACTIVE_CELLS (spec/09_weir.md). -/
def Od.activeCells : OdRow := { key := 0x711004, ty := 2, len := 1, acc := .r, cls := 3, hi := 255 }
/-- 0x7110.05 CRIT_STATE (spec/09_weir.md). -/
def Od.critState : OdRow := { key := 0x711005, ty := 1, len := 1, acc := .r, cls := 3, hi := 1 }
/-- 0x7111.01 THROTTLE_STEPS (spec/09_weir.md). -/
def Od.throttleSteps : OdRow := { key := 0x711101, ty := 3, len := 2, acc := .r, cls := 3, clr := true, hi := 65535 }
/-- 0x7111.02 CRIT_ENTRIES (spec/09_weir.md). -/
def Od.critEntries : OdRow := { key := 0x711102, ty := 3, len := 2, acc := .r, cls := 3, clr := true, hi := 65535 }
/-- 0x7111.03 ALLOWANCE_STALLS (spec/09_weir.md). -/
def Od.allowanceStalls : OdRow := { key := 0x711103, ty := 4, len := 4, acc := .r, cls := 3, clr := true, hi := 4294967295 }
/-- 0x4000.01 CELL_STATE (spec/10_lock_keeper.md). -/
def Od.cellState : OdRow := { key := 0x400001, ty := 13, acc := .r, cls := 3 }
/-- 0x4000.02 CELLS_IN_SERVICE (spec/10_lock_keeper.md). -/
def Od.cellsInService : OdRow := { key := 0x400002, ty := 13, acc := .r, cls := 3 }
/-- 0x4000.03 SPARES_LEFT (spec/10_lock_keeper.md). -/
def Od.sparesLeft : OdRow := { key := 0x400003, ty := 13, acc := .r, cls := 3 }
/-- 0x4000.04 CELL_RETIRE (spec/10_lock_keeper.md). -/
def Od.cellRetire : OdRow := { key := 0x400004, ty := 0, len := 8, acc := .x, cls := 1, hi := 135 }
/-- 0x4000.05 CELL_RESTORE (spec/10_lock_keeper.md). -/
def Od.cellRestore : OdRow := { key := 0x400005, ty := 0, len := 8, acc := .x, cls := 1, hi := 135 }
/-- 0x4000.06 BARGE_LIMIT (spec/10_lock_keeper.md). -/
def Od.bargeLimit : OdRow := { key := 0x400006, ty := 4, len := 4, acc := .rw, cls := 1, persist := true, lo := 100, hi := 10000, dflt := 2000 }
/-- 0x4000.07 FAULT_LIMIT (spec/10_lock_keeper.md). -/
def Od.faultLimit : OdRow := { key := 0x400007, ty := 2, len := 1, acc := .rw, cls := 1, persist := true, lo := 1, hi := 16, dflt := 3 }
/-- 0x4000.08 FAULT_WINDOW (spec/10_lock_keeper.md). -/
def Od.faultWindow : OdRow := { key := 0x400008, ty := 4, len := 4, acc := .rw, cls := 1, persist := true, lo := 3600, hi := 2592000, dflt := 86400 }
/-- 0x4010.00 PRIO_BY_KIND (spec/10_lock_keeper.md). -/
def Od.prioByKind : OdRow := { key := 0x401000, ty := 13, acc := .rws, cls := 1, persist := true, recLen := 1, maxRec := 4, fixed := true, dtab := .lit [0x00#8, 0x01#8, 0x02#8, 0x04#8] }
/-- 0x4011.00 UNIT_PRIO (spec/10_lock_keeper.md). -/
def Od.unitPrio : OdRow := { key := 0x401100, ty := 13, acc := .rws, cls := 1, persist := true, recLen := 4, maxRec := 1024 }
/-- 0x4012.00 PACK_ROWS (spec/10_lock_keeper.md). -/
def Od.packRows : OdRow := { key := 0x401200, ty := 2, len := 1, acc := .rws, cls := 1, persist := true, lo := 1, hi := 64, dflt := 32 }
/-- 0x4013.00 BARGE_ENERGY (spec/10_lock_keeper.md). -/
def Od.bargeEnergy : OdRow := { key := 0x401300, ty := 13, acc := .rw, cls := 1, persist := true, recLen := 6, maxRec := 4, fixed := true, dtab := .lit [0x00#8, 0x02#8, 0x07#8, 0xd0#8, 0x01#8, 0xf4#8, 0x00#8, 0x01#8, 0x00#8, 0xc8#8, 0x00#8, 0x00#8, 0x00#8, 0x05#8, 0x00#8, 0x00#8, 0x00#8, 0x00#8, 0x00#8, 0x02#8, 0x03#8, 0xe8#8, 0x00#8, 0x00#8] }
/-- 0x4020.01 DELAY_TICK (spec/10_lock_keeper.md). -/
def Od.delayTick : OdRow := { key := 0x402001, ty := 3, len := 2, acc := .rw, cls := 1, persist := true, lo := 1, hi := 1000, dflt := 10 }
/-- 0x4020.02 DELAY_MODE (spec/10_lock_keeper.md). -/
def Od.delayMode : OdRow := { key := 0x402002, ty := 13, acc := .rw, cls := 1, persist := true, recLen := 1, maxRec := 4, fixed := true, dtab := .lit [0x00#8, 0x00#8, 0x01#8, 0x01#8] }
/-- 0x4021.00 DELAY_LEVEL (spec/10_lock_keeper.md). -/
def Od.delayLevel : OdRow := { key := 0x402100, ty := 13, acc := .r, cls := 1 }
/-- 0x4030.01 CELL_BUSY (spec/10_lock_keeper.md). -/
def Od.cellBusy : OdRow := { key := 0x403001, ty := 13, acc := .r, cls := 3 }
/-- 0x4030.02 READY_DEPTH (spec/10_lock_keeper.md). -/
def Od.readyDepth : OdRow := { key := 0x403002, ty := 13, acc := .r, cls := 3 }
/-- 0x4030.03 WAIT_HIST (spec/10_lock_keeper.md). -/
def Od.waitHist : OdRow := { key := 0x403003, ty := 13, acc := .r, cls := 3, clr := true }
/-- 0x4030.04 FLIGHT_OCC (spec/10_lock_keeper.md). -/
def Od.flightOcc : OdRow := { key := 0x403004, ty := 13, acc := .r, cls := 3 }
/-- 0x4030.05 GRAPH_SIZE (spec/10_lock_keeper.md). -/
def Od.graphSize : OdRow := { key := 0x403005, ty := 13, acc := .r, cls := 3 }
/-- 0x4040.01 CTR_UNDERFLOW (spec/10_lock_keeper.md). -/
def Od.ctrUnderflow : OdRow := { key := 0x404001, ty := 3, len := 2, acc := .r, cls := 1, clr := true, hi := 65535 }
/-- 0x4040.02 BAD_BARGES (spec/10_lock_keeper.md). -/
def Od.badBarges : OdRow := { key := 0x404002, ty := 3, len := 2, acc := .r, cls := 1, clr := true, hi := 65535 }
/-- 0x4040.03 WINDOW_PARKS (spec/10_lock_keeper.md). -/
def Od.windowParks : OdRow := { key := 0x404003, ty := 4, len := 4, acc := .r, cls := 1, clr := true, hi := 4294967295 }
/-- 0x4040.04 CREDIT_WAITS (spec/10_lock_keeper.md). -/
def Od.creditWaits : OdRow := { key := 0x404004, ty := 4, len := 4, acc := .r, cls := 1, clr := true, hi := 4294967295 }
/-- 0x4040.05 DEADLINE_DROPS (spec/10_lock_keeper.md). -/
def Od.deadlineDrops : OdRow := { key := 0x404005, ty := 4, len := 4, acc := .r, cls := 3, clr := true, hi := 4294967295 }
/-- 0x4040.06 STALE_COMPLETIONS (spec/10_lock_keeper.md). -/
def Od.staleCompletions : OdRow := { key := 0x404006, ty := 4, len := 4, acc := .r, cls := 1, clr := true, hi := 4294967295 }
/-- 0x4040.07 LATE_YIELDS (spec/10_lock_keeper.md). -/
def Od.lateYields : OdRow := { key := 0x404007, ty := 4, len := 4, acc := .r, cls := 1, clr := true, hi := 4294967295 }
/-- 0x4040.08 BARGE_RETRIES (spec/10_lock_keeper.md). -/
def Od.bargeRetries : OdRow := { key := 0x404008, ty := 3, len := 2, acc := .r, cls := 3, clr := true, hi := 65535 }
/-- 0x4040.09 BARGES_ABANDONED (spec/10_lock_keeper.md). -/
def Od.bargesAbandoned : OdRow := { key := 0x404009, ty := 3, len := 2, acc := .r, cls := 3, clr := true, hi := 65535 }
/-- 0x4040.0A CELL_FAULTS (spec/10_lock_keeper.md). -/
def Od.cellFaults : OdRow := { key := 0x40400A, ty := 3, len := 2, acc := .r, cls := 3, clr := true, hi := 65535 }
/-- 0x4040.0B CELL_ECC_CORR (spec/10_lock_keeper.md). -/
def Od.cellEccCorr : OdRow := { key := 0x40400B, ty := 4, len := 4, acc := .r, cls := 1, clr := true, hi := 4294967295 }
/-- 0x4040.0C DELAY_FULL (spec/10_lock_keeper.md). -/
def Od.delayFull : OdRow := { key := 0x40400C, ty := 3, len := 2, acc := .r, cls := 1, clr := true, hi := 65535 }
/-- 0x4040.0D STALE_ENTRIES (spec/10_lock_keeper.md). -/
def Od.staleEntries : OdRow := { key := 0x40400D, ty := 4, len := 4, acc := .r, cls := 1, clr := true, hi := 4294967295 }
/-- 0x4400.00 POUND_CONFIG (spec/11_pounds.md). -/
def Od.poundConfig : OdRow := { key := 0x440000, ty := 13, acc := .rws, cls := 1, persist := true, recLen := 48, maxRec := 4096 }
/-- 0x4401.00 POUND_AREA (spec/11_pounds.md). -/
def Od.poundArea : OdRow := { key := 0x440100, ty := 4, len := 4, acc := .rws, cls := 1, persist := true, lo := 16, hi := 8192, dflt := 512 }
/-- 0x4402.00 SLUICE_MAP (spec/11_pounds.md). -/
def Od.sluiceMap : OdRow := { key := 0x440200, ty := 13, acc := .rw, cls := 1, persist := true, recLen := 6, maxRec := 8, fixed := true, dtab := .rep 8 [0x00#8, 0x00#8, 0x00#8, 0x00#8, 0x00#8, 0x64#8] }
/-- 0x4410.00 POUND_STATUS (spec/11_pounds.md). -/
def Od.poundStatus : OdRow := { key := 0x441000, ty := 13, acc := .r, cls := 3 }
/-- 0x4411.00 POUND_EVENTS (spec/11_pounds.md). -/
def Od.poundEvents : OdRow := { key := 0x441100, ty := 13, acc := .r, cls := 1, clr := true }
/-- 0x4412.00 POUND_CREDITS (spec/11_pounds.md). -/
def Od.poundCredits : OdRow := { key := 0x441200, ty := 13, acc := .r, cls := 1 }
/-- 0x4420.00 SLUICE_STATE (spec/11_pounds.md). -/
def Od.sluiceState : OdRow := { key := 0x442000, ty := 13, acc := .r, cls := 3 }
/-- 0x4421.00 SLUICE_MERGED (spec/11_pounds.md). -/
def Od.sluiceMerged : OdRow := { key := 0x442100, ty := 3, len := 2, acc := .r, cls := 1, clr := true, hi := 65535 }
/-- 0x5000.01 LATCH_GAP (spec/12_zhoeno_link.md). -/
def Od.latchGap : OdRow := { key := 0x500001, ty := 4, len := 4, acc := .rws, cls := 1, persist := true, lo := 500, hi := 50000, dflt := 2000 }
/-- 0x5000.02 ECHO_PERIOD (spec/12_zhoeno_link.md). -/
def Od.echoPeriod : OdRow := { key := 0x500002, ty := 3, len := 2, acc := .rw, cls := 1, persist := true, lo := 10, hi := 10000, dflt := 1000 }
/-- 0x5000.03 ECHO_JUMP (spec/12_zhoeno_link.md). -/
def Od.echoJump : OdRow := { key := 0x500003, ty := 3, len := 2, acc := .rw, cls := 1, persist := true, lo := 20, hi := 10000, dflt := 200 }
/-- 0x5000.04 TILE_TIMEOUT (spec/12_zhoeno_link.md). -/
def Od.tileTimeout : OdRow := { key := 0x500004, ty := 3, len := 2, acc := .rw, cls := 1, persist := true, lo := 50, hi := 10000, dflt := 500 }
/-- 0x5000.05 SEAL_ROLL (spec/12_zhoeno_link.md). -/
def Od.sealRoll : OdRow := { key := 0x500005, ty := 4, len := 4, acc := .rw, cls := 1, persist := true, lo := 65536, hi := 1073741824, dflt := 268435456 }
/-- 0x5000.06 ROLL_GRACE (spec/12_zhoeno_link.md). -/
def Od.rollGrace : OdRow := { key := 0x500006, ty := 3, len := 2, acc := .rw, cls := 1, persist := true, lo := 60, hi := 65535, dflt := 600 }
/-- 0x5000.07 RET_PERIOD (spec/12_zhoeno_link.md). -/
def Od.retPeriod : OdRow := { key := 0x500007, ty := 2, len := 1, acc := .rws, cls := 1, persist := true, lo := 1, hi := 255, dflt := 1 }
/-- 0x5000.08 BLANK_AFTER (spec/12_zhoeno_link.md). -/
def Od.blankAfter : OdRow := { key := 0x500008, ty := 3, len := 2, acc := .rws, cls := 1, persist := true, hi := 60000, dflt := 5000 }
/-- 0x5000.09 SEAL_ROLL_NOW (spec/12_zhoeno_link.md). -/
def Od.sealRollNow : OdRow := { key := 0x500009, ty := 0, len := 8, acc := .x, cls := 1, hi := 65535 }
/-- 0x5001.00 TILE_LINK (spec/12_zhoeno_link.md). -/
def Od.tileLink : OdRow := { key := 0x500100, ty := 13, acc := .rws, cls := 1, persist := true, recLen := 16, maxRec := 1024 }
/-- 0x5002.00 SECTION_SEAL (spec/12_zhoeno_link.md). -/
def Od.sectionSeal : OdRow := { key := 0x500200, ty := 13, acc := .rws, cls := 1, persist := true, recLen := 4, maxRec := 16 }
/-- 0x5010.00 ZH_LANE (spec/12_zhoeno_link.md). -/
def Od.zhLane : OdRow := { key := 0x501000, n := 24, ty := 13, acc := .rws, cls := 1, persist := true, recLen := 9, maxRec := 1, fixed := true, dtab := .lit [0x00#8, 0x01#8, 0x01#8, 0x24#8, 0x00#8, 0x00#8, 0x00#8, 0x00#8, 0x00#8] }
/-- 0x5100.00 TILE_STATUS (spec/12_zhoeno_link.md). -/
def Od.tileStatus : OdRow := { key := 0x510000, ty := 13, acc := .r, cls := 3 }
/-- 0x5101.00 SEAL_STATUS (spec/12_zhoeno_link.md). -/
def Od.sealStatus : OdRow := { key := 0x510100, ty := 13, acc := .r, cls := 3 }
/-- 0x5110.01 HIGHEST_EPOCH_SEEN (spec/12_zhoeno_link.md). -/
def Od.highestEpochSeen : OdRow := { key := 0x511001, ty := 4, len := 4, acc := .r, cls := 5, hi := 4294967295 }
/-- 0x5110.02 HELLO_RX (spec/12_zhoeno_link.md). -/
def Od.helloRx : OdRow := { key := 0x511002, ty := 4, len := 4, acc := .r, cls := 3, wrap := true, start := true, hi := 4294967295 }
/-- 0x5110.03 HELLO_UNMATCHED (spec/12_zhoeno_link.md). -/
def Od.helloUnmatched : OdRow := { key := 0x511003, ty := 3, len := 2, acc := .r, cls := 1, clr := true, hi := 65535 }
/-- 0x5110.04 ECHO_DISCARDED (spec/12_zhoeno_link.md). -/
def Od.echoDiscarded : OdRow := { key := 0x511004, ty := 4, len := 4, acc := .r, cls := 1, clr := true, hi := 4294967295 }
/-- 0x5110.05 RET_RX (spec/12_zhoeno_link.md). -/
def Od.retRx : OdRow := { key := 0x511005, ty := 4, len := 4, acc := .r, cls := 3, wrap := true, start := true, hi := 4294967295 }
/-- 0x5110.06 RET_SEAL_FAIL (spec/12_zhoeno_link.md). -/
def Od.retSealFail : OdRow := { key := 0x511006, ty := 4, len := 4, acc := .r, cls := 1, clr := true, hi := 4294967295 }
/-- 0x5110.07 UNSEALED_DROPS (spec/12_zhoeno_link.md). -/
def Od.unsealedDrops : OdRow := { key := 0x511007, ty := 4, len := 4, acc := .r, cls := 1, clr := true, hi := 4294967295 }
/-- 0x5110.08 LINK_HOLDS (spec/12_zhoeno_link.md). -/
def Od.linkHolds : OdRow := { key := 0x511008, ty := 4, len := 4, acc := .r, cls := 3, clr := true, hi := 4294967295 }
/-- 0x5110.09 LATCH_SPREAD_COUNT (spec/12_zhoeno_link.md). -/
def Od.latchSpreadCount : OdRow := { key := 0x511009, ty := 3, len := 2, acc := .r, cls := 1, clr := true, hi := 65535 }
/-- 0x5110.0A SEAL_ROLLS (spec/12_zhoeno_link.md). -/
def Od.sealRolls : OdRow := { key := 0x51100A, ty := 3, len := 2, acc := .r, cls := 3, clr := true, hi := 65535 }
/-- 0x5110.0B NONCE_GUARDS (spec/12_zhoeno_link.md). -/
def Od.nonceGuards : OdRow := { key := 0x51100B, ty := 3, len := 2, acc := .r, cls := 1, clr := true, hi := 65535 }
/-- 0x5110.0C TILE_LOSSES (spec/12_zhoeno_link.md). -/
def Od.tileLosses : OdRow := { key := 0x51100C, ty := 3, len := 2, acc := .r, cls := 3, clr := true, hi := 65535 }
/-- 0x5110.0D EPOCH_FENCED_COUNT (spec/12_zhoeno_link.md). -/
def Od.epochFencedCount : OdRow := { key := 0x51100D, ty := 3, len := 2, acc := .r, cls := 1, clr := true, hi := 65535 }
/-- 0x6000.00 PORT_EN (spec/13_lamp_ports.md). -/
def Od.portEn : OdRow := { key := 0x600000, n := 48, ty := 1, len := 1, acc := .rw, cls := 1, persist := true, hi := 1 }
/-- 0x6001.00 PORT_MODE (spec/13_lamp_ports.md). -/
def Od.portMode : OdRow := { key := 0x600100, n := 48, ty := 2, len := 1, acc := .rw, cls := 1, persist := true, stop := true, hi := 3 }
/-- 0x6002.00 PORT_CLAIM (spec/13_lamp_ports.md). -/
def Od.portClaim : OdRow := { key := 0x600200, n := 48, ty := 2, len := 1, acc := .r, cls := 3, hi := 255 }
/-- 0x6010.00 CHAIN_CFG (spec/13_lamp_ports.md). -/
def Od.chainCfg : OdRow := { key := 0x601000, n := 48, ty := 13, acc := .rws, cls := 1, persist := true, recLen := 28, maxRec := 1, fixed := true, dtab := .lit [0x00#8, 0x00#8, 0x03#8, 0x80#8, 0x01#8, 0xa0#8, 0x00#8, 0x6e#8, 0x01#8, 0x0e#8, 0x00#8, 0x00#8, 0x00#8, 0x01#8, 0x38#8, 0x80#8, 0x00#8, 0x00#8, 0xc3#8, 0x50#8, 0x00#8, 0x00#8, 0x00#8, 0x00#8, 0x02#8, 0x00#8, 0x00#8, 0x00#8] }
/-- 0x6011.00 CHAIN_FAIL (spec/13_lamp_ports.md). -/
def Od.chainFail : OdRow := { key := 0x601100, ty := 2, len := 1, acc := .rw, cls := 1, persist := true, lo := 1, hi := 64, dflt := 3 }
/-- 0x6020.00 DMX_CFG (spec/13_lamp_ports.md). -/
def Od.dmxCfg : OdRow := { key := 0x602000, n := 48, ty := 13, acc := .rws, cls := 1, persist := true, recLen := 16, maxRec := 1, fixed := true, dtab := .lit [0x02#8, 0x00#8, 0x00#8, 0xb0#8, 0x0c#8, 0x00#8, 0x00#8, 0x00#8, 0x00#8, 0x00#8, 0x00#8, 0x00#8, 0x00#8, 0x01#8, 0x00#8, 0x00#8] }
/-- 0x6021.00 RDM_RETRIES (spec/13_lamp_ports.md). -/
def Od.rdmRetries : OdRow := { key := 0x602100, ty := 2, len := 1, acc := .rw, cls := 1, persist := true, hi := 8, dflt := 2 }
/-- 0x6022.00 RDM_DISC_PERIOD (spec/13_lamp_ports.md). -/
def Od.rdmDiscPeriod : OdRow := { key := 0x602200, ty := 3, len := 2, acc := .rw, cls := 1, persist := true, lo := 10, hi := 3600, dflt := 60 }
/-- 0x6023.00 RDM_QUEUE (spec/13_lamp_ports.md). -/
def Od.rdmQueue : OdRow := { key := 0x602300, n := 48, ty := 13, acc := .w, cls := 1, recLen := 0, maxRec := 8 }
/-- 0x6030.00 MATRIX_CFG (spec/13_lamp_ports.md). -/
def Od.matrixCfg : OdRow := { key := 0x603000, n := 8, ty := 13, acc := .rws, cls := 1, persist := true, recLen := 24, maxRec := 1, fixed := true, dtab := .lit [0x00#8, 0x01#8, 0x00#8, 0x01#8, 0x03#8, 0x08#8, 0x01#8, 0x00#8, 0x00#8, 0x28#8, 0x00#8, 0x28#8, 0x00#8, 0x0a#8, 0x03#8, 0xe8#8, 0x00#8, 0x40#8, 0x03#8, 0x00#8, 0x00#8, 0x00#8, 0x00#8, 0x00#8] }
/-- 0x6040.00 GPIO (spec/13_lamp_ports.md). -/
def Od.gpio : OdRow := { key := 0x604000, n := 48, ty := 13, acc := .rw, cls := 1, persist := true, recLen := 3, maxRec := 1, fixed := true, dtab := .lit [0x00#8, 0x00#8, 0x00#8] }
/-- 0x6050.00 CHAIN_STATUS (spec/13_lamp_ports.md). -/
def Od.chainStatus : OdRow := { key := 0x605000, n := 48, ty := 13, acc := .r, cls := 3 }
/-- 0x6051.00 CHAIN_FRAMES (spec/13_lamp_ports.md). -/
def Od.chainFrames : OdRow := { key := 0x605100, n := 48, ty := 4, len := 4, acc := .r, cls := 3, wrap := true, start := true, hi := 4294967295 }
/-- 0x6052.00 CHAIN_CHECK_FAILS (spec/13_lamp_ports.md). -/
def Od.chainCheckFails : OdRow := { key := 0x605200, n := 48, ty := 3, len := 2, acc := .r, cls := 3, clr := true, hi := 65535 }
/-- 0x6053.00 CHAIN_SKIPS (spec/13_lamp_ports.md). -/
def Od.chainSkips : OdRow := { key := 0x605300, n := 48, ty := 3, len := 2, acc := .r, cls := 1, clr := true, hi := 65535 }
/-- 0x6054.00 LAMP_CUTS (spec/13_lamp_ports.md). -/
def Od.lampCuts : OdRow := { key := 0x605400, n := 48, ty := 3, len := 2, acc := .r, cls := 1, clr := true, hi := 65535 }
/-- 0x6055.00 DMX_PACKETS (spec/13_lamp_ports.md). -/
def Od.dmxPackets : OdRow := { key := 0x605500, n := 48, ty := 4, len := 4, acc := .r, cls := 3, wrap := true, start := true, hi := 4294967295 }
/-- 0x6056.00 DMX_SKIPPED (spec/13_lamp_ports.md). -/
def Od.dmxSkipped : OdRow := { key := 0x605600, n := 48, ty := 4, len := 4, acc := .r, cls := 1, clr := true, hi := 4294967295 }
/-- 0x6057.00 RDM_TIMEOUTS (spec/13_lamp_ports.md). -/
def Od.rdmTimeouts : OdRow := { key := 0x605700, n := 48, ty := 3, len := 2, acc := .r, cls := 1, clr := true, hi := 65535 }
/-- 0x6058.00 RDM_BAD (spec/13_lamp_ports.md). -/
def Od.rdmBad : OdRow := { key := 0x605800, n := 48, ty := 3, len := 2, acc := .r, cls := 1, clr := true, hi := 65535 }
/-- 0x6059.00 RDM_UIDS (spec/13_lamp_ports.md). -/
def Od.rdmUids : OdRow := { key := 0x605900, n := 48, ty := 13, acc := .r, cls := 3 }
/-- 0x605A.00 RDM_UID_OVERFLOW (spec/13_lamp_ports.md). -/
def Od.rdmUidOverflow : OdRow := { key := 0x605A00, n := 48, ty := 3, len := 2, acc := .r, cls := 1, clr := true, hi := 65535 }
/-- 0x605B.00 RDM_RESULTS (spec/13_lamp_ports.md). -/
def Od.rdmResults : OdRow := { key := 0x605B00, n := 48, ty := 13, acc := .r, cls := 1 }
/-- 0x605C.00 GPIO_IN (spec/13_lamp_ports.md). -/
def Od.gpioIn : OdRow := { key := 0x605C00, n := 48, ty := 2, len := 1, acc := .r, cls := 3, hi := 255 }
/-- 0x6060.00 MATRIX_FAULTS (spec/13_lamp_ports.md). -/
def Od.matrixFaults : OdRow := { key := 0x606000, n := 8, ty := 13, acc := .r, cls := 3 }
/-- 0x6061.00 FAULT_READBACKS (spec/13_lamp_ports.md). -/
def Od.faultReadbacks : OdRow := { key := 0x606100, n := 8, ty := 4, len := 4, acc := .r, cls := 1, wrap := true, start := true, hi := 4294967295 }
/-- 0x6062.00 FAULT_OVERFLOW (spec/13_lamp_ports.md). -/
def Od.faultOverflow : OdRow := { key := 0x606200, n := 8, ty := 3, len := 2, acc := .r, cls := 1, clr := true, hi := 65535 }
/-- 0x6400.00 STRING_CFG (spec/14_string_drive.md). -/
def Od.stringCfg : OdRow := { key := 0x640000, n := 16, ty := 13, acc := .rws, cls := 1, persist := true, recLen := 32, maxRec := 1, fixed := true }
/-- 0x6401.00 STRING_GROUP (spec/14_string_drive.md). -/
def Od.stringGroup : OdRow := { key := 0x640100, ty := 13, acc := .rws, cls := 1, persist := true, recLen := 8, maxRec := 16 }
/-- 0x6402.00 DIM_PERIODS (spec/14_string_drive.md). -/
def Od.dimPeriods : OdRow := { key := 0x640200, ty := 2, len := 1, acc := .rws, cls := 1, persist := true, lo := 1, hi := 64, dflt := 4 }
/-- 0x6403.00 FAULT_CONFIRM (spec/14_string_drive.md). -/
def Od.faultConfirm : OdRow := { key := 0x640300, ty := 2, len := 1, acc := .rw, cls := 1, persist := true, lo := 1, hi := 64, dflt := 3 }
/-- 0x6404.00 RETRY_PERIOD (spec/14_string_drive.md). -/
def Od.retryPeriod : OdRow := { key := 0x640400, ty := 3, len := 2, acc := .rw, cls := 1, persist := true, lo := 100, hi := 60000, dflt := 1000 }
/-- 0x6410.01 SENSE_EVERY (spec/14_string_drive.md). -/
def Od.senseEvery : OdRow := { key := 0x641001, ty := 3, len := 2, acc := .rws, cls := 1, persist := true, lo := 4, hi := 65535, dflt := 60 }
/-- 0x6410.02 W_SENSE (spec/14_string_drive.md). -/
def Od.wSense : OdRow := { key := 0x641002, ty := 3, len := 2, acc := .rws, cls := 1, persist := true, lo := 6000, hi := 100000, dflt := 10000 }
/-- 0x6410.03 LOOP_RATE (spec/14_string_drive.md). -/
def Od.loopRate : OdRow := { key := 0x641003, ty := 3, len := 2, acc := .rw, cls := 1, persist := true, lo := 1, hi := 100, dflt := 100 }
/-- 0x6410.04 G_MIN (spec/14_string_drive.md). -/
def Od.gMin : OdRow := { key := 0x641004, ty := 8, len := 2, acc := .rw, cls := 1, persist := true, lo := 16384, hi := 32768, dflt := 26214 }
/-- 0x6410.05 G_MAX (spec/14_string_drive.md). -/
def Od.gMax : OdRow := { key := 0x641005, ty := 8, len := 2, acc := .rw, cls := 1, persist := true, lo := 32768, hi := 65535, dflt := 42598 }
/-- 0x6410.06 SENSE_MIN (spec/14_string_drive.md). -/
def Od.senseMin : OdRow := { key := 0x641006, ty := 3, len := 2, acc := .rw, cls := 1, persist := true, hi := 65535, dflt := 64 }
/-- 0x6411.00 SENSE_REF (spec/14_string_drive.md). -/
def Od.senseRef : OdRow := { key := 0x641100, ty := 13, acc := .rw, cls := 1, persist := true, recLen := 16, maxRec := 4, fixed := true, dtab := .rep 4 [0x00#8, 0x00#8, 0x00#8, 0x00#8, 0x00#8, 0x00#8, 0x00#8, 0x00#8, 0x00#8, 0x00#8, 0x00#8, 0x00#8, 0x00#8, 0x00#8, 0x00#8, 0x00#8] }
/-- 0x6412.00 SENSE_CAPTURE (spec/14_string_drive.md). -/
def Od.senseCapture : OdRow := { key := 0x641200, ty := 0, len := 8, acc := .x, cls := 1, hi := 15 }
/-- 0x6420.00 NTC_TABLE (spec/14_string_drive.md). -/
def Od.ntcTable : OdRow := { key := 0x642000, ty := 13, acc := .rw, cls := 1, persist := true, recLen := 4, maxRec := 33, fixed := true, dtab := .ntc }
/-- 0x6421.00 DERATE (spec/14_string_drive.md). -/
def Od.derate : OdRow := { key := 0x642100, ty := 13, acc := .rw, cls := 1, persist := true, recLen := 10, maxRec := 4, fixed := true, dtab := .rep 4 [0x04#8, 0x60#8, 0x05#8, 0xa0#8, 0x20#8, 0x00#8, 0x06#8, 0x40#8, 0x00#8, 0xa0#8] }
/-- 0x6500.00 STRING_STATUS (spec/14_string_drive.md). -/
def Od.stringStatus : OdRow := { key := 0x650000, ty := 13, acc := .r, cls := 3 }
/-- 0x6501.00 SENSE_GAIN (spec/14_string_drive.md). -/
def Od.senseGain : OdRow := { key := 0x650100, ty := 13, acc := .r, cls := 3 }
/-- 0x6502.00 LAMP_HEAT (spec/14_string_drive.md). -/
def Od.lampHeat : OdRow := { key := 0x650200, ty := 13, acc := .r, cls := 3 }
/-- 0x6510.01 STRING_FAULTS (spec/14_string_drive.md). -/
def Od.stringFaults : OdRow := { key := 0x651001, ty := 3, len := 2, acc := .r, cls := 3, clr := true, hi := 65535 }
/-- 0x6510.02 STAGE_FAULTS (spec/14_string_drive.md). -/
def Od.stageFaults : OdRow := { key := 0x651002, ty := 3, len := 2, acc := .r, cls := 3, clr := true, hi := 65535 }
/-- 0x6510.03 RETRY_FAILS (spec/14_string_drive.md). -/
def Od.retryFails : OdRow := { key := 0x651003, ty := 3, len := 2, acc := .r, cls := 1, clr := true, hi := 65535 }
/-- 0x6510.04 SENSE_MISSED (spec/14_string_drive.md). -/
def Od.senseMissed : OdRow := { key := 0x651004, ty := 4, len := 4, acc := .r, cls := 1, clr := true, hi := 4294967295 }
/-- 0x6510.05 SENSE_CLIPS (spec/14_string_drive.md). -/
def Od.senseClips : OdRow := { key := 0x651005, ty := 4, len := 4, acc := .r, cls := 1, clr := true, hi := 4294967295 }
/-- 0xC000.00 RASTER_EN (spec/15_raster.md). -/
def Od.rasterEn : OdRow := { key := 0xC00000, ty := 1, len := 1, acc := .rw, cls := 1, persist := true, hi := 1 }
/-- 0xC010.00 RS_TIMING (spec/15_raster.md). -/
def Od.rsTiming : OdRow := { key := 0xC01000, ty := 13, acc := .rw, cls := 1, persist := true, recLen := 20, maxRec := 1, fixed := true }
/-- 0xC011.00 RS_SCAN (spec/15_raster.md). -/
def Od.rsScan : OdRow := { key := 0xC01100, ty := 13, acc := .rw, cls := 1, persist := true, recLen := 16, maxRec := 1, fixed := true }
/-- 0xC012.00 RS_COMMIT (spec/15_raster.md). -/
def Od.rsCommit : OdRow := { key := 0xC01200, ty := 1, len := 1, acc := .rw, cls := 1, hi := 1 }
/-- 0xC013.00 RS_ACTIVE (spec/15_raster.md). -/
def Od.rsActive : OdRow := { key := 0xC01300, ty := 13, acc := .r, cls := 3 }
/-- 0xC020.00 RASTER_MAP (spec/15_raster.md). -/
def Od.rasterMap : OdRow := { key := 0xC02000, ty := 13, acc := .rws, cls := 1, persist := true, recLen := 56, maxRec := 1 }
/-- 0xC021.00 RASTER_COLOUR (spec/15_raster.md). -/
def Od.rasterColour : OdRow := { key := 0xC02100, ty := 13, acc := .rws, cls := 1, persist := true, recLen := 40, maxRec := 1 }
/-- 0xC022.00 STILL_AREA (spec/15_raster.md). -/
def Od.stillArea : OdRow := { key := 0xC02200, ty := 4, len := 4, acc := .rws, cls := 1, persist := true, hi := 512, dflt := 64 }
/-- 0xC023.00 RASTER_STILL (spec/15_raster.md). -/
def Od.rasterStill : OdRow := { key := 0xC02300, ty := 12, acc := .w, cls := 1 }
/-- 0xC030.01 FRAMES_OUT (spec/15_raster.md). -/
def Od.framesOut : OdRow := { key := 0xC03001, ty := 4, len := 4, acc := .r, cls := 3, wrap := true, start := true, hi := 4294967295 }
/-- 0xC030.02 UNDERRUN_PX (spec/15_raster.md). -/
def Od.underrunPx : OdRow := { key := 0xC03002, ty := 4, len := 4, acc := .r, cls := 3, clr := true, hi := 4294967295 }
/-- 0xC030.03 UNDERRUN_LINES (spec/15_raster.md). -/
def Od.underrunLines : OdRow := { key := 0xC03003, ty := 4, len := 4, acc := .r, cls := 3, clr := true, hi := 4294967295 }
/-- 0xC030.04 COMMITS_LATCHED (spec/15_raster.md). -/
def Od.commitsLatched : OdRow := { key := 0xC03004, ty := 3, len := 2, acc := .r, cls := 1, clr := true, hi := 65535 }
/-- 0xC030.05 MODE_CHANGES (spec/15_raster.md). -/
def Od.modeChanges : OdRow := { key := 0xC03005, ty := 3, len := 2, acc := .r, cls := 1, clr := true, hi := 65535 }
/-- 0xB000.00 AQ_ROUTES (spec/16_aqueduct.md). -/
def Od.aqRoutes : OdRow := { key := 0xB00000, ty := 13, acc := .rws, cls := 1, persist := true, recLen := 16, maxRec := 8192 }
/-- 0xB001.00 AQ_PEERS (spec/16_aqueduct.md). -/
def Od.aqPeers : OdRow := { key := 0xB00100, ty := 13, acc := .rws, cls := 1, persist := true, recLen := 22, maxRec := 64 }
/-- 0xB002.01 AQ_UDP_PORT (spec/16_aqueduct.md). -/
def Od.aqUdpPort : OdRow := { key := 0xB00201, ty := 3, len := 2, acc := .rw, cls := 1, persist := true, lo := 1024, hi := 65535, dflt := 51122 }
/-- 0xB002.02 AQ_TIMEOUT (spec/16_aqueduct.md). -/
def Od.aqTimeout : OdRow := { key := 0xB00202, ty := 3, len := 2, acc := .rw, cls := 1, persist := true, lo := 5, hi := 5000, dflt := 50 }
/-- 0xB002.03 AQ_RETRIES (spec/16_aqueduct.md). -/
def Od.aqRetries : OdRow := { key := 0xB00203, ty := 2, len := 1, acc := .rw, cls := 1, persist := true, hi := 8, dflt := 2 }
/-- 0xB002.04 AQ_SERVE (spec/16_aqueduct.md). -/
def Od.aqServe : OdRow := { key := 0xB00204, ty := 2, len := 1, acc := .rw, cls := 1, persist := true, lo := 4, hi := 64, dflt := 16 }
/-- 0xB002.05 AQ_PARAM_FRAMES (spec/16_aqueduct.md). -/
def Od.aqParamFrames : OdRow := { key := 0xB00205, ty := 3, len := 2, acc := .rw, cls := 1, persist := true, lo := 8, hi := 65535, dflt := 120 }
/-- 0xB010.01 AQ_FORWARDED (spec/16_aqueduct.md). -/
def Od.aqForwarded : OdRow := { key := 0xB01001, ty := 4, len := 4, acc := .r, cls := 3, wrap := true, start := true, hi := 4294967295 }
/-- 0xB010.02 AQ_FAR_ERRORS (spec/16_aqueduct.md). -/
def Od.aqFarErrors : OdRow := { key := 0xB01002, ty := 3, len := 2, acc := .r, cls := 3, clr := true, hi := 65535 }
/-- 0xB010.03 AQ_POSTED_FAILS (spec/16_aqueduct.md). -/
def Od.aqPostedFails : OdRow := { key := 0xB01003, ty := 3, len := 2, acc := .r, cls := 3, clr := true, hi := 65535 }
/-- 0xB010.04 AQ_TIMEOUTS (spec/16_aqueduct.md). -/
def Od.aqTimeouts : OdRow := { key := 0xB01004, ty := 3, len := 2, acc := .r, cls := 1, clr := true, hi := 65535 }
/-- 0xB010.05 AQ_DUP_INFLIGHT (spec/16_aqueduct.md). -/
def Od.aqDupInflight : OdRow := { key := 0xB01005, ty := 3, len := 2, acc := .r, cls := 1, clr := true, hi := 65535 }
/-- 0xB010.06 AQ_SERVE_DROPS (spec/16_aqueduct.md). -/
def Od.aqServeDrops : OdRow := { key := 0xB01006, ty := 3, len := 2, acc := .r, cls := 1, clr := true, hi := 65535 }
/-- 0xB010.07 AQ_ERROR_LOG (spec/16_aqueduct.md). -/
def Od.aqErrorLog : OdRow := { key := 0xB01007, ty := 13, acc := .r, cls := 3 }
/-- 0xD001.01 AUTO_ACQUIRE (spec/17_towpath.md). -/
def Od.autoAcquire : OdRow := { key := 0xD00101, ty := 1, len := 1, acc := .rw, cls := 5, persist := true, hi := 1, dflt := 1 }
/-- 0xD001.02 WD_TICKS (spec/17_towpath.md). -/
def Od.wdTicks : OdRow := { key := 0xD00102, ty := 2, len := 1, acc := .rw, cls := 1, persist := true, lo := 2, hi := 64, dflt := 8 }
/-- 0xD001.03 STANDBY_MODE (spec/17_towpath.md). -/
def Od.standbyMode : OdRow := { key := 0xD00103, ty := 2, len := 1, acc := .rw, cls := 1, persist := true, hi := 1 }
/-- 0xD001.04 MIRROR_PORT (spec/17_towpath.md). -/
def Od.mirrorPort : OdRow := { key := 0xD00104, ty := 2, len := 1, acc := .rw, cls := 1, persist := true, hi := 25, dflt := 24 }
/-- 0xD001.05 MIRROR_PEER_ADDR (spec/17_towpath.md). -/
def Od.mirrorPeerAddr : OdRow := { key := 0xD00105, ty := 13, acc := .rw, cls := 1, persist := true, recLen := 18, maxRec := 1 }
/-- 0xD001.06 BEACON_PERIOD (spec/17_towpath.md). -/
def Od.beaconPeriod : OdRow := { key := 0xD00106, ty := 3, len := 2, acc := .rw, cls := 1, persist := true, lo := 2, hi := 1000, dflt := 10 }
/-- 0xD001.07 REARM_HOLDOFF (spec/17_towpath.md). -/
def Od.rearmHoldoff : OdRow := { key := 0xD00107, ty := 3, len := 2, acc := .rw, cls := 1, persist := true, lo := 1, hi := 3600, dflt := 10 }
/-- 0xD001.08 FENCE_GRACE (spec/17_towpath.md). -/
def Od.fenceGrace : OdRow := { key := 0xD00108, ty := 3, len := 2, acc := .rw, cls := 1, persist := true, lo := 100, hi := 10000, dflt := 1000 }
/-- 0xD001.09 MIRROR_LOCK (spec/17_towpath.md). -/
def Od.mirrorLock : OdRow := { key := 0xD00109, ty := 1, len := 1, acc := .rw, cls := 1, persist := true, hi := 1, dflt := 1 }
/-- 0xD001.0A TOW_UDP_PORT (spec/17_towpath.md). -/
def Od.towUdpPort : OdRow := { key := 0xD0010A, ty := 3, len := 2, acc := .rw, cls := 1, persist := true, lo := 1024, hi := 65535, dflt := 51123 }
/-- 0xD002.00 TOW_COMMAND (spec/17_towpath.md). -/
def Od.towCommand : OdRow := { key := 0xD00200, ty := 0, len := 8, acc := .x, cls := 5, lo := 1, hi := 4 }
/-- 0xD020.00 PEER_BEACON (spec/17_towpath.md). -/
def Od.peerBeacon : OdRow := { key := 0xD02000, ty := 13, acc := .w, cls := 5, recLen := 24, maxRec := 1, fixed := true }
/-- 0xD021.00 MIRROR_SMALL (spec/17_towpath.md). -/
def Od.mirrorSmall : OdRow := { key := 0xD02100, ty := 13, acc := .w, cls := 5, recLen := 32, maxRec := 1, fixed := true }
/-- 0xD022.00 MIRROR_TABLE (spec/17_towpath.md). -/
def Od.mirrorTable : OdRow := { key := 0xD02200, ty := 12, acc := .w, cls := 5 }
/-- 0xD000.01 TOW_STATE (spec/17_towpath.md). -/
def Od.towState : OdRow := { key := 0xD00001, ty := 2, len := 1, acc := .r, cls := 7, hi := 255 }
/-- 0xD000.02 EPOCH (spec/17_towpath.md). -/
def Od.epoch : OdRow := { key := 0xD00002, ty := 4, len := 4, acc := .r, cls := 7, hi := 4294967295 }
/-- 0xD000.03 PIN_STATE (spec/17_towpath.md). -/
def Od.pinState : OdRow := { key := 0xD00003, ty := 2, len := 1, acc := .r, cls := 7, hi := 255 }
/-- 0xD000.04 LAST_MIRRORED_EPOCH (spec/17_towpath.md). -/
def Od.lastMirroredEpoch : OdRow := { key := 0xD00004, ty := 4, len := 4, acc := .r, cls := 5, hi := 4294967295 }
/-- 0xD000.05 HOLDOFF_LEFT (spec/17_towpath.md). -/
def Od.holdoffLeft : OdRow := { key := 0xD00005, ty := 3, len := 2, acc := .r, cls := 1, hi := 65535 }
/-- 0xD010.01 TAKEOVERS (spec/17_towpath.md). -/
def Od.takeovers : OdRow := { key := 0xD01001, ty := 3, len := 2, acc := .r, cls := 3, clr := true, hi := 65535 }
/-- 0xD010.02 RELEASES (spec/17_towpath.md). -/
def Od.releases : OdRow := { key := 0xD01002, ty := 3, len := 2, acc := .r, cls := 3, clr := true, hi := 65535 }
/-- 0xD010.03 WD_DROPS (spec/17_towpath.md). -/
def Od.wdDrops : OdRow := { key := 0xD01003, ty := 3, len := 2, acc := .r, cls := 3, clr := true, hi := 65535 }
/-- 0xD010.04 CLAIM_CONFLICTS (spec/17_towpath.md). -/
def Od.claimConflicts : OdRow := { key := 0xD01004, ty := 3, len := 2, acc := .r, cls := 1, clr := true, hi := 65535 }
/-- 0xD010.05 FENCES (spec/17_towpath.md). -/
def Od.fences : OdRow := { key := 0xD01005, ty := 3, len := 2, acc := .r, cls := 3, clr := true, hi := 65535 }
/-- 0xD010.06 EPOCH_ADVANCES (spec/17_towpath.md). -/
def Od.epochAdvances : OdRow := { key := 0xD01006, ty := 3, len := 2, acc := .r, cls := 1, clr := true, hi := 65535 }
/-- 0xD010.07 WIRE_FAULTS (spec/17_towpath.md). -/
def Od.wireFaults : OdRow := { key := 0xD01007, ty := 3, len := 2, acc := .r, cls := 3, clr := true, hi := 65535 }
/-- 0xD010.08 MIRROR_REFUSED (spec/17_towpath.md). -/
def Od.mirrorRefused : OdRow := { key := 0xD01008, ty := 3, len := 2, acc := .r, cls := 1, clr := true, hi := 65535 }
/-- 0xD010.09 MIRROR_INCOMPLETE (spec/17_towpath.md). -/
def Od.mirrorIncomplete : OdRow := { key := 0xD01009, ty := 3, len := 2, acc := .r, cls := 1, clr := true, hi := 65535 }
/-- 0xD010.0A MIRROR_STALE (spec/17_towpath.md). -/
def Od.mirrorStale : OdRow := { key := 0xD0100A, ty := 1, len := 1, acc := .r, cls := 3, hi := 1 }
/-- 0xD023.00 MIRROR_STATUS (spec/17_towpath.md). -/
def Od.mirrorStatus : OdRow := { key := 0xD02300, ty := 13, acc := .r, cls := 3 }
/-- 0x9000.01 KEK (spec/18_keys.md). -/
def Od.kek : OdRow := { key := 0x900001, ty := 13, acc := .w, cls := 1, recLen := 32, maxRec := 1, fixed := true }
/-- 0x9000.02 ATTEST (spec/18_keys.md). -/
def Od.attest : OdRow := { key := 0x900002, ty := 13, acc := .w, cls := 1, recLen := 32, maxRec := 1, fixed := true }
/-- 0x9000.03 UPDATE (spec/18_keys.md). -/
def Od.update : OdRow := { key := 0x900003, ty := 13, acc := .w, cls := 1, recLen := 32, maxRec := 1, fixed := true }
/-- 0x9001.00 KEY_REG_STATUS (spec/18_keys.md). -/
def Od.keyRegStatus : OdRow := { key := 0x900100, ty := 13, acc := .r, cls := 1 }
/-- 0x9010.00 KEY_LOAD (spec/18_keys.md). -/
def Od.keyLoad : OdRow := { key := 0x901000, ty := 13, acc := .w, cls := 1, recLen := 48, maxRec := 1, fixed := true }
/-- 0x9011.00 KEY_INVALIDATE (spec/18_keys.md). -/
def Od.keyInvalidate : OdRow := { key := 0x901100, ty := 0, len := 8, acc := .x, cls := 1, hi := 63 }
/-- 0x9012.00 SLOT_STATUS (spec/18_keys.md). -/
def Od.slotStatus : OdRow := { key := 0x901200, ty := 13, acc := .r, cls := 1 }
/-- 0x9013.00 ORPHAN_GRACE (spec/18_keys.md). -/
def Od.orphanGrace : OdRow := { key := 0x901300, ty := 3, len := 2, acc := .rw, cls := 1, persist := true, hi := 600 }
/-- 0x9020.00 DRBG_STATE (spec/18_keys.md). -/
def Od.drbgState : OdRow := { key := 0x902000, ty := 2, len := 1, acc := .r, cls := 1, hi := 255 }
/-- 0x9030.01 UNWRAP_FAILS (spec/18_keys.md). -/
def Od.unwrapFails : OdRow := { key := 0x903001, ty := 3, len := 2, acc := .r, cls := 1, clr := true, hi := 65535 }
/-- 0x9030.02 SLOT_CHECK_FAILS (spec/18_keys.md). -/
def Od.slotCheckFails : OdRow := { key := 0x903002, ty := 3, len := 2, acc := .r, cls := 1, clr := true, hi := 65535 }
/-- 0x9030.03 ORPHANS (spec/18_keys.md). -/
def Od.orphans : OdRow := { key := 0x903003, ty := 3, len := 2, acc := .r, cls := 1, clr := true, hi := 65535 }
/-- 0x9030.04 DRBG_HEALTH_FAILS (spec/18_keys.md). -/
def Od.drbgHealthFails : OdRow := { key := 0x903004, ty := 3, len := 2, acc := .r, cls := 1, clr := true, hi := 65535 }
/-- 0x9030.05 CHALLENGES (spec/18_keys.md). -/
def Od.challenges : OdRow := { key := 0x903005, ty := 4, len := 4, acc := .r, cls := 1, wrap := true, start := true, hi := 4294967295 }
/-- 0xA000.01 UPDATE_STATE (spec/19_updates.md). -/
def Od.updateState : OdRow := { key := 0xA00001, ty := 2, len := 1, acc := .r, cls := 3, hi := 255 }
/-- 0xA000.02 SESSION_LIFE (spec/19_updates.md). -/
def Od.sessionLife : OdRow := { key := 0xA00002, ty := 2, len := 1, acc := .rw, cls := 1, persist := true, lo := 1, hi := 30, dflt := 30 }
/-- 0xA000.03 CONFIRM_WINDOW (spec/19_updates.md). -/
def Od.confirmWindow : OdRow := { key := 0xA00003, ty := 3, len := 2, acc := .rw, cls := 1, persist := true, lo := 30, hi := 600, dflt := 120 }
/-- 0xA000.04 AUTO_CONFIRM (spec/19_updates.md). -/
def Od.autoConfirm : OdRow := { key := 0xA00004, ty := 1, len := 1, acc := .rw, cls := 1, persist := true, hi := 1 }
/-- 0xA000.05 MIGRATE_POLICY (spec/19_updates.md). -/
def Od.migratePolicy : OdRow := { key := 0xA00005, ty := 2, len := 1, acc := .rw, cls := 1, persist := true, hi := 1 }
/-- 0xA001.00 SESSION_INFO (spec/19_updates.md). -/
def Od.sessionInfo : OdRow := { key := 0xA00100, ty := 13, acc := .r, cls := 1 }
/-- 0xA002.00 PIECE_BITMAP (spec/19_updates.md). -/
def Od.pieceBitmap : OdRow := { key := 0xA00200, ty := 12, acc := .r, cls := 1 }
/-- 0xA003.00 IMAGE_SLOTS (spec/19_updates.md). -/
def Od.imageSlots : OdRow := { key := 0xA00300, ty := 13, acc := .r, cls := 3 }
/-- 0xA004.00 ROLLBACK_FLOOR (spec/19_updates.md). -/
def Od.rollbackFloor : OdRow := { key := 0xA00400, ty := 4, len := 4, acc := .r, cls := 3, hi := 4294967295 }
/-- 0xA005.00 LAST_RESULT (spec/19_updates.md). -/
def Od.lastResult : OdRow := { key := 0xA00500, ty := 13, acc := .r, cls := 3 }
/-- 0xA010.01 PIECES_BAD (spec/19_updates.md). -/
def Od.piecesBad : OdRow := { key := 0xA01001, ty := 4, len := 4, acc := .r, cls := 1, clr := true, hi := 4294967295 }
/-- 0xA010.02 HEADERS_REFUSED (spec/19_updates.md). -/
def Od.headersRefused : OdRow := { key := 0xA01002, ty := 3, len := 2, acc := .r, cls := 1, clr := true, hi := 65535 }
/-- 0xA010.03 FALLBACKS (spec/19_updates.md). -/
def Od.fallbacks : OdRow := { key := 0xA01003, ty := 3, len := 2, acc := .r, cls := 3, clr := true, hi := 65535 }
/-- 0x8000.01 TRIM_T_DELTA (spec/20_trim_and_wear.md). -/
def Od.trimTDelta : OdRow := { key := 0x800001, ty := 2, len := 1, acc := .rw, cls := 1, persist := true, lo := 2, hi := 40, dflt := 6 }
/-- 0x8000.02 TRIM_T_RUN (spec/20_trim_and_wear.md). -/
def Od.trimTRun : OdRow := { key := 0x800002, ty := 0, len := 8, acc := .x, cls := 1, hi := 18446744073709551615 }
/-- 0x8000.03 TRIM_T_STATUS (spec/20_trim_and_wear.md). -/
def Od.trimTStatus : OdRow := { key := 0x800003, ty := 13, acc := .r, cls := 3, wrap := true, start := true }
/-- 0x8000.04 TRIM_T_TAPS (spec/20_trim_and_wear.md). -/
def Od.trimTTaps : OdRow := { key := 0x800004, ty := 13, acc := .r, cls := 1 }
/-- 0x8000.05 TRIM_LOG (spec/20_trim_and_wear.md). -/
def Od.trimLog : OdRow := { key := 0x800005, ty := 13, acc := .r, cls := 1 }
/-- 0x8010.01 TRIM_A_RUN (spec/20_trim_and_wear.md). -/
def Od.trimARun : OdRow := { key := 0x801001, ty := 0, len := 8, acc := .x, cls := 1, hi := 4294967295 }
/-- 0x8010.02 TRIM_A_STATION (spec/20_trim_and_wear.md). -/
def Od.trimAStation : OdRow := { key := 0x801002, ty := 11, len := 16, acc := .rw, cls := 1, persist := true }
/-- 0x8010.03 TRIM_A_APPLY_AT (spec/20_trim_and_wear.md). -/
def Od.trimAApplyAt : OdRow := { key := 0x801003, ty := 9, len := 10, acc := .w, cls := 1, hi := 1208925819614629174706175 }
/-- 0x8010.04 TRIM_A_RECORD (spec/20_trim_and_wear.md). -/
def Od.trimARecord : OdRow := { key := 0x801004, ty := 13, acc := .r, cls := 3 }
/-- 0x8010.05 TRIM_A_STATE (spec/20_trim_and_wear.md). -/
def Od.trimAState : OdRow := { key := 0x801005, ty := 2, len := 1, acc := .r, cls := 3, hi := 255 }
/-- 0x8400.01 REPLACE_REQUEST (spec/20_trim_and_wear.md). -/
def Od.replaceRequest : OdRow := { key := 0x840001, ty := 1, len := 1, acc := .r, cls := 7, hi := 1 }
/-- 0x8400.02 REPLACE_CAUSE (spec/20_trim_and_wear.md). -/
def Od.replaceCause : OdRow := { key := 0x840002, ty := 2, len := 1, acc := .r, cls := 3, hi := 255 }
/-- 0x8400.03 LIFE_USED (spec/20_trim_and_wear.md). -/
def Od.lifeUsed : OdRow := { key := 0x840003, ty := 4, len := 4, acc := .r, cls := 3, hi := 4294967295 }
/-- 0x8400.04 POWER_ON_TIME (spec/20_trim_and_wear.md). -/
def Od.powerOnTime : OdRow := { key := 0x840004, ty := 5, len := 8, acc := .r, cls := 3, hi := 18446744073709551615 }
/-- 0x8400.05 TJ_HISTORY (spec/20_trim_and_wear.md). -/
def Od.tjHistory : OdRow := { key := 0x840005, ty := 13, acc := .r, cls := 3 }
/-- 0x8400.06 TJ_MAX_SEEN (spec/20_trim_and_wear.md). -/
def Od.tjMaxSeen : OdRow := { key := 0x840006, ty := 6, len := 2, acc := .r, cls := 3, lo := -32768, hi := 32767 }
/-- 0x8401.01 DDR_CE_LIMIT (spec/20_trim_and_wear.md). -/
def Od.ddrCeLimit : OdRow := { key := 0x840101, ty := 4, len := 4, acc := .rw, cls := 1, persist := true, lo := 1, hi := 1000000, dflt := 100 }
/-- 0x8401.02 ENVM_WEAR_LIMIT (spec/20_trim_and_wear.md). -/
def Od.envmWearLimit : OdRow := { key := 0x840102, ty := 8, len := 2, acc := .rw, cls := 1, persist := true, lo := 3277, hi := 32768, dflt := 26214 }
/-- 0x8410.01 SRAM_REPAIR (spec/20_trim_and_wear.md). -/
def Od.sramRepair : OdRow := { key := 0x841001, ty := 13, acc := .r, cls := 1 }
/-- 0x8410.02 DDR_CE_HOUR (spec/20_trim_and_wear.md). -/
def Od.ddrCeHour : OdRow := { key := 0x841002, ty := 4, len := 4, acc := .r, cls := 3, hi := 4294967295 }
/-- 0x8410.03 ENVM_WEAR (spec/20_trim_and_wear.md). -/
def Od.envmWear : OdRow := { key := 0x841003, ty := 8, len := 2, acc := .r, cls := 3, hi := 65535 }
/-- 0x8410.04 CAPACITY (spec/20_trim_and_wear.md). -/
def Od.capacity : OdRow := { key := 0x841004, ty := 13, acc := .r, cls := 3 }
/-- 0xE000.01 POWER_STATE (spec/21_power_and_reset.md). -/
def Od.powerState : OdRow := { key := 0xE00001, ty := 2, len := 1, acc := .r, cls := 7, hi := 255 }
/-- 0xE000.02 LAST_RESET (spec/21_power_and_reset.md). -/
def Od.lastReset : OdRow := { key := 0xE00002, ty := 2, len := 1, acc := .r, cls := 3, hi := 255 }
/-- 0xE000.03 RESTART (spec/21_power_and_reset.md). -/
def Od.restart : OdRow := { key := 0xE00003, ty := 0, len := 8, acc := .x, cls := 1, hi := 18446744073709551615 }
/-- 0xE001.01 DOMAIN_EN (spec/21_power_and_reset.md). -/
def Od.domainEn : OdRow := { key := 0xE00101, ty := 2, len := 1, acc := .rw, cls := 1, persist := true, hi := 255, dflt := 255 }
/-- 0xE001.02 DOMAIN_STATE (spec/21_power_and_reset.md). -/
def Od.domainState : OdRow := { key := 0xE00102, ty := 13, acc := .r, cls := 3 }
/-- 0xE001.03 MOOR_RAILS_OFF (spec/21_power_and_reset.md). -/
def Od.moorRailsOff : OdRow := { key := 0xE00103, ty := 1, len := 1, acc := .rw, cls := 1, persist := true, hi := 1 }
/-- 0xE010.01 STRAPS (spec/21_power_and_reset.md). -/
def Od.straps : OdRow := { key := 0xE01001, ty := 2, len := 1, acc := .r, cls := 7, hi := 255 }
/-- 0xE010.02 STRAPS_LIVE (spec/21_power_and_reset.md). -/
def Od.strapsLive : OdRow := { key := 0xE01002, ty := 2, len := 1, acc := .r, cls := 1, hi := 255 }
/-- 0xE020.01 CP_WD_TIMEOUT (spec/21_power_and_reset.md). -/
def Od.cpWdTimeout : OdRow := { key := 0xE02001, ty := 3, len := 2, acc := .rw, cls := 1, persist := true, lo := 100, hi := 5000, dflt := 500 }
/-- 0xE020.02 WD_STORM_LIMIT (spec/21_power_and_reset.md). -/
def Od.wdStormLimit : OdRow := { key := 0xE02002, ty := 2, len := 1, acc := .rw, cls := 1, persist := true, lo := 2, hi := 16, dflt := 3 }
/-- 0xE020.03 TJ_RESTART (spec/21_power_and_reset.md). -/
def Od.tjRestart : OdRow := { key := 0xE02003, ty := 2, len := 1, acc := .rw, cls := 1, persist := true, lo := 100, hi := 140, dflt := 125 }
/-- 0xE020.04 SHUT_AUTO_RESTART (spec/21_power_and_reset.md). -/
def Od.shutAutoRestart : OdRow := { key := 0xE02004, ty := 1, len := 1, acc := .rw, cls := 1, persist := true, hi := 1 }
/-- 0xE030.01 RESET_COUNTS (spec/21_power_and_reset.md). -/
def Od.resetCounts : OdRow := { key := 0xE03001, ty := 13, acc := .r, cls := 1, clr := true }
/-- 0xE030.02 BROWN_OUTS (spec/21_power_and_reset.md). -/
def Od.brownOuts : OdRow := { key := 0xE03002, ty := 3, len := 2, acc := .r, cls := 3, clr := true, hi := 65535 }
/-- 0xE030.03 SHUTDOWNS (spec/21_power_and_reset.md). -/
def Od.shutdowns : OdRow := { key := 0xE03003, ty := 3, len := 2, acc := .r, cls := 3, hi := 65535 }
/-- 0xE040.01 DIE_TEMP (spec/21_power_and_reset.md). -/
def Od.dieTemp : OdRow := { key := 0xE04001, ty := 13, acc := .r, cls := 3 }
/-- 0xE040.02 TJ_HOTTEST (spec/21_power_and_reset.md). -/
def Od.tjHottest : OdRow := { key := 0xE04002, ty := 6, len := 2, acc := .r, cls := 3, lo := -32768, hi := 32767 }
/-- 0xE040.03 RAIL_MV (spec/21_power_and_reset.md). -/
def Od.railMv : OdRow := { key := 0xE04003, ty := 13, acc := .r, cls := 3 }
/-- Rows of spec/00_scope.md. -/
def Od.chapter00 : List OdRow := [Od.identity, Od.siliconRev]
/-- Rows of spec/01_venue_and_scale.md. -/
def Od.chapter01 : List OdRow := [Od.deviceNumber, Od.numberSet, Od.pairPartner, Od.showGroupV4, Od.replySlot, Od.groupIgnored, Od.groupLate, Od.sectionCount, Od.sectionList, Od.pxPerFrame, Od.pxBudget, Od.tilesUsed, Od.feedsUsed, Od.endpointsUsed, Od.samplesUsed, Od.univInUsed, Od.univOutUsed]
/-- Rows of spec/02_frame_tick.md. -/
def Od.chapter02 : List OdRow := [Od.commit, Od.commitAt, Od.boundFrame, Od.pendingCommits, Od.cancelPending, Od.dirtyCount, Od.commitCutoff, Od.presentDelay, Od.frameRate, Od.launchGuard, Od.tickOutEn, Od.tickOutDiv, Od.currentFrame, Od.presentedFrame, Od.tickOrigin, Od.timelineState, Od.holds, Od.heldLast, Od.missedTicks, Od.missedRun, Od.lateBoundCount, Od.skippedFrames, Od.transitionHolds, Od.timelineRestarts]
/-- Rows of spec/03_object_dictionary.md. -/
def Od.chapter03 : List OdRow := [Od.serial, Od.imageVersion, Od.odSchema, Od.odUdpPort, Od.mgmt1Class, Od.subLease, Od.persistPending, Od.sync, Od.rxMsgs, Od.msgDiscarded, Od.classTDropped, Od.noRightCount, Od.queueDrops, Od.dupReplies, Od.postedFails, Od.postedLog, Od.subscribers, Od.notifyLost, Od.eventLog, Od.irqMask, Od.irqPending, Od.snapshotFrame]
/-- Rows of spec/04_time.md. -/
def Od.chapter04 : List OdRow := [Od.select, Od.switchAt, Od.autoSwitch, Od.switchSlew, Od.deviceTime, Od.timeSet, Od.offsetAb, Od.slewRemaining, Od.stepThreshold, Od.noStepRunning, Od.lateWindow, Od.latePolicy, Od.switches, Od.timeSteps, Od.stepFlushed, Od.trimGeneration, Od.ptpEnable, Od.ptpProfile, Od.ptpTransport, Od.ptpPort, Od.ptpDomainNumber, Od.ptpLockThreshold, Od.ptpUnlockThreshold, Od.ptpHoldoverLimit]
/-- Rows of spec/04_time.md. -/
def Od.chapter04b : List OdRow := [Od.ptpServoBw, Od.ptpDelayAsym, Od.ptpAcceptableMasters, Od.ptpAnnounceReceiptTimeout, Od.ptpState, Od.ptpOffset, Od.ptpMeanPathDelay, Od.ptpFreqAdj, Od.ptpMasterId, Od.ptpUtcOffset, Od.ptpSyncRx, Od.ptpAnnounceTimeouts, Od.ptpLockLosses, Od.ptpRxDiscarded, Od.ppsInMode, Od.ppsInDelay, Od.ppsInOffset, Od.ppsInEdges, Od.ppsInFarCount, Od.ppsOutEn, Od.ppsOutWidth, Od.mgmt0PhyRxDelay, Od.mgmt0PhyTxDelay, Od.mgmt1PhyRxDelay]
/-- Rows of spec/04_time.md. -/
def Od.chapter04c : List OdRow := [Od.mgmt1PhyTxDelay, Od.tsqLost, Od.tsqOvf, Od.tsqLevel, Od.tsqMax, Od.lateDrops, Od.lateSent, Od.rxPathDelay, Od.txPathDelay]
/-- Rows of spec/05_lanes_and_frames.md. -/
def Od.chapter05 : List OdRow := [Od.baseMac, Od.zhEthertype, Od.laneEn, Od.role, Od.rate, Od.fec, Od.maxFrame, Od.pauseHonour, Od.pfcEn, Od.pauseLimit, Od.rxKeepBad, Od.badPound, Od.bcastEn, Od.promisc, Od.exact, Od.mcastHash, Od.vlanId, Od.txqPound, Od.txComplPound, Od.mgmt0Speed, Od.mgmt1Speed, Od.mgmt0Txdly, Od.mgmt0Rxdly, Od.mgmt1Txdly]
/-- Rows of spec/05_lanes_and_frames.md. -/
def Od.chapter05b : List OdRow := [Od.mgmt1Rxdly, Od.linkState, Od.linkSpeed, Od.rxFrames, Od.rxBytes, Od.txFrames, Od.txBytes, Od.rxFcsErr, Od.rxRunt, Od.rxOversize, Od.rxPcsErr, Od.rxGiant, Od.rxFiltered, Od.rxUnclaimed, Od.rxOvf, Od.fecCorrected, Od.fecUncorrected, Od.linkDowns, Od.pauseRx, Od.pfcRx, Od.pauseOverrides, Od.gateDrops, Od.gateAborts, Od.txDescErr]
/-- Rows of spec/05_lanes_and_frames.md. -/
def Od.chapter05c : List OdRow := [Od.txComplLost, Od.rxOvfDrop]
/-- Rows of spec/06_intake.md. -/
def Od.chapter06 : List OdRow := [Od.strEnable, Od.strWidth, Od.strHeight, Od.strSampling, Od.strDepth, Od.strColorimetry, Od.strTcs, Od.strNominalRate, Od.strPt, Od.strParts, Od.strProtect, Od.strIncompletePolicy, Od.strMediaOffset, Od.strStreamTimeout, Od.strLossAction, Od.strSkewLimit, Od.videoFlows, Od.strState, Od.strFramesTaken, Od.strRepeated, Od.strIncomplete, Od.strAcceptedIncomplete, Od.strLatePkts, Od.strEarlyPkts]
/-- Rows of spec/06_intake.md. -/
def Od.chapter06b : List OdRow := [Od.strFormatErr, Od.strNoSlot, Od.strSelectedRtp, Od.strPathAMissing, Od.strPathBMissing, Od.strBothMissing, Od.strSkewDrops, Od.strMergeResets, Od.strPathSkew, Od.strPathState, Od.sacnLanes, Od.sacnIn, Od.sacnSourceTimeout, Od.sacnSyncTimeout, Od.sacnStatus, Od.sacnPkts, Od.previewDrops, Od.startCodeDrops, Od.seqDrops, Od.sacnFormatErr, Od.unknownUniv, Od.sourceOverflow, Od.sourceLosses, Od.syncTimeouts]
/-- Rows of spec/06_intake.md. -/
def Od.chapter06c : List OdRow := [Od.sacnOut, Od.sacnCid, Od.sourceName, Od.sacnOutSync]
/-- Rows of spec/07_mapping.md. -/
def Od.chapter07 : List OdRow := [Od.mapRange, Od.mapEotfMode, Od.mapPqWhite, Od.mapHlgGamma, Od.mapEotfLut, Od.mapCustomLut, Od.tileMap, Od.endpointMap, Od.points, Od.univEotf, Od.univLut, Od.univCustomLut, Od.sampleBlocks, Od.tapRate, Od.offCanvasPx]
/-- Rows of spec/08_colour.md. -/
def Od.chapter08 : List OdRow := [Od.masterBrightness, Od.groupBrightness, Od.ditherReset, Od.tileColour, Od.endpointPack, Od.emitterClass, Od.outLut, Od.calTarget, Od.calData, Od.calCachePending, Od.calPages, Od.calCacheFree, Od.ageEn, Od.agePeriod, Od.ageLedger, Od.ageGain, Od.tempStale, Od.tileTemp, Od.deadPx, Od.maskedPx, Od.sparePx, Od.tempStaleTiles, Od.residualResets]
/-- Rows of spec/09_weir.md. -/
def Od.chapter09 : List OdRow := [Od.feeds, Od.unitModel, Od.weirLead, Od.feedStatus, Od.tallyLate, Od.holdOver, Od.releaseLimited, Od.clockMax, Od.tjThrottle, Od.tjCrit, Od.tjShut, Od.tjHyst, Od.critPrio, Od.cellPowerLimit, Od.p0Reserve, Od.cellLimit, Od.clockLevel, Od.allowance, Od.activeMask, Od.activeCells, Od.critState, Od.throttleSteps, Od.critEntries, Od.allowanceStalls]
/-- Rows of spec/10_lock_keeper.md. -/
def Od.chapter10 : List OdRow := [Od.cellState, Od.cellsInService, Od.sparesLeft, Od.cellRetire, Od.cellRestore, Od.bargeLimit, Od.faultLimit, Od.faultWindow, Od.prioByKind, Od.unitPrio, Od.packRows, Od.bargeEnergy, Od.delayTick, Od.delayMode, Od.delayLevel, Od.cellBusy, Od.readyDepth, Od.waitHist, Od.flightOcc, Od.graphSize, Od.ctrUnderflow, Od.badBarges, Od.windowParks, Od.creditWaits]
/-- Rows of spec/10_lock_keeper.md. -/
def Od.chapter10b : List OdRow := [Od.deadlineDrops, Od.staleCompletions, Od.lateYields, Od.bargeRetries, Od.bargesAbandoned, Od.cellFaults, Od.cellEccCorr, Od.delayFull, Od.staleEntries]
/-- Rows of spec/11_pounds.md. -/
def Od.chapter11 : List OdRow := [Od.poundConfig, Od.poundArea, Od.sluiceMap, Od.poundStatus, Od.poundEvents, Od.poundCredits, Od.sluiceState, Od.sluiceMerged]
/-- Rows of spec/12_zhoeno_link.md. -/
def Od.chapter12 : List OdRow := [Od.latchGap, Od.echoPeriod, Od.echoJump, Od.tileTimeout, Od.sealRoll, Od.rollGrace, Od.retPeriod, Od.blankAfter, Od.sealRollNow, Od.tileLink, Od.sectionSeal, Od.zhLane, Od.tileStatus, Od.sealStatus, Od.highestEpochSeen, Od.helloRx, Od.helloUnmatched, Od.echoDiscarded, Od.retRx, Od.retSealFail, Od.unsealedDrops, Od.linkHolds, Od.latchSpreadCount, Od.sealRolls]
/-- Rows of spec/12_zhoeno_link.md. -/
def Od.chapter12b : List OdRow := [Od.nonceGuards, Od.tileLosses, Od.epochFencedCount]
/-- Rows of spec/13_lamp_ports.md. -/
def Od.chapter13 : List OdRow := [Od.portEn, Od.portMode, Od.portClaim, Od.chainCfg, Od.chainFail, Od.dmxCfg, Od.rdmRetries, Od.rdmDiscPeriod, Od.rdmQueue, Od.matrixCfg, Od.gpio, Od.chainStatus, Od.chainFrames, Od.chainCheckFails, Od.chainSkips, Od.lampCuts, Od.dmxPackets, Od.dmxSkipped, Od.rdmTimeouts, Od.rdmBad, Od.rdmUids, Od.rdmUidOverflow, Od.rdmResults, Od.gpioIn]
/-- Rows of spec/13_lamp_ports.md. -/
def Od.chapter13b : List OdRow := [Od.matrixFaults, Od.faultReadbacks, Od.faultOverflow]
/-- Rows of spec/14_string_drive.md. -/
def Od.chapter14 : List OdRow := [Od.stringCfg, Od.stringGroup, Od.dimPeriods, Od.faultConfirm, Od.retryPeriod, Od.senseEvery, Od.wSense, Od.loopRate, Od.gMin, Od.gMax, Od.senseMin, Od.senseRef, Od.senseCapture, Od.ntcTable, Od.derate, Od.stringStatus, Od.senseGain, Od.lampHeat, Od.stringFaults, Od.stageFaults, Od.retryFails, Od.senseMissed, Od.senseClips]
/-- Rows of spec/15_raster.md. -/
def Od.chapter15 : List OdRow := [Od.rasterEn, Od.rsTiming, Od.rsScan, Od.rsCommit, Od.rsActive, Od.rasterMap, Od.rasterColour, Od.stillArea, Od.rasterStill, Od.framesOut, Od.underrunPx, Od.underrunLines, Od.commitsLatched, Od.modeChanges]
/-- Rows of spec/16_aqueduct.md. -/
def Od.chapter16 : List OdRow := [Od.aqRoutes, Od.aqPeers, Od.aqUdpPort, Od.aqTimeout, Od.aqRetries, Od.aqServe, Od.aqParamFrames, Od.aqForwarded, Od.aqFarErrors, Od.aqPostedFails, Od.aqTimeouts, Od.aqDupInflight, Od.aqServeDrops, Od.aqErrorLog]
/-- Rows of spec/17_towpath.md. -/
def Od.chapter17 : List OdRow := [Od.autoAcquire, Od.wdTicks, Od.standbyMode, Od.mirrorPort, Od.mirrorPeerAddr, Od.beaconPeriod, Od.rearmHoldoff, Od.fenceGrace, Od.mirrorLock, Od.towUdpPort, Od.towCommand, Od.peerBeacon, Od.mirrorSmall, Od.mirrorTable, Od.towState, Od.epoch, Od.pinState, Od.lastMirroredEpoch, Od.holdoffLeft, Od.takeovers, Od.releases, Od.wdDrops, Od.claimConflicts, Od.fences]
/-- Rows of spec/17_towpath.md. -/
def Od.chapter17b : List OdRow := [Od.epochAdvances, Od.wireFaults, Od.mirrorRefused, Od.mirrorIncomplete, Od.mirrorStale, Od.mirrorStatus]
/-- Rows of spec/18_keys.md. -/
def Od.chapter18 : List OdRow := [Od.kek, Od.attest, Od.update, Od.keyRegStatus, Od.keyLoad, Od.keyInvalidate, Od.slotStatus, Od.orphanGrace, Od.drbgState, Od.unwrapFails, Od.slotCheckFails, Od.orphans, Od.drbgHealthFails, Od.challenges]
/-- Rows of spec/19_updates.md. -/
def Od.chapter19 : List OdRow := [Od.updateState, Od.sessionLife, Od.confirmWindow, Od.autoConfirm, Od.migratePolicy, Od.sessionInfo, Od.pieceBitmap, Od.imageSlots, Od.rollbackFloor, Od.lastResult, Od.piecesBad, Od.headersRefused, Od.fallbacks]
/-- Rows of spec/20_trim_and_wear.md. -/
def Od.chapter20 : List OdRow := [Od.trimTDelta, Od.trimTRun, Od.trimTStatus, Od.trimTTaps, Od.trimLog, Od.trimARun, Od.trimAStation, Od.trimAApplyAt, Od.trimARecord, Od.trimAState, Od.replaceRequest, Od.replaceCause, Od.lifeUsed, Od.powerOnTime, Od.tjHistory, Od.tjMaxSeen, Od.ddrCeLimit, Od.envmWearLimit, Od.sramRepair, Od.ddrCeHour, Od.envmWear, Od.capacity]
/-- Rows of spec/21_power_and_reset.md. -/
def Od.chapter21 : List OdRow := [Od.powerState, Od.lastReset, Od.restart, Od.domainEn, Od.domainState, Od.moorRailsOff, Od.straps, Od.strapsLive, Od.cpWdTimeout, Od.wdStormLimit, Od.tjRestart, Od.shutAutoRestart, Od.resetCounts, Od.brownOuts, Od.shutdowns, Od.dieTemp, Od.tjHottest, Od.railMv]
/-- The row of domain B or stream S1 that answers to a row of domain A or stream S0 (R117, R165, R166, R185): the index
0x2020 for 0x2010, and the next index for 0x3000, 0x3010 and 0x3400. Domain B's PORT defaults to 12. -/
def OdRow.second (r : OdRow) : OdRow :=
  if r.key / 256 = 0x2010 then { r with key := r.key + 0x1000, dflt := if r.key = 0x201004 then 12 else r.dflt }
  else { r with key := r.key + 0x100 }

/-- The row of domain or stream `i`: 0 is A or S0, any other B or S1. -/
def OdRow.inst (r : OdRow) (i : Nat) : OdRow := if i = 0 then r else r.second

/-- Rows of domain B and stream S1. -/
def Od.second : List OdRow := [Od.ptpEnable, Od.ptpProfile, Od.ptpTransport, Od.ptpPort, Od.ptpDomainNumber, Od.ptpLockThreshold, Od.ptpUnlockThreshold, Od.ptpHoldoverLimit, Od.ptpServoBw, Od.ptpDelayAsym, Od.ptpAcceptableMasters, Od.ptpAnnounceReceiptTimeout, Od.ptpState, Od.ptpOffset, Od.ptpMeanPathDelay, Od.ptpFreqAdj, Od.ptpMasterId, Od.ptpUtcOffset, Od.ptpSyncRx, Od.ptpAnnounceTimeouts, Od.ptpLockLosses, Od.ptpRxDiscarded, Od.strEnable, Od.strWidth].map OdRow.second
/-- Rows of domain B and stream S1. -/
def Od.secondb : List OdRow := [Od.strHeight, Od.strSampling, Od.strDepth, Od.strColorimetry, Od.strTcs, Od.strNominalRate, Od.strPt, Od.strParts, Od.strProtect, Od.strIncompletePolicy, Od.strMediaOffset, Od.strStreamTimeout, Od.strLossAction, Od.strSkewLimit, Od.strState, Od.strFramesTaken, Od.strRepeated, Od.strIncomplete, Od.strAcceptedIncomplete, Od.strLatePkts, Od.strEarlyPkts, Od.strFormatErr, Od.strNoSlot, Od.strSelectedRtp].map OdRow.second
/-- Rows of domain B and stream S1. -/
def Od.secondc : List OdRow := [Od.strPathAMissing, Od.strPathBMissing, Od.strBothMissing, Od.strSkewDrops, Od.strMergeResets, Od.strPathSkew, Od.strPathState, Od.mapRange, Od.mapEotfMode, Od.mapPqWhite, Od.mapHlgGamma, Od.mapEotfLut, Od.mapCustomLut].map OdRow.second
/-- RX_OVF_DROP of traffic class `tc`: index 0x2530 + TC (R139, R146). -/
def Od.rxOvfDropTc (tc : Nat) : OdRow := { Od.rxOvfDrop with key := Od.rxOvfDrop.key + 256 * tc }

/-- RX_OVF_DROP of the traffic classes 1 to 7. -/
def Od.rxOvfDrops : List OdRow := ([1, 2, 3, 4, 5, 6, 7] : List Nat).map Od.rxOvfDropTc

/-- Every row of the dictionary. -/
def Od.table : List OdRow :=
  Od.chapter00 ++
  Od.chapter01 ++
  Od.chapter02 ++
  Od.chapter03 ++
  Od.chapter04 ++
  Od.chapter04b ++
  Od.chapter04c ++
  Od.chapter05 ++
  Od.chapter05b ++
  Od.chapter05c ++
  Od.chapter06 ++
  Od.chapter06b ++
  Od.chapter06c ++
  Od.chapter07 ++
  Od.chapter08 ++
  Od.chapter09 ++
  Od.chapter10 ++
  Od.chapter10b ++
  Od.chapter11 ++
  Od.chapter12 ++
  Od.chapter12b ++
  Od.chapter13 ++
  Od.chapter13b ++
  Od.chapter14 ++
  Od.chapter15 ++
  Od.chapter16 ++
  Od.chapter17 ++
  Od.chapter17b ++
  Od.chapter18 ++
  Od.chapter19 ++
  Od.chapter20 ++
  Od.chapter21 ++
  Od.second ++
  Od.secondb ++
  Od.secondc ++
  Od.rxOvfDrops

/-- The row that defines an entry, and the entry's place in the row (R49); none: NO_ENTRY. -/
def Od.find (key : Nat) : Option (OdRow × Nat) :=
  (Od.table.find? (fun r => decide (r.key ≤ key) && decide (key < r.key + r.n))).map (fun r => (r, key - r.key))

end Sys2Proof.Machine
end

