-- ==== Sys2Proof/Machine/State0.lean ====
section
/-!
DEFINITION. The value of an OD entry, and a store of such values: the settings of a frame, the shadow, the journal and the
values in force are each one store. And a canvas slot, which the pixel arithmetic reads.
-/
namespace Sys2Proof.Machine

/-- The value of an OD entry: a number (two's complement for signed types, R50) or the bytes of a TABLE, BLOB or STR. -/
inductive OdVal where
  | num (n : Nat)
  | tab (b : Bytes)
  deriving DecidableEq, Repr

/-- Values by entry key (INDEX × 256 + SUB), keys rising; an absent key has its row's default (log entry 6). -/
structure Store where
  nums : List (Nat × Nat) := []
  tabs : List (Nat × Bytes) := []
  deriving DecidableEq, Repr

/-- A video frame's canvas slot (R157): its stream, the frame whose window holds it, its media count and RTP timestamp, the
layout it was written under (R169), its pixel groups by line × 2^16 + group index, and the lines that are not valid. -/
structure Slot where
  stream : Nat
  frame : Nat
  count : Nat
  rtp : Nat
  width : Nat
  height : Nat
  sampling : Nat
  depth : Nat
  parts : Bytes
  groups : List (Nat × Bytes) := []
  invalid : List Nat := []
  deriving DecidableEq, Repr

end Sys2Proof.Machine
end

