-- ==== Sys2Proof/Machine/Settings.lean ====
section
/-!
DEFINITION. Reading and writing stores of OD values: a key that is absent has its row's default (R49, R53, log entry 6).
-/
namespace Sys2Proof.Machine

/-- The bytes of a default table. The emitter class record is R211's. -/
def TabDflt.bytes : TabDflt → Bytes
  | .lit b => b
  | .rep n b => (List.replicate n b).flatten
  | .ramp num den => ((List.range 4096).map (fun i => natBE 4 ((2 * i * num + den) / (2 * den)))).flatten
  | .emitters =>
    (List.replicate 16 (natBE 2 10923 ++ natBE 2 10923 ++ natBE 2 10923 ++ natBE 2 32768 ++ natBE 2 5000 ++
      (List.replicate 68 (natBE 2 32768)).flatten ++ natBE 2 0)).flatten
  | .ntc => ((List.range 33).map fun i => natBE 2 (512 * i) ++ natBE 2 (ofS 16 ((85 * i : Nat) - 640 : Int))).flatten

/-- Entry `i` of a row, as a number. -/
def Store.num (st : Store) (r : OdRow) (i : Nat := 0) : Nat := kvGetD (r.key + i) (r.default i) st.nums

/-- Entry `i` of a row, as bytes. -/
def Store.tab (st : Store) (r : OdRow) (i : Nat := 0) : Bytes := (kvGet (r.key + i) st.tabs).getD r.dtab.bytes

def Store.setNum (st : Store) (r : OdRow) (v : Nat) (i : Nat := 0) : Store := { st with nums := kvSet (r.key + i) v st.nums }

def Store.setTab (st : Store) (r : OdRow) (b : Bytes) (i : Nat := 0) : Store := { st with tabs := kvSet (r.key + i) b st.tabs }

/-- Keys from here on name calibration pages: `calBase` + CAL_TARGET (R212: each page is a value of its own). -/
def calBase : Nat := 0x100000000

/-- Set a value by key. A calibration page keeps the records its new value does not cover (R212). -/
def Store.setVal (st : Store) (key : Nat) : OdVal → Store
  | .num n => { st with nums := kvSet key n st.nums }
  | .tab b =>
    if calBase ≤ key then { st with tabs := kvSet key (b ++ (kvGetD key [] st.tabs).drop b.length) st.tabs }
    else { st with tabs := kvSet key b st.tabs }

/-- Apply values in order: a later one replaces an earlier one (R38). -/
def Store.setVals (st : Store) (vs : List (Nat × OdVal)) : Store := vs.foldl (fun a p => a.setVal p.1 p.2) st

/-- A value by key, under the row that defines it. -/
def Store.val (st : Store) (r : OdRow) (i : Nat) : OdVal :=
  if r.isTab then .tab (st.tab r i) else .num (st.num r i)

def Store.bool (st : Store) (r : OdRow) (i : Nat := 0) : Bool := st.num r i != 0

/-- The records of a TABLE entry. -/
def Store.recs (st : Store) (r : OdRow) (i : Nat := 0) : List Bytes := records r.recLen (st.tab r i)

/-- The first record whose key field (the first two bytes) is `k`. -/
def Store.recOf (st : Store) (r : OdRow) (k : Nat) : Option Bytes := (st.recs r).find? (fun b => u16 b 0 == k)

/-- A record of a single-record table, empty fields reading as zero. -/
def Store.rec1 (st : Store) (r : OdRow) (i : Nat := 0) : Bytes := padTo r.recLen (st.tab r i)

/-- Entry `i` of a 4,096-entry U32 table, read without spelling a default ramp out. -/
def Store.lut (st : Store) (r : OdRow) (sub i : Nat) : Nat :=
  match kvGet (r.key + sub) st.tabs with
  | some b => u32 b (4 * i)
  | none =>
    match r.dtab with
    | .ramp num den => (2 * i * num + den) / (2 * den)
    | _ => 0

end Sys2Proof.Machine
end

