-- ==== Sys2Proof/Machine/Pixel.lean ====
section
/-!
DEFINITION. Mapping: from pixel groups to the linear value of each output pixel (spec/07). Every result is an exact integer;
every shift is arithmetic (floor).
-/
namespace Sys2Proof.Machine

/-- Pixels and bytes of one pixel group (R157). -/
def groupDims (sampling depth : Nat) : Nat × Nat :=
  if sampling = 0 then (2, if depth = 8 then 4 else if depth = 10 then 5 else if depth = 12 then 6 else 8)
  else if depth = 8 then (1, 3) else if depth = 10 then (4, 15) else if depth = 12 then (2, 9) else (1, 6)

/-- The part {X, Y, W, H} of PARTS that holds pixel (x, y) (R150). -/
def partAt (parts : Bytes) (x y : Nat) : Option Bytes :=
  (records 8 parts).find? fun p =>
    decide (u16 p 0 ≤ x) && decide (x < u16 p 0 + u16 p 4) && decide (u16 p 2 ≤ y) && decide (y < u16 p 2 + u16 p 6)

/-- Component `i` of `total` in a pixel group, widened to 16 bits (R169). -/
def component (g : Bytes) (depth total i : Nat) : Nat :=
  (beNat g / 2 ^ ((total - 1 - i) * depth) % 2 ^ depth) * 2 ^ (16 - depth)

/-- The pixel group of line `y` at group index `gx`. -/
def Slot.group (s : Slot) (y gx : Nat) : Bytes := kvGetD (y * 65536 + gx) [] s.groups

/-- Chroma sample `m` of a 4:2:2 line: component 0 is Cb, 2 is Cr (R169, R170). -/
def Slot.chroma (s : Slot) (y m c : Nat) : Nat := component (s.group y m) s.depth 4 c

/-- Interpolated chroma at an odd pixel, indices clamped to the part (R170). -/
def Slot.chromaOdd (s : Slot) (part : Bytes) (y m c : Nat) : Nat :=
  let lo := u16 part 0 / 2
  let hi := (u16 part 0 + u16 part 4) / 2 - 1
  let at_ (k : Int) : Int := (s.chroma y (clampI lo hi k).toNat c : Int)
  let m' : Int := m
  (clampI 0 65535 ((-(at_ (m' - 1)) + 9 * at_ m' + 9 * at_ (m' + 1) - at_ (m' + 2) + 8) / 16)).toNat

/-- The three widened components of pixel (x, y): Y, Cb, Cr or R, G, B (R169, R170). -/
def Slot.components (s : Slot) (part : Bytes) (x y : Nat) : Nat × Nat × Nat :=
  if s.sampling = 0 then
    let m := x / 2
    let g := s.group y m
    if x % 2 = 0 then (component g s.depth 4 1, s.chroma y m 0, s.chroma y m 2)
    else (component g s.depth 4 3, s.chromaOdd part y m 0, s.chromaOdd part y m 2)
  else
    let n := (groupDims s.sampling s.depth).1
    let g := s.group y (x / n)
    let k := 3 * (x % n)
    let c (i : Nat) := component g s.depth (3 * n) (k + i)
    if s.sampling = 1 then (c 1, c 0, c 2) else (c 0, c 1, c 2)

/-- YOFF, KY, RCR, GCB, GCR, BCB of R171. -/
def coeffs (colorimetry range : Nat) : Int × Int × Int × Int × Int × Int :=
  if colorimetry = 0 then
    if range = 0 then (4096, 4788, 7372, -877, -2191, 8686) else (0, 4096, 6450, -767, -1917, 7601)
  else if range = 0 then (4096, 4788, 6903, -770, -2675, 8807) else (0, 4096, 6040, -674, -2340, 7706)

/-- Saturation to 16 bits (R171). -/
def sat16 (v : Int) : Nat := (clampI 0 65535 v).toNat

/-- Non-linear R′G′B′ (R171). -/
def toRgb (sampling colorimetry range : Nat) (c : Nat × Nat × Nat) : Nat × Nat × Nat :=
  let (yoff, ky, rcr, gcb, gcr, bcb) := coeffs colorimetry range
  let (a, b, d) := c
  if sampling = 2 then
    let f (v : Nat) : Nat := sat16 ((ky * ((v : Int) - yoff) + 2048) / 4096)
    (f a, f b, f d)
  else
    let y : Int := (a : Int) - yoff
    let cb : Int := (b : Int) - 32768
    let cr : Int := (d : Int) - 32768
    (sat16 ((ky * y + rcr * cr + 2048) / 4096), sat16 ((ky * y + gcb * cb + gcr * cr + 2048) / 4096),
      sat16 ((ky * y + bcb * cb + 2048) / 4096))

/-- A 4,096-entry table read between its entries (R172). -/
def lutInterp (lut : Nat → Nat) (e : Nat) : Nat :=
  let i := e / 16
  let f : Int := (e % 16 : Nat)
  let a : Int := lut i
  let b : Int := lut (min (i + 1) 4095)
  (a + ((b - a) * f + 8) / 16).toNat

/-! ### Generated tables (R173): real numbers as integers in units of 2^-96 -/

/-- 1.0. -/
def fx : Int := 2 ^ 96

/-- Σ of the exponential series from term `n` on. -/
def expSeries (x : Int) : Nat → Int → Int → Int
  | 0, _, acc => acc
  | fuel + 1, term, acc => expSeries x fuel (term * x / (fx * ((32 - fuel : Nat) : Int))) (acc + term)

/-- Σ of z^(2n+1) / (2n+1), 48 terms. -/
def atanhSeries (z2 : Int) : Nat → Int → Int → Int
  | 0, _, acc => acc
  | fuel + 1, pow, acc => atanhSeries z2 fuel (pow * z2 / fx) (acc + pow / ((95 - 2 * fuel : Nat) : Int))

/-- ln of a number from 1 to 2. -/
def lnOne (m : Int) : Int :=
  let z := (m - fx) * fx / (m + fx)
  2 * atanhSeries (z * z / fx) 48 z 0

/-- ln 2. -/
def fxLn2 : Int := lnOne (2 * fx)

/-- ln of a positive number. -/
def fxLn (x : Nat) : Int :=
  let e := Nat.log2 x
  ((e : Int) - 96) * fxLn2 + lnOne (((x * 2 ^ 96 / 2 ^ e : Nat) : Int))

/-- e^x, for x from -90 to 90. -/
def fxExp (x : Int) : Int :=
  let k := x / fxLn2
  let r := expSeries (x - k * fxLn2) 32 fx 0
  if 0 ≤ k then r * 2 ^ k.toNat else r / 2 ^ (-k).toNat

/-- x^(num / den) for x from 0 on. -/
def fxPow (x : Int) (num den : Nat) : Int := if x ≤ 0 then 0 else fxExp (fxLn x.toNat * (num : Int) / (den : Int))

/-- ST 2084's EOTF in units of 10,000 cd/m² (R173; the standard's constants, PRESUMED, log entry 20). -/
def pqLinear (s : Int) : Int :=
  let n := fxPow s 32 2523
  let top := n - fx * 107 / 128
  fxPow (top * fx / (fx * 2413 / 128 - n * 2392 / 128)) 8192 1305

/-- BT.2100's HLG inverse OETF (R173; the standard's constants, PRESUMED, log entry 20). -/
def hlgLinear (s : Int) : Int :=
  let a : Int := fx * 17883277 / 100000000
  let b : Int := fx - 4 * a
  let c : Int := fx / 2 - a * fxLn (4 * a).toNat / fx
  if 2 * s ≤ fx then s * s / fx / 3 else (fxExp ((s - c) * fx / a) + b) / 12

/-- The function of R173 at signal i / 4095, TCS 0 SDR, 1 PQ, 2 HLG; `param` is PQ_WHITE or HLG_GAMMA. -/
def eotfReal (tcs param i : Nat) : Int :=
  let s : Int := fx * (i : Int) / 4095
  if i = 0 then 0
  else if tcs = 0 then fxPow s 12 5
  else if tcs = 1 then pqLinear s * 10000 / (max param 1 : Nat)
  else fxPow (hlgLinear s) param 32768

/-- A real rounded half up to a multiple of 2^-20 and saturated; `up` decides within `band` of a tie, where the last place of a
binary64 library could (R173, R174; log entry 30). -/
def roundEntry (x : Int) (band : Nat) (up : Bool) : Nat :=
  let unit : Int := 2 ^ 76
  let near := (x % unit - unit / 2).natAbs < band
  let n := if near then x / unit + (if up then 1 else 0) else (x + unit / 2) / unit
  min n.toNat 16777215

/-- A generated entry (R173). The band about a tie is what the last places of binary64 can make of the value: 2^-40 of it, since PQ's powers
magnify an error of 2^-53 about 700 times; for HLG above half signal it is 2^-27 of it, since BT.2100 gives the constant c by a formula and
to eight places too. -/
def generated (tcs param i : Nat) : Nat :=
  let x := eotfReal tcs param i
  roundEntry x (x / (if tcs = 2 ∧ 2047 < i then 2 ^ 27 else 2 ^ 40)).natAbs (Config.eotfUp tcs param i)

/-- Entry `i` of a stream's EOTF table in force for a frame's settings (R173). -/
def eotfEntry (cfg : Store) (stream i : Nat) : Nat :=
  if cfg.num (Od.mapEotfMode.inst stream) = 1 then cfg.lut (Od.mapCustomLut.inst stream) 0 i % 2 ^ 24
  else
    let t := cfg.num (Od.strTcs.inst stream)
    let param := if t = 1 then cfg.num (Od.mapPqWhite.inst stream)
      else if t = 2 then cfg.num (Od.mapHlgGamma.inst stream) else 0
    generated t param i

/-- Entry `i` of the table for universe samples (R180): LINEAR is exact, SDR as generated, CUSTOM as written. -/
def univEntry (cfg : Store) (i : Nat) : Nat :=
  let m := cfg.num Od.univEotf
  if m = 0 then (2 * i * 1048576 + 4095) / 8190
  else if m = 1 then generated 0 0 i
  else cfg.lut Od.univCustomLut 0 i % 2 ^ 24

/-- The linear value of canvas pixel (x, y), three channels (R169–R173); uncovered columns and invalid lines read 0 (R182). -/
def linearAt (cfg : Store) (s : Slot) (x y : Nat) : List Nat :=
  match partAt s.parts x y with
  | none => [0, 0, 0]
  | some part =>
    if s.invalid.contains y then [0, 0, 0]
    else
      let colo := cfg.num (Od.strColorimetry.inst s.stream)
      let range := cfg.num (Od.mapRange.inst s.stream)
      let (r, g, b) := toRgb s.sampling colo range (s.components part x y)
      [r, g, b].map (lutInterp (eotfEntry cfg s.stream))

/-- A tap at canvas position (i, j) under EDGE (R182). `none` for the canvas: every pixel reads linear 0 (R154). -/
def tapAt (cfg : Store) (s : Option Slot) (edgeZero : Bool) (i j : Int) : List Nat :=
  match s with
  | none => [0, 0, 0]
  | some sl =>
    let w : Int := sl.width
    let h : Int := sl.height
    if 0 ≤ i ∧ i < w ∧ 0 ≤ j ∧ j < h then linearAt cfg sl i.toNat j.toNat
    else if edgeZero then [0, 0, 0]
    else linearAt cfg sl (clampI 0 (w - 1) i).toNat (clampI 0 (h - 1) j).toNat

/-- Keys kernel weights for phase p (R181). -/
def cubic (p : Int) : Int × Int × Int × Int :=
  let cm := (-(p * p * p) + 128 * p * p - 4096 * p + 16) / 32
  let c1 := (-(3 * p * p * p) + 256 * p * p + 4096 * p + 16) / 32
  let c2 := (p * p * p - 64 * p * p + 16) / 32
  (cm, 16384 - cm - c1 - c2, c1, c2)

/-- Σ of weight × tap, by channel. -/
def wsum (taps : List (Int × List Nat)) : List Int :=
  taps.foldl (fun acc t => List.zipWith (fun (a : Int) (v : Nat) => a + t.1 * (v : Int)) acc t.2) [0, 0, 0]

/-- Up-division of integers (towards +∞), divisor positive. -/
def ceilI (a : Int) (d : Nat) : Int := -((-a) / (d : Int))

/-- The filtered value at canvas position (x, y), S15.16 codes (R181). `rx`, `ry` in U8.8. -/
def filterAt (cfg : Store) (s : Option Slot) (mode rx ry : Nat) (x y : Int) : List Nat :=
  let ez := bit mode 2
  match mode % 4 with
  | 0 => tapAt cfg s ez ((x + 32768) / 65536) ((y + 32768) / 65536)
  | 1 =>
    let i0 := x / 65536
    let j0 := y / 65536
    let p := x % 65536 / 16
    let q := y % 65536 / 16
    let ws := [((4096 - p) * (4096 - q), tapAt cfg s ez i0 j0), (p * (4096 - q), tapAt cfg s ez (i0 + 1) j0),
      ((4096 - p) * q, tapAt cfg s ez i0 (j0 + 1)), (p * q, tapAt cfg s ez (i0 + 1) (j0 + 1))]
    (wsum ws).map fun v => ((v + 8388608) / 16777216).toNat
  | 2 =>
    let i0 := x / 65536
    let j0 := y / 65536
    let (a, b, c, d) := cubic (x % 65536 / 1024)
    let (e, f, g, h) := cubic (y % 65536 / 1024)
    let ws := ([(-1, e), (0, f), (1, g), (2, h)] : List (Int × Int)).flatMap fun (dj, cy) =>
      ([(-1, a), (0, b), (1, c), (2, d)] : List (Int × Int)).map fun (di, cx) => (cx * cy, tapAt cfg s ez (i0 + di) (j0 + dj))
    (wsum ws).map fun v => (clampI 0 16777215 ((v + 134217728) / 268435456)).toNat
  | _ =>
    let i0 := ceilI (x - 256 * (rx : Int)) 65536
    let i1 := ceilI (x + 256 * (rx : Int)) 65536 - 1
    let j0 := ceilI (y - 256 * (ry : Int)) 65536
    let j1 := ceilI (y + 256 * (ry : Int)) 65536 - 1
    let is := (List.range (i1 + 1 - i0).toNat).map fun (n : Nat) => i0 + n
    let js := (List.range (j1 + 1 - j0).toNat).map fun (n : Nat) => j0 + n
    let ws := js.flatMap fun j => is.map fun i => ((1 : Int), tapAt cfg s ez i j)
    let n : Int := ws.length
    (wsum ws).map fun v => ((v + n / 2) / n).toNat

/-- The canvas position of tile pixel (u, v) under a TILE_MAP record (R176, R177): w, x and y. -/
def tilePos (r : Bytes) (u v : Nat) : Int × Int × Int :=
  let w := 1099511627776 + s32 r 40 * (u : Int) + s32 r 44 * (v : Int)
  let nx := s32 r 8 * (u : Int) + s32 r 12 * (v : Int) + toS 64 (u64 r 24)
  let ny := s32 r 16 * (u : Int) + s32 r 20 * (v : Int) + toS 64 (u64 r 32)
  (w, (nx * 4294967296 + w / 2) / w, (ny * 4294967296 + w / 2) / w)

/-- Taps of one output pixel (R184). -/
def tapCount (mode rx ry : Nat) : Nat :=
  match mode % 4 with
  | 0 => 1
  | 1 => 4
  | 2 => 16
  | _ => ceilDiv (2 * rx) 256 * ceilDiv (2 * ry) 256

/-- The filter's reach (a, b) across and down (R183). -/
def reach (mode rx ry : Nat) : (Nat × Nat) × (Nat × Nat) :=
  match mode % 4 with
  | 0 => ((0, 1), (0, 1))
  | 1 => ((0, 1), (0, 1))
  | 2 => ((1, 2), (1, 2))
  | _ => ((ceilDiv rx 256, ceilDiv rx 256), (ceilDiv ry 256, ceilDiv ry 256))

/-- The position of sample `s` of the POINTS pages, 8 bytes (R179, R180). -/
def pointRec (cfg : Store) (s : Nat) : Bytes := slice (cfg.tab Od.points (s / 1048576)) (s % 1048576 * 8) 8

/-- The value of a universe sample from the frame's universe data (R180). -/
def universeSample (cfg : Store) (univ : List (Nat × Bytes)) (p : Bytes) : List Nat :=
  let slots := kvGetD (u16 p 0) [] univ
  let slot (i : Nat) : Nat := u8 slots (i - 1)
  let first := u16 p 2
  let wide := u8 p 4
  let e (c : Nat) : Nat :=
    if wide = 0 then slot (first + c) * 257 else slot (first + 2 * c) * 256 + slot (first + 2 * c + 1)
  if u8 p 5 = 3 then [0, 1, 2].map fun c => lutInterp (univEntry cfg) (e c)
  else List.replicate 3 (lutInterp (univEntry cfg) (e 0))

end Sys2Proof.Machine
end

