-- ==== Sys2Proof/Machine/Colour.lean ====
section
/-!
DEFINITION. Colour, correction, output transfer, dither and packing (spec/08), and the arithmetic of the weir (spec/09):
steps 1 to 10 of R188 and the feed scale. Every result is an exact integer.
-/
namespace Sys2Proof.Machine

/-- Saturation to L24 (R187). -/
def sat24 (v : Int) : Nat := (clampI 0 16777215 v).toNat

/-- Apply a U1.15 gain (R196). -/
def applyGain (v g : Nat) : Nat := min ((v * g + 16384) / 32768) 16777215

/-- Element `i` of a list of naturals, 0 beyond its end. -/
def nth (l : List Nat) (i : Nat) : Nat := l.getD i 0

/-- a[i][j] of R193 for a TILE_COLOUR record and dt. -/
def thermalCoeff (c : Bytes) (dt : Int) (i j : Nat) : Int :=
  clampI (-65536) 65535 ((if i = j then 32768 else 0) + (dt * s16 c (10 + 2 * (3 * i + j)) + 8) / 16)

/-- Step 1: the thermal matrix (R192, R193). -/
def thermal (c : Bytes) (dt : Int) (l : List Nat) : List Nat :=
  [0, 1, 2].map fun i => sat24 ((thermalCoeff c dt i 0 * nth l 0 + thermalCoeff c dt i 1 * nth l 1 +
    thermalCoeff c dt i 2 * nth l 2 + 16384) / 32768)

/-- dt of R192: the tile's temperature minus T_REF, saturated to ±1,024; 0 for a tile that has never reported. -/
def thermalDt (c : Bytes) (temp : Option Int) : Int :=
  match temp with
  | none => 0
  | some t => clampI (-1024) 1024 (t - s16 c 8)

/-- The identity per-pixel record (R190). -/
def identityRecord : Bytes := natBE 2 4096 ++ natBE 6 0 ++ natBE 2 4096 ++ natBE 6 0 ++ natBE 2 4096 ++ natBE 2 0

/-- Key of the calibration page that holds record `n` of a tile (kind 0) or of the endpoint references (kind 1) (R212). -/
def calKey (kind tile n : Nat) : Nat := calBase + kind * 2 ^ 30 + tile * 2 ^ 16 + n / 524288

/-- The per-pixel record in force (R189, R190). -/
def calRecord (cfg : Store) (kind tile n : Nat) : Bytes :=
  let b := slice (kvGetD (calKey kind tile n) [] cfg.tabs) (n % 524288 * 20) 20
  if b.length = 20 then b else identityRecord

/-- Step 2: the per-pixel matrix (R194). -/
def pixelMatrix (r : Bytes) (t : List Nat) : List Nat :=
  [0, 1, 2].map fun i => sat24 ((s16 r (6 * i) * nth t 0 + s16 r (6 * i + 2) * nth t 1 + s16 r (6 * i + 4) * nth t 2 + 2048) / 4096)

/-- White extraction on a four-channel unit (R195). -/
def whiteExtract (e : Bytes) (c : List Nat) : List Nat :=
  let kr := u16 e 0
  let kg := u16 e 2
  let kb := u16 e 4
  let wm := min (min (nth c 0 * 32768 / kr) (nth c 1 * 32768 / kg)) (min (nth c 2 * 32768 / kb) 1048576)
  let w := (wm * u16 e 6 + 16384) / 32768
  [nth c 0 - (w * kr + 16384) / 32768, nth c 1 - (w * kg + 16384) / 32768, nth c 2 - (w * kb + 16384) / 32768, w]

/-- The seam gain at tile pixel (u, v) (R197). -/
def seamGain (c : Bytes) (tw th u v : Nat) : Nat :=
  let ws := u8 c 36
  let ramp (g d : Nat) : Int :=
    if ws ≤ d then 32768 else (g : Int) + (32768 - (g : Int)) * (d : Int) / (ws : Int)
  ([(u16 c 28, u), (u16 c 30, tw - 1 - u), (u16 c 32, v), (u16 c 34, th - 1 - v)] : List (Nat × Nat)).foldl
    (fun s p => min ((s * (ramp p.1 p.2).toNat + 16384) / 32768) 65535) 32768

/-- The EMITTER_CLASS record `n` of the settings (R211). -/
def emitterClass (cfg : Store) (n : Nat) : Bytes := slice (cfg.tab Od.emitterClass) (n % 16 * 148) 148

/-- GROUP_BRIGHTNESS of a group (R196). -/
def groupGain (cfg : Store) (g : Nat) : Nat :=
  match kvGet Od.groupBrightness.key cfg.tabs with
  | some b => u16 b (2 * g)
  | none => 32768

/-- Steps 3 to 5: gains, clamp, and the DEAD and MASKED flags (R196–R200). -/
def gainsAndClamp (cfg : Store) (group seam : Nat) (age : List Nat) (flags : Nat) (c : List Nat) : List Nat :=
  c.zipIdx.map fun (v, i) =>
    let v := applyGain (applyGain v (age.getD i 32768)) seam
    let v := applyGain (applyGain v (cfg.num Od.masterBrightness)) (groupGain cfg group)
    if bit flags 15 || bit flags 14 then 0 else min v 1048576

/-- Channels of a tile by FORMAT (R205, R209). -/
def formatChannels (f : Nat) : Nat := if f = 0x40 then 4 else 3

/-- q of a tile by FORMAT (R205). -/
def formatQ (f : Nat) : Nat :=
  if f = 0x30 then 16 else if f = 0x24 then 12 else if f = 0x1E then 10 else if f = 0x18 then 8 else 16

/-- The gains of a unit, 32,768 where the frame holds none (R196, R199). -/
def unitGains (g : List (Nat × List Nat)) (unit : Nat) : List Nat := kvGetD unit [32768, 32768, 32768, 32768] g

/-- Step 5 values of tile pixel (u, v) (R176–R200): TILE_MAP record `m`, TILE_COLOUR record `c`. -/
def tilePixel (cfg : Store) (canvas : Option Slot) (gains : List (Nat × List Nat)) (temp : Option Int) (m c : Bytes)
    (u v : Nat) : List Nat :=
  let tw := u16 m 4
  let (_, x, y) := tilePos m u v
  let l := filterAt cfg canvas (u8 m 3) (u16 m 48) (u16 m 50) x y
  let t := thermal c (thermalDt c temp) l
  let r := calRecord cfg 0 (u16 m 0) (v * tw + u)
  let p := pixelMatrix r t
  let p := if formatChannels (u16 c 2) = 4 then whiteExtract (emitterClass cfg (u8 c 37 % 16)) p else p
  gainsAndClamp cfg (u8 c 5) (seamGain c tw (u16 m 6) u v) (unitGains gains (u16 m 0)) (u16 r 18) p

/-- The reference number of sample `i` of an endpoint (R190). -/
def refNumber (cfg : Store) (ep i : Nat) : Nat :=
  (cfg.recs Od.endpointMap).foldl (fun a r => if u16 r 0 < ep then a + u32 r 8 else a) i

/-- Step 5 values of sample `i` of an endpoint (R179–R200): ENDPOINT_MAP record `m`, ENDPOINT_PACK record `p`. Only a string endpoint has
ageing gains of its own (R196). -/
def endpointSample (cfg : Store) (canvases : List (Option Slot)) (univ : List (Nat × Bytes)) (gains : List (Nat × List Nat))
    (m p : Bytes) (i : Nat) : List Nat :=
  let pt := pointRec cfg (u32 m 4 + i)
  let l :=
    if u8 m 2 = 2 then universeSample cfg univ pt
    else filterAt cfg ((canvases.getD (u8 m 2) none)) (u8 m 3) (u16 m 12) (u16 m 14) (s32 pt 0) (s32 pt 4)
  let r := calRecord cfg 1 0 (refNumber cfg (u16 m 0) i)
  let c := pixelMatrix r l
  let ch := u8 p 3
  let c := if ch = 4 then whiteExtract (emitterClass cfg (u8 p 12 % 16)) c else c.take (if ch = 1 then 1 else 3)
  gainsAndClamp cfg (u8 p 10) 32768 (unitGains (if u8 p 2 = 4 then gains else []) (65536 + u16 m 0)) (u16 r 18) c

/-! ## Tally and scale (spec/09) -/

/-- s_c: the sum of one channel over a unit's pixels (R217). -/
def channelSum (work : List (Nat × List Nat)) (c : Nat) : Nat :=
  work.foldl (fun a w => a + (nth w.2 c + 8) / 16) 0

/-- n_u of R217 from the channel sums, each with its light-sensor gain and pulse term for a string unit. -/
def tallyPower (model : Bytes) (channels : Nat) (sums : List Nat) : Nat :=
  let k (c : Nat) : Nat := u32 model (12 + 4 * c)
  (((List.range channels).map fun c => k c * nth sums c).foldl (· + ·) 0 + 32768) / 65536

/-- The sums of a string unit with the loop gains and the pulse term p (R217). -/
def stringSums (sums gains : List Nat) (periodNs : Nat) : List Nat :=
  sums.zipIdx.map fun (s, c) => (s * gains.getD c 32768 + 16384) / 32768 + ceilDiv (2000 * 65536) periodNs

/-- b_o of a FEEDS record, µW (R219). -/
def feedBudget (r : Bytes) : Nat := u32 r 2 * 1000 * u16 r 6 / 32768

/-- The drive term of a unit at scale s (R218). -/
def driveAt (s n : Nat) : Nat := (s * n + 16384) / 32768

/-- One unit as its feed's weir job sees it: n_u unless forced to hold, and h_u (R221). -/
structure FeedUnit where
  n : Option Nat
  h : Nat
  deriving DecidableEq, Repr

/-- The sum of g(u, s) over the units (R221). -/
def feedSum (holdSafe : Bool) (us : List FeedUnit) (s : Nat) : Nat :=
  us.foldl (fun a u => a + (match u.n with
    | none => u.h
    | some n => if holdSafe then max (driveAt s n) u.h else driveAt s n)) 0

/-- Binary search for the largest s in lo..hi with the sum at most `avail`, the sum at lo fitting (R221). -/
def fitSearch (holdSafe : Bool) (us : List FeedUnit) (avail : Nat) : Nat → Nat → Nat → Nat
  | 0, lo, _ => lo
  | fuel + 1, lo, hi =>
    if hi ≤ lo then lo
    else
      let mid := (lo + hi + 1) / 2
      if feedSum holdSafe us mid ≤ avail then fitSearch holdSafe us avail fuel mid hi
      else fitSearch holdSafe us avail fuel lo (mid - 1)

/-- s_fit of R221; `none` where fits(0) is false. -/
def feedFit (holdSafe : Bool) (us : List FeedUnit) (avail : Int) : Option Nat :=
  if ((feedSum holdSafe us 0 : Nat) : Int) ≤ avail then some (fitSearch holdSafe us avail.toNat 16 0 32768) else none

/-! ## Steps 7 to 10 (R201–R208) -/

/-- Step 8: the transfer table (R202). -/
def transfer (cfg : Store) (xfer v : Nat) : Nat :=
  if xfer = 0 then v
  else
    let i := v / 256
    let f : Int := (v % 256 : Nat)
    let ent (k : Nat) : Int := if k ≤ 4095 then (cfg.lut Od.outLut (xfer - 1) k : Int) else 1048576
    (ent i + ((ent (i + 1) - ent i) * f + 128) / 256).toNat

/-- Step 9: code and new residual (R203). -/
def quantise (q v rho : Nat) : Nat × Nat :=
  let x := v * (2 ^ q - 1) + rho * 4096
  (x / 1048576, x / 4096 % 256)

/-- The place on the wire of channels R, G, B, W under ORDER (R206). -/
def orderOf (order channels : Nat) : List Nat :=
  let rgb : List Nat := match order % 8 with
    | 0 => [0, 1, 2] | 1 => [0, 2, 1] | 2 => [1, 0, 2] | 3 => [1, 2, 0] | 4 => [2, 0, 1] | _ => [2, 1, 0]
  if channels = 1 then [0]
  else if channels = 3 then rgb
  else
    let w := bits order 4 3
    rgb.take w ++ [3] ++ rgb.drop w

/-- Steps 7 to 9 of one pixel: codes by channel, and the new residuals (R201–R203). `rho` by channel. -/
def codePixel (cfg : Store) (scale xfer q : Nat) (v rho : List Nat) : List Nat × List Nat :=
  (v.zipIdx.map fun (x, c) => quantise q (transfer cfg xfer ((x * scale + 16384) / 32768)) (rho.getD c 128)).unzip

/-- A list of codes of `q` bits, most significant bit first, as bytes; a final partial byte is padded with zero bits (R207). -/
def packBits (q : Nat) (codes : List Nat) : Bytes :=
  let n := codes.length * q
  let v := codes.foldl (fun a c => a * 2 ^ q + c) 0
  let pad := (8 - n % 8) % 8
  natBE ((n + pad) / 8) (v * 2 ^ pad)

/-- The codes of a pixel in wire order (R206). -/
def wireOrder (order channels : Nat) (codes : List Nat) : List Nat := (orderOf order channels).map (nth codes)

end Sys2Proof.Machine
end

