-- ==== Sys2Proof/Machine/Crypto.lean ====
section
/-!
DEFINITION. The ciphers and digests the manual names by their standards (R287, R304, R412, R414, R428, R431): AES-256, AES key
wrap, GCM, SHA-256 and HMAC. PRESUMED: the standards' own algorithms, which the manual names and does not repeat
(log entry 21).
-/
namespace Sys2Proof.Machine

/-- The substitution table of AES. -/
def aesSbox : List Nat :=
  [99, 124, 119, 123, 242, 107, 111, 197, 48, 1, 103, 43, 254, 215, 171, 118] ++
  [202, 130, 201, 125, 250, 89, 71, 240, 173, 212, 162, 175, 156, 164, 114, 192] ++
  [183, 253, 147, 38, 54, 63, 247, 204, 52, 165, 229, 241, 113, 216, 49, 21] ++
  [4, 199, 35, 195, 24, 150, 5, 154, 7, 18, 128, 226, 235, 39, 178, 117] ++
  [9, 131, 44, 26, 27, 110, 90, 160, 82, 59, 214, 179, 41, 227, 47, 132] ++
  [83, 209, 0, 237, 32, 252, 177, 91, 106, 203, 190, 57, 74, 76, 88, 207] ++
  [208, 239, 170, 251, 67, 77, 51, 133, 69, 249, 2, 127, 80, 60, 159, 168] ++
  [81, 163, 64, 143, 146, 157, 56, 245, 188, 182, 218, 33, 16, 255, 243, 210] ++
  [205, 12, 19, 236, 95, 151, 68, 23, 196, 167, 126, 61, 100, 93, 25, 115] ++
  [96, 129, 79, 220, 34, 42, 144, 136, 70, 238, 184, 20, 222, 94, 11, 219] ++
  [224, 50, 58, 10, 73, 6, 36, 92, 194, 211, 172, 98, 145, 149, 228, 121] ++
  [231, 200, 55, 109, 141, 213, 78, 169, 108, 86, 244, 234, 101, 122, 174, 8] ++
  [186, 120, 37, 46, 28, 166, 180, 198, 232, 221, 116, 31, 75, 189, 139, 138] ++
  [112, 62, 181, 102, 72, 3, 246, 14, 97, 53, 87, 185, 134, 193, 29, 158] ++
  [225, 248, 152, 17, 105, 217, 142, 148, 155, 30, 135, 233, 206, 85, 40, 223] ++
  [140, 161, 137, 13, 191, 230, 66, 104, 65, 153, 45, 15, 176, 84, 187, 22]

/-- Exclusive or of two byte strings of one length. -/
def xorBytes (a b : Bytes) : Bytes := List.zipWith (· ^^^ ·) a b

def aesSub (b : Byte) : Byte := BitVec.ofNat 8 (aesSbox.getD b.toNat 0)

/-- The inverse substitution. -/
def aesInvSub (b : Byte) : Byte := BitVec.ofNat 8 (aesSbox.idxOf b.toNat)

/-- Doubling in the field of AES. -/
def aesDbl (b : Byte) : Byte := if b.getLsbD 7 then (b <<< 1) ^^^ 0x1B#8 else b <<< 1

/-- Multiplication by a small constant in the field of AES. -/
def aesMul (k : Nat) (b : Byte) : Byte :=
  let b2 := aesDbl b
  let b4 := aesDbl b2
  let b8 := aesDbl b4
  (if bit k 0 then b else 0#8) ^^^ (if bit k 1 then b2 else 0#8) ^^^ (if bit k 2 then b4 else 0#8) ^^^ (if bit k 3 then b8 else 0#8)

/-- One column times the circulant of a row of constants. -/
def aesColumn (k : List Nat) (c : Bytes) : Bytes :=
  (List.range 4).map fun i => (List.range 4).foldl (fun a j => a ^^^ aesMul (nthNat k ((j + 4 - i) % 4)) (c.getD j 0#8)) 0#8
where
  nthNat (l : List Nat) (i : Nat) : Nat := l.getD i 0

/-- MixColumns with a row of constants. -/
def aesMix (k : List Nat) (s : Bytes) : Bytes := (chunksF 4 4 s).flatMap (aesColumn k)

/-- ShiftRows: byte at row r, column c comes from column c + r × d. -/
def aesShift (d : Nat) (s : Bytes) : Bytes :=
  (List.range 16).map fun n => s.getD ((n / 4 + (n % 4) * d) % 4 * 4 + n % 4) 0#8

/-- The 60 words of the AES-256 key schedule, newest last. -/
def aesWords (key : Bytes) : List Bytes :=
  (List.range 52).foldl (fun ws n =>
    let i := n + 8
    let t := ws.getD (i - 1) []
    let t :=
      if i % 8 = 0 then xorBytes ((t.drop 1 ++ t.take 1).map aesSub) [BitVec.ofNat 8 (2 ^ (i / 8 - 1)), 0#8, 0#8, 0#8]
      else if i % 8 = 4 then t.map aesSub else t
    ws ++ [xorBytes (ws.getD (i - 8) []) t]) (chunksF 8 4 (padTo 32 key))

/-- The 15 round keys. -/
def aesKeys (key : Bytes) : List Bytes := chunksF 15 16 (aesWords key).flatten

/-- AES-256 on one block under an expanded key (FIPS 197). -/
def aesEnc (ks : List Bytes) (block : Bytes) : Bytes :=
  let s := xorBytes (padTo 16 block) (ks.getD 0 [])
  let s := (List.range 13).foldl (fun s r => xorBytes (aesMix [2, 3, 1, 1] (aesShift 1 (s.map aesSub))) (ks.getD (r + 1) [])) s
  xorBytes (aesShift 1 (s.map aesSub)) (ks.getD 14 [])

/-- The inverse cipher. -/
def aesDec (ks : List Bytes) (block : Bytes) : Bytes :=
  let s := (aesShift 3 (xorBytes (padTo 16 block) (ks.getD 14 []))).map aesInvSub
  let s := (List.range 13).foldl (fun s r => (aesShift 3 (aesMix [14, 11, 13, 9] (xorBytes s (ks.getD (13 - r) [])))).map aesInvSub) s
  xorBytes s (ks.getD 0 [])

/-- KCV: the first 4 bytes of 16 zero bytes encrypted under the key (R428). -/
def keyKcv (key : Bytes) : Nat := u32 (aesEnc (aesKeys key) (List.replicate 16 0#8)) 0

/-- AES key wrap (R412, R418, R436): the wrap of a multiple of 8 bytes. -/
def kwWrap (kek key : Bytes) : Bytes :=
  let ks := aesKeys kek
  let r := chunksF (key.length / 8) 8 key
  let n := r.length
  let out := (List.range (6 * n)).foldl (fun (p : Bytes × List Bytes) t =>
    let i := t % n
    let b := aesEnc ks (p.1 ++ p.2.getD i [])
    (xorBytes (b.take 8) (natBE 8 (t + 1)), setAt p.2 i (b.drop 8))) (List.replicate 8 0xA6#8, r)
  out.1 ++ out.2.flatten

/-- The unwrap; none where the integrity check fails. -/
def kwUnwrap (kek blob : Bytes) : Option Bytes :=
  let ks := aesKeys kek
  let r := chunksF (blob.length / 8) 8 (blob.drop 8)
  let n := r.length
  let out := (List.range (6 * n)).foldl (fun (p : Bytes × List Bytes) u =>
    let t := 6 * n - 1 - u
    let i := t % n
    let b := aesDec ks (xorBytes p.1 (natBE 8 (t + 1)) ++ p.2.getD i [])
    (b.take 8, setAt p.2 i (b.drop 8))) (blob.take 8, r)
  if out.1 = List.replicate 8 0xA6#8 then some out.2.flatten else none

/-- Multiplication of two blocks in the field of GCM. -/
def gcmMul (x y : Nat) : Nat :=
  ((List.range 128).foldl (fun (p : Nat × Nat) i =>
    ((if bit x (127 - i) then p.1 ^^^ p.2 else p.1),
     (if p.2 % 2 = 1 then (p.2 / 2) ^^^ (0xE1 * 2 ^ 120) else p.2 / 2))) (0, y)).1

/-- The hash of GCM over padded blocks. -/
def gcmHash (h : Nat) (b : Bytes) : Nat :=
  (chunksF (b.length / 16 + 1) 16 b).foldl (fun a x => gcmMul (a ^^^ beNat (padTo 16 x)) h) 0

/-- The key stream of GCM from counter 2 on, `n` bytes. -/
def gcmStream (ks : List Bytes) (nonce : Bytes) (n : Nat) : Bytes :=
  ((List.range (ceilDiv n 16)).flatMap fun i => aesEnc ks (nonce ++ natBE 4 (i + 2))).take n

/-- The tag of GCM over AAD and ciphertext, 16 bytes; `nonce` has 12 bytes. -/
def gcmTag (key nonce aad ct : Bytes) : Bytes :=
  let ks := aesKeys key
  let h := beNat (aesEnc ks (List.replicate 16 0#8))
  let pad (b : Bytes) : Bytes := padTo (ceilDiv b.length 16 * 16) b
  let s := gcmHash h (pad aad ++ pad ct ++ natBE 8 (aad.length * 8) ++ natBE 8 (ct.length * 8))
  xorBytes (natBE 16 s) (aesEnc ks (nonce ++ natBE 4 1))

/-- GCM encryption or decryption of the text (the key stream is its own inverse). -/
def gcmText (key nonce text : Bytes) : Bytes := xorBytes text (gcmStream (aesKeys key) nonce text.length)

/-- The round constants of SHA-256. -/
def shaK : List Nat :=
  [0x428a2f98, 0x71374491, 0xb5c0fbcf, 0xe9b5dba5, 0x3956c25b, 0x59f111f1, 0x923f82a4, 0xab1c5ed5] ++
  [0xd807aa98, 0x12835b01, 0x243185be, 0x550c7dc3, 0x72be5d74, 0x80deb1fe, 0x9bdc06a7, 0xc19bf174] ++
  [0xe49b69c1, 0xefbe4786, 0x0fc19dc6, 0x240ca1cc, 0x2de92c6f, 0x4a7484aa, 0x5cb0a9dc, 0x76f988da] ++
  [0x983e5152, 0xa831c66d, 0xb00327c8, 0xbf597fc7, 0xc6e00bf3, 0xd5a79147, 0x06ca6351, 0x14292967] ++
  [0x27b70a85, 0x2e1b2138, 0x4d2c6dfc, 0x53380d13, 0x650a7354, 0x766a0abb, 0x81c2c92e, 0x92722c85] ++
  [0xa2bfe8a1, 0xa81a664b, 0xc24b8b70, 0xc76c51a3, 0xd192e819, 0xd6990624, 0xf40e3585, 0x106aa070] ++
  [0x19a4c116, 0x1e376c08, 0x2748774c, 0x34b0bcb5, 0x391c0cb3, 0x4ed8aa4a, 0x5b9cca4f, 0x682e6ff3] ++
  [0x748f82ee, 0x78a5636f, 0x84c87814, 0x8cc70208, 0x90befffa, 0xa4506ceb, 0xbef9a3f7, 0xc67178f2]

def rotr (w n : Nat) : Nat := (w / 2 ^ n) ||| (w % 2 ^ n * 2 ^ (32 - n))

/-- The 64 words of a block's message schedule. -/
def shaWords (b : Bytes) : List Nat :=
  (List.range 48).foldl (fun w n =>
    let i := n + 16
    let a := w.getD (i - 15) 0
    let c := w.getD (i - 2) 0
    let s0 := rotr a 7 ^^^ rotr a 18 ^^^ (a / 8)
    let s1 := rotr c 17 ^^^ rotr c 19 ^^^ (c / 1024)
    w ++ [(w.getD (i - 16) 0 + s0 + w.getD (i - 7) 0 + s1) % 2 ^ 32]) ((chunksF 16 4 b).map beNat)

/-- One block into the eight words of the digest. -/
def shaBlock (h : List Nat) (b : Bytes) : List Nat :=
  let w := shaWords b
  let r := (List.range 64).foldl (fun (v : List Nat) i =>
    let g (n : Nat) : Nat := v.getD n 0
    let e := g 4
    let s1 := rotr e 6 ^^^ rotr e 11 ^^^ rotr e 25
    let ch := (e &&& g 5) ^^^ ((2 ^ 32 - 1 - e) &&& g 6)
    let t1 := g 7 + s1 + ch + shaK.getD i 0 + w.getD i 0
    let a := g 0
    let s0 := rotr a 2 ^^^ rotr a 13 ^^^ rotr a 22
    let mj := (a &&& g 1) ^^^ (a &&& g 2) ^^^ (g 1 &&& g 2)
    [(t1 + s0 + mj) % 2 ^ 32, a, g 1, g 2, (g 3 + t1) % 2 ^ 32, e, g 5, g 6]) h
  List.zipWith (fun a b => (a + b) % 2 ^ 32) h r

/-- SHA-256. -/
def sha256 (m : Bytes) : Bytes :=
  let p := m ++ [0x80#8] ++ List.replicate ((119 - m.length % 64) % 64) 0#8 ++ natBE 8 (m.length * 8)
  ((chunksF (p.length / 64) 64 p).foldl shaBlock
    [0x6a09e667, 0xbb67ae85, 0x3c6ef372, 0xa54ff53a, 0x510e527f, 0x9b05688c, 0x1f83d9ab, 0x5be0cd19]).flatMap (natBE 4)

/-- HMAC-SHA-256 (R412); keys here have 32 bytes. -/
def hmac (key m : Bytes) : Bytes :=
  let k := padTo 64 key
  sha256 (k.map (· ^^^ 0x5C#8) ++ sha256 (k.map (· ^^^ 0x36#8) ++ m))

end Sys2Proof.Machine
end

