-- ==== Sys2Proof/Machine/State.lean ====
section
/-!
DEFINITION. What Cloyr holds: every register, table, queue, buffer, counter, mode and pin the manual names, grouped by
chapter, and the queue of commands that wait. Plain data throughout. INVENTORY.md lists each with its rule.
-/
namespace Sys2Proof.Machine

/-- Reasons a command stops the machine. Only `undefinedStart`: PORST_N released before R463's conditions hold, where the supply
monitors see no rail below their limits, which spec/21 calls an "Undefined start". Raised by PORST_RELEASE alone; safe, since the hardware may
do anything. -/
inductive Fault where
  | undefinedStart
  deriving DecidableEq, Repr

/-- Reasons a command has no meaning here. Raised by no meaning; safe. -/
inductive Refusal where
  /-- The command's arm of `exec` has no meaning yet. Raised by Dispatch alone; safe. -/
  | notModelled (mnemonic : String)
  deriving DecidableEq, Repr

/-- What the self-tests of one start find (R235, R456): cells that fail; macro, spare rows used and spare rows left of the SRAM macros, in
SRAM_REPAIR's order; macros with a failing row and no spare row left; image slots that fail to load, with R444's reason 3 or 4 (R441). -/
structure SelfTest where
  cells : List Nat := []
  sram : List (Nat × Nat × Nat) := []
  lost : Nat := 0
  slots : List (Nat × Nat) := []
  deriving DecidableEq, Repr

/-- One event record (R82). -/
structure Event where
  code : Nat
  frame : Nat
  time : Nat
  arg : Bytes
  deriving DecidableEq, Repr

/-- One subscription and its queue of NOTIFY messages (R81, R82). -/
structure Sub where
  src : Src
  cls : Nat
  lo : Nat
  hi : Nat
  expires : Nat
  seq : Nat := 0
  queue : List (Nat × Event) := []
  dropped : Nat := 0
  deriving DecidableEq, Repr

/-- One of a source's last messages: SEQ, and the reply kept (R68). READ keeps none, and WRITE_POSTED has none. -/
structure Kept where
  seq : Nat
  cmd : Nat
  status : Nat
  payload : Option Bytes
  deriving DecidableEq, Repr

/-- A source and the replies to its last 16 messages (R68). -/
structure DupSrc where
  src : Src
  kept : List Kept
  deriving DecidableEq, Repr

/-- A bulk session (R74–R77). -/
structure Bulk where
  handle : Nat
  src : Src
  key : Nat
  isWrite : Bool
  total : Nat
  data : Bytes
  parts : List (Nat × Bytes)
  lastSeen : Nat
  deriving DecidableEq, Repr

/-- A message Cloyr sends (R65, R67): its destination, command code, SEQ, DEVICE, STATUS and payload, whether it is a reply, and the UDP
port it leaves from. -/
structure Sent where
  dst : Src
  cmd : Nat
  seq : Nat
  device : Nat
  status : Nat
  payload : Bytes
  isReply : Bool := false
  sport : Nat := 51120
  deriving DecidableEq, Repr

/-- A reply that waits until every kind in `waits` is done: 0 SYNC, 1 to 3 key registers, 4 TRIM_A_RUN. -/
structure Owed where
  req : Req
  cmd : Nat
  waits : List Nat
  status : Nat
  payload : Bytes
  deriving DecidableEq, Repr

/-- A group command taken (R22, R24, R79): kind 0 COMMIT, 1 SNAPSHOT, 2 RESET. -/
structure GroupCmd where
  kind : Nat
  src : Src
  seq : Nat
  execNs : Nat
  bound : Nat
  status : Nat
  acted : Bool := false
  replied : Bool := false
  deriving DecidableEq, Repr

/-- The object dictionary server (spec/03). `regs` holds the value in force of every entry of access R, W and RW. -/
structure OdState where
  regs : Store := {}
  /-- accepted RW and W writes waiting for the next tick (R56), oldest first, with the instant each was accepted at -/
  pend : List (Nat × OdVal × Nat) := []
  /-- the settings store in xSPI flash (R53) -/
  journal : Store := {}
  /-- changes waiting to be journalled (R53), with the instant each took effect, oldest first -/
  journalQ : List (Nat × OdVal × Nat) := []
  /-- replies owed: to writes of SYNC, of key registers and TRIM_A_RUN, and to forwarded messages (R53, R413, R453) -/
  owed : List Owed := []
  dups : List DupSrc := []
  bulks : List Bulk := []
  nextHandle : Nat := 1
  subs : List (Nat × Sub) := []
  log : List Event := []
  posted : List Bytes := []
  /-- the copy of the last group SNAPSHOT (R80) -/
  snapshot : Option (List (Nat × OdVal)) := none
  groups : List GroupCmd := []
  /-- input queues of classes M, O and P (R86): messages with their command codes, oldest first -/
  inQ : List (Nat × Nat × Msg) := []
  spiReplies : List Sent := []
  /-- messages for the lanes and MGMT ports whose descriptors are still to be written, oldest first (R127) -/
  outbox : List Sent := []
  /-- what transfers of the SPI target shifted out, newest first: the model's own record (log entry 7) -/
  spiOut : List Bytes := []
  /-- the UDP port that the reply to a write of OD_UDP_PORT still leaves by (R86) -/
  replyFrom : Option Nat := none
  /-- when each bit of IRQ_PENDING was last set by an event (R84) -/
  irqAt : List (Nat × Nat) := []
  /-- MGMT1 demoted to class O since the last start (R63) -/
  demoted : Bool := false
  /-- events raised by the command under way, oldest first; logged and queued when it ends -/
  raised : List Event := []
  /-- messages handed to the ports, newest first: the model's own record of what Cloyr sent (log entry 7) -/
  sent : List Sent := []
  /-- events raised at most once a tick, with the tick at which each was last raised (key: code × 65536 + unit) -/
  oncePerTick : List (Nat × Nat) := []
  deriving DecidableEq, Repr

/-! ## Timeline (spec/02) -/

/-- An accepted commit that waits (R34–R38): its bound frame as a full tick index, and the values it carries. -/
structure Commit where
  bound : Nat
  vals : List (Nat × OdVal)
  /-- the mirror's own commit (R403): its values are no part of the dirty set -/
  mirror : Bool := false
  deriving DecidableEq, Repr

/-- One output in one frame in flight. -/
structure OutFrame where
  out : Out
  /-- λ_o fixed at the close (R29) -/
  lam : Int
  /-- 0 undecided, 1 launch, 2 hold, 3 launched, 4 held with its instant past, 5 held at its LATCH after its data went (R294) -/
  decision : Nat := 0
  deriving DecidableEq, Repr

/-- One lamp-string or tile energy plan, and other figures a frame fixes at its close (R154, R291, R316, R345). -/
structure Frame where
  k : Nat
  rate : Nat
  /-- frame k of the old grid of a FRAME_RATE change (R41) -/
  old : Bool := false
  cfg : Store
  closed : Bool := false
  abandoned : Bool := false
  /-- D was lowered: the frame is never presented (R40) -/
  skipped : Bool := false
  /-- per stream: the canvas taken at the close; none reads as linear 0 (R154) -/
  canvas : List (Option Slot) := []
  /-- universe data by universe (R163) -/
  univ : List (Nat × Bytes) := []
  /-- tile temperatures fixed at the close, 1/16 °C (R192, R193) -/
  temps : List (Nat × Int) := []
  outs : List OutFrame := []
  /-- step 5 values by unit (kind × 65536 + unit), then by pixel index or sample position (R188) -/
  work : List (Nat × List (Nat × List Nat)) := []
  /-- ageing gains by unit, fixed at the cut-off (R199) -/
  gains : List (Nat × List Nat) := []
  /-- residuals a launched frame leaves, by unit then by pixel × 4 + channel (R203, R204) -/
  residuals : List (Nat × List (Nat × Nat)) := []
  /-- its place among all frames that entered, by which residual resets are ordered (R204) -/
  ord : Nat := 0
  /-- n_u of each unit whose tally has completed (R217), µW at scale 1.0 -/
  tally : List (Nat × Nat) := []
  /-- published scale of each feed, 0 to 32768 (R221) -/
  scale : List (Nat × Nat) := []
  /-- units forced to hold by their feed's weir job (R224) -/
  forced : List Nat := []
  /-- packed bytes by output (R207) -/
  packed : List (Out × List (Nat × Bytes)) := []
  /-- input power predicted for each feed at scale 1.0, mW (R225), and the feeds whose weir job counted HOLD_OVER (R223) -/
  predicted : List (Nat × Nat) := []
  overCounted : List Nat := []
  /-- sACN output universes that a commit removed, with their records: this frame sends Stream_Terminated for each (R164) -/
  ending : List (Nat × Bytes) := []
  deriving DecidableEq, Repr

/-- What an output has presented (R31–R33). -/
structure OutState where
  /-- has presented a frame since the timeline last started -/
  shown : Bool := false
  /-- LATENCY_OVER_WINDOW raised and not yet rearmed (R30) -/
  latOver : Bool := false
  /-- sACN: the record and slots presented last (R164) -/
  data : List (Nat × Bytes) := []
  deriving DecidableEq, Repr

/-- The timeline (spec/02). -/
structure Timeline where
  /-- rate code of the grid in force -/
  rate : Nat := 9
  /-- index of the next tick on that grid -/
  nextTick : Nat := 0
  /-- index of the next frame whose cut-off falls -/
  nextCut : Nat := 0
  /-- the old grids of FRAME_RATE changes while their ticks still occur (R41): rate, next old tick, last old tick, and the first old
  tick that is not a tick of the generator any more -/
  oldGrids : List (Nat × Nat × Nat × Nat) := []
  /-- settings of the newest fixed frame (R38) -/
  newest : Store := {}
  /-- settings of CURRENT_FRAME (R51) -/
  cur : Store := {}
  /-- settings of the frame presented last -/
  pres : Store := {}
  /-- the dirty set (R34): keys and shadow values -/
  dirty : List (Nat × OdVal) := []
  waiting : List Commit := []
  frames : List Frame := []
  /-- frames that have entered so far -/
  opened : Nat := 0
  outs : List (Out × OutState) := []
  /-- the tick that no acknowledgement within the limit will come for, and the rate code of its grid (R42) -/
  awaitAck : Option (Nat × Nat) := none
  /-- first frame after the timeline last started (R44) -/
  first : Nat := 0
  /-- settings in force fail R20 since the start (R503) -/
  invalid : Bool := false
  /-- bound frame of the commit that satisfied R503 -/
  startFrame : Option Nat := none
  /-- a frame has been presented since the timeline last started or restarted -/
  anyShown : Bool := false
  /-- TICK_OUT pin: 0 low, 1 high, 2 high-impedance (R45), and the instant a pulse ends -/
  tickOut : Nat := 2
  tickOutEnd : Nat := 0
  deriving DecidableEq, Repr

/-! ## Time engine (spec/04) -/

/-- A foreign master seen by a domain. -/
structure Master where
  ann : Announce
  seen : Nat
  deriving DecidableEq, Repr

/-- One PTP domain (R92–R94). `off` is the domain's estimate of the grandmaster's time minus device time, as it was at `TimeState.offAt`. -/
structure PtpDomain where
  state : Nat := 0
  off : Int := 0
  masters : List Master := []
  chosen : Option Announce := none
  lastAnnounce : Nat := 0
  lastSync : Nat := 0
  logSync : Int := 0
  /-- consecutive Syncs within LOCK_THRESHOLD, and beyond UNLOCK_THRESHOLD -/
  good : Nat := 0
  bad : Nat := 0
  /-- Syncs seen since HOLDOVER heard a master again, all within UNLOCK_THRESHOLD so far -/
  regained : Nat := 0
  holdSince : Nat := 0
  /-- path delay measured, ns -/
  delay : Option Nat := none
  /-- logMinDelayReqInterval of the chosen master, once a Delay_Resp of it came, and when the next request is due (R90) -/
  logDelayReq : Option Int := none
  nextReq : Nat := 0
  /-- last request sent: SEQ, transmit capture once known, and whether the capture is still awaited or used -/
  reqSeq : Nat := 0
  reqTime : Option Nat := none
  reqOpen : Bool := false
  lastOrigin : Option (Nat × Nat) := none
  /-- last peer response: its transmit time there and its receive capture here, and the neighbour's rate, ppb (R90) -/
  lastPeer : Option (Nat × Nat) := none
  rateRatio : Option Int := none
  /-- cumulativeScaledRateOffset of the last Follow_Up information TLV (R90) -/
  gmRate : Option Int := none
  /-- the Pdelay_Req being answered: requester and SEQ (R90) -/
  respTo : Option (Nat × Nat) := none
  /-- held OFF for its port, with 0x2009 raised (R92) -/
  refused : Bool := false
  /-- FREQ_ADJ as HOLDOVER was entered, about which HOLDOVER_ASSIST steers (R113) -/
  holdFreq : Int := 0
  deriving DecidableEq, Repr

/-- The time engine. -/
structure TimeState where
  /-- device time, ns since the PTP epoch (R26, R96) -/
  now : Nat := 0
  /-- fraction of a nanosecond, units of 2^-16 (R96) -/
  frac : Nat := 0
  doms : List PtpDomain := [{}, {}]
  /-- the instant the offsets of the domains stand for -/
  offAt : Nat := 0
  /-- a slew under way (R97, R100): start instant and the offset then still to go, ns; its rate, ppm; and whether it corrects the selected
  domain in place of a step (NO_STEP_RUNNING) rather than following a switch -/
  slew : Option (Nat × Int) := none
  slewRate : Nat := 10
  correcting : Bool := false
  /-- a switch that SELECT asked for at the next tick (R99) -/
  selectReq : Option Nat := none
  /-- PPS_OUT (R114): 0 low, 1 high, 2 high-impedance, and when the pulse ends -/
  ppsOut : Nat := 2
  ppsOutEnd : Nat := 0
  /-- transmit timestamp queues by port (R107): 16-byte entries, oldest first -/
  tsq : List (Nat × List Bytes) := []
  /-- SEQ of the next PTP message -/
  ptpSeq : Nat := 0
  deriving DecidableEq, Repr

/-! ## Pounds (spec/11) -/

/-- One entry: tag and 32 bytes (R264). -/
structure PEntry where
  producer : Nat
  prio : Nat
  data : Bytes
  /-- it lies in the pound area of the basin, not on chip (R271) -/
  spilled : Bool := false
  deriving DecidableEq, Repr

/-- One pound (R264–R282). -/
structure Pound where
  owner : Nat := 0
  cap : Nat := 1024
  hiMark : Nat := 768
  loMark : Nat := 256
  grants : List Nat := [1024, 0, 0, 0, 0, 0, 0, 0]
  credits : List Int := [1024, 0, 0, 0, 0, 0, 0, 0]
  entries : List PEntry := []
  high : Bool := false
  last : Option PEntry := none
  /-- a smaller capacity waiting for the level to fall (R281) -/
  resizeTo : Option Nat := none
  highSeen : Bool := false
  lowSeen : Bool := false
  underrun : Bool := false
  crossings : Nat := 0
  maxLevel : Nat := 0
  refusals : Nat := 0
  spillErrors : Nat := 0
  /-- a read waits on the spill (R271) -/
  fetching : Bool := false
  deriving DecidableEq, Repr

/-- One sluice pin (R275–R278): level 0 low, 1 high, 2 high-impedance; when it last changed; the states still to show. -/
structure Sluice where
  level : Nat := 2
  since : Nat := 0
  pending : Nat := 0
  deriving DecidableEq, Repr

/-! ## Lanes (spec/05) -/

/-- A descriptor being sent: its queue, the descriptor, the template bytes and payload it names, the seal key it loaded
(R422), the next segment, the segments sent in full, whether it went late, and the instant its first segment started. -/
structure TxJob where
  tc : Nat
  desc : Bytes
  hdr : Bytes
  pay : Bytes
  key : Option Bytes := none
  seg : Nat := 0
  sent : Nat := 0
  late : Bool := false
  start : Nat := 0
  deriving DecidableEq, Repr

/-- The frame on the wire of a port. -/
structure TxFrame where
  job : TxJob
  bytes : Bytes
  gated : Bool
  last : Bool
  /-- the timestamp queue entry taken as it started (R107) -/
  stamp : Option Bytes := none
  deriving DecidableEq, Repr

/-- One port's MAC. -/
structure Port where
  /-- PCS lock, or the in-band status of a MGMT port, says the link is up -/
  up : Bool := false
  /-- the partner signals remote fault (R120) -/
  remoteFault : Bool := false
  speed : Nat := 0
  wire : Option TxFrame := none
  /-- descriptors taken whose segments are not all sent, one a queue at most -/
  jobs : List TxJob := []
  /-- pause end by TC, and the start of the continuous pause -/
  pause : List (Nat × Nat × Nat) := []
  ignoreUntil : Option Nat := none
  rxSeq : Nat := 0
  /-- header templates (R129) by slot, and the slot to be written next -/
  templates : List (Nat × Bytes) := []
  nextSlot : Nat := 0
  deriving DecidableEq, Repr

/-- The lanes, the pounds and the basin. -/
structure NetState where
  ports : List Port := List.replicate 26 {}
  /-- frames put on the wire of each port, newest first: the model's own record (log entry 7) -/
  wires : List (Nat × Bytes) := []
  pounds : List (Nat × Pound) := []
  sluices : List Sluice := List.replicate 8 {}
  /-- pounds whose host record was set aside at a start (R279) -/
  setAside : List Nat := []
  /-- what reads by POUND_READ and after SPILL_FETCH_DONE returned, newest first: pound, tag and data (R264, R269), the model's own record
  (log entry 7) -/
  reads : List (Nat × Nat × Bytes) := []
  /-- the basin (DDR5): address and byte, addresses rising, no byte zero (log entry 8) -/
  basin : List Host.Cell := []
  /-- where the next received frame and the next payload go -/
  rxNext : Nat := 0
  txNext : Nat := 0
  deriving DecidableEq, Repr

/-! ## Intake (spec/06) -/

/-- One path of a part (R156). -/
structure PathSt where
  lastRx : Option Nat := none
  active : Bool := false
  deriving DecidableEq, Repr

/-- One part's merge state (R155). `seen` maps a sequence number in the window to the arrival instants by path. -/
structure PartSt where
  highest : Option Nat := none
  /-- the first number that can leave the window: the anchor, then the window's foot -/
  base : Nat := 0
  seen : List (Nat × Option Nat × Option Nat) := []
  lastAccept : Option Nat := none
  /-- oldest packet since the last accepted one, all behind the window -/
  behindSince : Option Nat := none
  paths : List PathSt := [{}, {}]
  deriving DecidableEq, Repr

/-- One video stream. -/
structure StreamSt where
  state : Nat := 0
  lastAccept : Option Nat := none
  parts : List PartSt := List.replicate 8 {}
  slots : List Slot := []
  /-- canvas of the most recent frame closed since the timeline started (R154) -/
  lastCanvas : Option Slot := none
  /-- (B − A) arrival differences of the last 1,024 numbers both paths delivered, ns (R156) -/
  skews : List Int := []
  skewHigh : Bool := false
  /-- video frames dropped for want of a slot (R157): media count and frame -/
  noSlot : List (Nat × Nat) := []
  deriving DecidableEq, Repr

/-- One sACN source entry (R160). -/
structure SacnSource where
  cid : Nat
  priority : Nat
  seq : Nat
  slots : Bytes
  /-- a contribution has been merged -/
  live : Bool
  /-- newest packet pending on a synchronisation address, and its place in the order of acceptance (R160, R162) -/
  pending : Option (SacnPkt × Nat) := none
  syncAddr : Nat := 0
  /-- merges on arrival until the next synchronisation packet (R162) -/
  freeRun : Bool := false
  /-- when the last synchronisation packet for the address came, or, where none has, when the source first carried it (R162) -/
  syncSince : Nat := 0
  lastRx : Nat
  /-- order of acceptance of the last merged packet, for LTP (R160) -/
  stamp : Nat := 0
  deriving DecidableEq, Repr

/-- One universe of SACN_IN. -/
structure UnivSt where
  sources : List SacnSource := []
  slots : Bytes := []
  overflowed : Bool := false
  deriving DecidableEq, Repr

/-- Intake. -/
structure IntakeState where
  streams : List StreamSt := [{}, {}]
  univs : List (Nat × UnivSt) := []
  /-- last accepted synchronisation sequence by (address, CID) -/
  syncSeq : List (Nat × Nat × Nat) := []
  /-- when the last synchronisation packet was accepted, by address (R162) -/
  syncAt : List (Nat × Nat) := []
  stamp : Nat := 0
  /-- sACN output universes: next sequence number, and universes that a commit removed, with the frames to come that still send a
  terminated packet, and their records (R164) -/
  outSeq : List (Nat × Nat) := []
  ending : List (Nat × Nat × Bytes) := []
  deriving DecidableEq, Repr

/-! ## Cells and the lock-keeper (spec/10) -/

/-- A barge in the store (R240, R242). -/
structure Barge where
  /-- its place in the barge store, 0 to 131,071 (R242, R255) -/
  id : Nat
  bytes : Bytes
  firmware : Bool := false
  faults : Nat := 0
  readyAt : Nat := 0
  /-- frame of the graph it belongs to (full index), 0 for firmware -/
  frame : Nat := 0
  /-- where it stands: 0 ready, 1 parked on its counter, 2 parked on its flight, 3 running, 4 retired while running -/
  place : Nat := 0
  deriving DecidableEq, Repr

/-- One cell (R233). `reserved` spares fill in at the next step 4 (R237). -/
structure Cell where
  state : Nat := 0
  asking : Option Nat := none
  running : Option Nat := none
  startedAt : Nat := 0
  busyNs : Nat := 0
  lastBusy : Nat := 0
  resetting : Bool := false
  faults : List Nat := []
  restore : Bool := false
  deriving DecidableEq, Repr

/-- One dependence counter (R248): value, FORCED flag and parked barges in order. -/
structure Counter where
  value : Nat := 0
  forced : Bool := false
  parked : List Nat := []
  deriving DecidableEq, Repr

/-- One flight (R250): NEXT, target pound, completed yields by SEQ, the parked barges, and how it stands for credit. -/
structure Flight where
  next : Nat := 0
  target : Nat := 0
  yields : List (Nat × List Bytes) := []
  parked : List Nat := []
  waiting : Bool := false
  /-- dispatched and not completed -/
  inFlight : Nat := 0
  /-- the largest occupancy of this period and of the last complete one (R262) -/
  maxOcc : Nat := 0
  lastMax : Nat := 0
  /-- the cell that last completed a barge of the flight (R244) -/
  lastCell : Option Nat := none
  /-- end of the SEQ range given up last (R253) -/
  givenUp : List (Nat × Nat) := []
  deriving DecidableEq, Repr

/-- A direct yield waiting for credit (R245). -/
structure HeldYield where
  entries : List Bytes
  target : Nat
  prio : Nat
  ctr0 : Nat
  ctr1 : Nat
  frame : Nat
  deriving DecidableEq, Repr

/-- What a frame graph's numbers stand for: the counters and flights the lock-keeper gave its units, feeds and outputs. -/
structure GraphMap where
  /-- counter of unit u (kind × 65536 + unit), feed tally F_f and release G_f, output O_o -/
  unitCtr : List (Nat × Nat) := []
  feedCtr : List (Nat × Nat × Nat) := []
  outCtr : List (Out × Nat) := []
  flight : List (Out × Nat) := []
  /-- SEQ range of each output's flight in the frame -/
  seqs : List (Out × Nat × Nat) := []
  barges : Nat := 0
  counters : Nat := 0
  delays : Nat := 0
  deriving DecidableEq, Repr

/-- The lock-keeper. -/
structure LockState where
  /-- cells 34q + 32 and 34q + 33 are spares at the first start (R233) -/
  cells : List Cell := (List.replicate 4 (List.replicate 32 ({} : Cell) ++ List.replicate 2 { state := 1 })).flatten
  barges : List Barge := []
  /-- the place in the store tried first for the next barge (log entry 123) -/
  nextId : Nat := 0
  /-- ready lists 0 to 7: barge ids, head first -/
  ready : List (List Nat) := List.replicate 8 []
  /-- the largest depth of each list in this period and in the last complete one (R262) -/
  readyMax : List Nat := List.replicate 8 0
  readyLast : List Nat := List.replicate 8 0
  counters : List (Nat × Counter) := []
  flights : List (Nat × Flight) := []
  /-- the four delay lists (R255): 16-byte entries in order of insertion, each with its number in the order over all four (R256) -/
  delays : List (List (Nat × Bytes)) := [[], [], [], []]
  nextDelay : Nat := 0
  held : List HeldYield := []
  /-- graph numbers of the frames released, by frame -/
  graphs : List (Nat × GraphMap) := []
  askOrder : Nat := 0
  /-- allowance spent this tick period above the mask (R229), 0.1 µJ -/
  spent : Nat := 0
  /-- dispatch has stalled for allowance since the last dispatch -/
  stalled : Bool := false
  periodStart : Nat := 0
  /-- cells of each quadrant that left service since its last step 4, which a SPARE replaces there (R237) -/
  vacant : List Nat := [0, 0, 0, 0]
  /-- wait histogram: 64 counts, 8 priorities by 8 bins (R262) -/
  waitHist : List Nat := List.replicate 64 0
  /-- signals given to the control processor by delay entries (R255) -/
  signals : List Nat := []
  deriving DecidableEq, Repr

/-! ## Towpath (spec/17) -/

/-- Part of a mirrored commit received (R403). -/
structure MirrorPart where
  tag : Nat
  part : Nat
  parts : Nat
  key : Nat
  boundFrame : Nat
  presentAt : Nat
  value : Bytes
  first : Nat
  deriving DecidableEq, Repr

/-- A mirror message sent and not yet answered (R403). -/
structure MirrorOut where
  tag : Nat
  part : Nat
  key : Nat
  bytes : Bytes
  resends : Nat := 0
  /-- SEQ of its message -/
  seq : Nat := 0
  deriving DecidableEq, Repr

/-- The towpath logic in AO (R391–R405). -/
structure TowState where
  /-- TOW_STATE of R391 -/
  state : Nat := 0
  /-- HOLD asserted -/
  hold : Bool := false
  /-- TOW_PEER_N read asserted after its filter (R387) -/
  peer : Bool := false
  peerSince : Nat := 0
  /-- step 3 of R393 passed its re-check and waits for the beacon check (R396) -/
  rechecked : Bool := false
  claimAt : Nat := 0
  /-- the claim waits for a beacon (R396) -/
  beaconWait : Bool := false
  /-- a new epoch is being written to eNVM (R399) -/
  epochWrite : Option Nat := none
  attempts : Nat := 0
  backoffUntil : Option Nat := none
  holdoffUntil : Option Nat := none
  /-- the AO count of consecutive unacknowledged ticks (R397), and whether the frame engine has run since AO last started or
  left mooring, so that there is one to count -/
  missed : Nat := 0
  engineRan : Bool := false
  /-- MISSED_RUN has read 0 for one tick since the release (R397) -/
  calm : Bool := true
  gateOpenedAt : Nat := 0
  /-- the epoch has been advanced once since the gate opened (R400) -/
  advanced : Bool := false
  /-- the epoch in Zhoeno frames since the last close (R399) -/
  epochInUse : Nat := 0
  handover : Bool := false
  /-- a release caused by TJ_SHUT still to be reported (R392 cause 6) -/
  shutRelease : Bool := false
  /-- a beacon had come within 3 × BEACON_PERIOD before the pin deasserted (R396) -/
  beaconRecent : Bool := false
  /-- last beacon received: bytes and instant -/
  lastBeacon : Option (Bytes × Nat) := none
  lastSmall : Option Nat := none
  linkLost : Bool := false
  /-- instant at which AO started, from which the peer link counts before its first beacon (R405) -/
  linkSince : Nat := 0
  nextBeacon : Nat := 0
  nextSmall : Nat := 0
  parts : List MirrorPart := []
  unanswered : List MirrorOut := []
  mirrorTag : Nat := 0
  /-- SEQ of the towpath's next message -/
  txSeq : Nat := 0
  /-- mirrored entries changed while the peer link was lost (R405), and those changed without a commit since the last one (R403) -/
  owed : List Nat := []
  changed : List Nat := []
  nextLedger : Nat := 0
  deriving DecidableEq, Repr

/-! ## Power, domains and reset (spec/21) -/

/-- The AO supervisor. -/
structure PowerState where
  /-- POWER_STATE of R465 -/
  state : Nat := 0
  /-- DOMAIN_STATE by domain number of R467 -/
  doms : List Nat := List.replicate 13 0
  /-- no rail is below the limit of its supply monitor (R464) -/
  railsOk : Bool := true
  strapLive : Nat := 0
  strapRaised : List Nat := []
  /-- cause of the start under way (R475) -/
  cause : Nat := 1
  /-- watchdog starts in the last 600 s (R473) -/
  wdStarts : List Nat := []
  /-- TJ_SHUT latched, and since when Tj has stayed at or below TJ_RESTART (R474) -/
  shutLatched : Bool := false
  coolSince : Option Nat := none
  resetCounts : List Nat := List.replicate 9 0
  dieTemps : List (Int × Bool) := List.replicate 12 (0, false)
  dieFault : List Nat := []
  warmLow : Bool := false
  railsEn : Bool := true
  /-- when each domain was last switched on (R468) -/
  onAt : List Nat := List.replicate 13 0
  /-- the rail of the brown-out under way (R464) -/
  brownRail : Nat := 0
  /-- next reading of the die sensors (R226): a timer of AO that a step of device time does not move -/
  nextDie : Nat := 0
  /-- size of the xSPI flash on the board, MiB (R495; log entry 61) -/
  flashMiB : Nat := 1024
  /-- MODEL'S OWN: what the self-tests of the coming starts find, the silicon's; none listed finds nothing (log entry 60) -/
  selfTests : List SelfTest := []
  /-- what those of the last start found (R235, R456) -/
  selfTest : SelfTest := {}
  deriving DecidableEq, Repr

/-! ## Colour (spec/08) and weir (spec/09) -/

/-- Colour state that outlives a frame. Units are keyed kind × 65536 + number (0 tile, 1 endpoint or string). -/
structure ColourState where
  /-- drive ledgers by channel, in 1/16 full-drive hour × 2^40 (R198) -/
  ledger : List (Nat × List Nat) := []
  /-- ageing gains computed last (R199) -/
  gains : List (Nat × List Nat) := []
  /-- units whose AGE_CURVE_END has been raised -/
  curveEnd : List Nat := []
  /-- residuals of the last launched frame, by unit then pixel × 4 + channel (R204) -/
  residuals : List (Nat × List (Nat × Nat)) := []
  /-- resets of residuals that no launched frame has followed yet: unit, and the place of the frame they hold from (R204) -/
  resetFrom : List (Nat × Nat) := []
  /-- a DITHER_RESET waits for the next cut-off (R204) -/
  ditherReset : Bool := false
  /-- committed pages waiting for the calibration cache, by CAL_TARGET (R213) -/
  calQueue : List (Nat × Bytes) := []
  /-- the calibration cache in flash: CAL_TARGET, CRC-32C and records -/
  calCache : List (Nat × Nat × Bytes) := []
  /-- CAL_PAGES: CAL_TARGET, CRC and CACHED -/
  calPages : List (Nat × Nat × Bool) := []
  /-- last temperature reported by each tile and when, 1/16 °C (R192, R193) -/
  temps : List (Nat × Int × Nat) := []
  /-- last fixed temperatures (TILE_TEMP) -/
  fixed : List (Nat × Int) := []
  /-- tiles reported stale since their last fresh report (R193) -/
  stale : List Nat := []
  /-- mean drive by channel each unit presents now, 2^-20 of full drive after feed scale (R198) -/
  drive : List (Nat × List Nat) := []
  nextJournal : Nat := 0
  nextAge : Nat := 0
  deriving DecidableEq, Repr

/-- FEED_STATUS of one feed (R225, R230), and its release-limit state (R222). -/
structure FeedState where
  scale : Nat := 32768
  predicted : Nat := 0
  presented : Nat := 0
  /-- the frame of PRESENTED_IN and its total at the supply's output, µW, which R294 corrects -/
  presFrame : Option Nat := none
  total : Nat := 0
  limited : Nat := 0
  /-- frame for which `prev` was published -/
  prevFrame : Option Nat := none
  prev : Nat := 32768
  deriving DecidableEq, Repr

/-- The weir. -/
structure WeirState where
  feeds : List (Nat × FeedState) := []
  /-- h_u by unit (R220), µW -/
  h : List (Nat × Nat) := []
  /-- n_u of the frame each unit presents -/
  level : Nat := 0
  crit : Bool := false
  /-- when the level was last lowered and last raised (R227) -/
  lastDrop : Option Nat := none
  lastRaise : Option Nat := none
  /-- A of the current tick, what remains of it (R228, R229), 0.1 µJ -/
  allowance : Nat := 0
  remaining : Nat := 0
  /-- cells in the active-cell mask, ascending -/
  mask : List Nat := []
  tjHottest : Int := 0
  /-- latch time of TJ_SHUT still to be reported (R227) -/
  shutAt : Option Nat := none
  deriving DecidableEq, Repr

/-! ## Zhoeno link (spec/12) -/

/-- One TILE_LINK record's tile (R296–R303). -/
structure Tile where
  /-- 0 ABSENT, 1 ASSIGNED, 2 RUNNING, 3 LOST, 4 MISMATCH (R299) -/
  state : Nat := 0
  mac : Nat := 0
  ipv4 : Nat := 0
  presentLat : Nat := 0
  /-- the last valid δ in ns, and the window of accepted measurements, newest last (R298, R299) -/
  delta : Int := 0
  window : List Int := []
  jumps : List Int := []
  /-- measurements accepted since ASSIGNED -/
  accepted : Nat := 0
  /-- ECHOs outstanding, oldest first: ECHO_ID, send instant, transmit capture (units of 2^-16 ns, TRIM_GEN) -/
  echoes : List (Nat × Nat × Option (Nat × Nat)) := []
  nextEcho : Nat := 0
  lastHeard : Nat := 0
  keyReady : Bool := false
  keyReadyId : Nat := 0
  /-- KEYID the tile is known to hold -/
  keyHeld : Option Nat := none
  seq : Nat := 0
  lastRetFrame : Nat := 0
  epochHigh : Nat := 0
  cause : Nat := 0
  paramSeq : Nat := 0
  /-- a PARAM waiting for acknowledgement: SEQ, FRAME, payload, frame of the last sending (R303) -/
  param : Option (Nat × Nat × Bytes × Nat) := none
  /-- PARAMs still to send, oldest first: FRAME and payload -/
  paramQ : List (Nat × Bytes) := []
  deriving DecidableEq, Repr

/-- What a unit stood at before the frame that a LATCH may yet hold (R294): feed and its efficiency, h_u, drive, residuals and the resets that
waited. -/
structure UnitWas where
  feed : Option (Nat × Nat)
  h : Option Nat
  drive : Option (List Nat)
  residuals : Option (List (Nat × Nat))
  resets : List (Nat × Nat)
  deriving DecidableEq, Repr

/-- One tile in the plan of a frame (R291). -/
structure PlanTile where
  tile : Nat
  sec : Nat
  a : Int
  q : Nat
  sigma : Nat
  wait : Nat
  lam : Int
  /-- PIX completion status once in (R294): 0 SENT, 2 SENT_LATE, others of R134; 255 none yet -/
  pix : Nat := 255
  hold : Bool := false
  was : Option UnitWas := none
  deriving DecidableEq, Repr

/-- The launch plan of one lane for one frame (R291, R292). -/
structure LanePlan where
  frame : Nat
  /-- place of the frame among those that have closed, over every grid -/
  ord : Nat := 0
  lane : Nat
  /-- t_{k+D} of the frame -/
  present : Nat
  aLane : Int
  sLane : Nat
  tau : Nat
  tiles : List PlanTile
  fixed : Bool := false
  deriving DecidableEq, Repr

/-- One section's seal (R304–R307): the slots of its current, next and previous key (R420). -/
structure Seal where
  secNo : Nat
  keyId : Nat := 0
  cur : Option Nat := none
  next : Option Nat := none
  prev : Option Nat := none
  /-- place of the frame from which RETs under the previous key fail (R302); like the others, over every grid (R41) -/
  prevUntil : Nat := 0
  /-- a roll is under way; it waits for a key while `next` is none -/
  rolling : Bool := false
  /-- place of the frame of the offer -/
  rollFrame : Nat := 0
  /-- KEY_SLOTS_FULL raised for this roll (R420) -/
  fullSaid : Bool := false
  /-- place of the frame from which the current key seals (R306) -/
  since : Nat := 0
  underKey : Nat := 0
  /-- last frame sealed under the current key and epoch (R305) -/
  lastFrame : Option Nat := none
  lastEpoch : Nat := 0
  sealing : Bool := false
  /-- R305 stopped sealing -/
  guarded : Bool := false
  /-- 2^31 frames stopped sealing (R306) -/
  limited : Bool := false
  /-- SEAL_UNAVAILABLE raised for the state under way -/
  unavailable : Bool := false
  deriving DecidableEq, Repr

/-- The link engines. -/
structure LinkState where
  /-- place of the frame that closed last (R306) -/
  lastOrd : Nat := 0
  tiles : List (Nat × Tile) := []
  plans : List LanePlan := []
  seals : List Seal := []
  /-- last HELLO_UNMATCHED event by lane (R301), and last EPOCH_FENCED event by section (R308) -/
  unmatched : List (Nat × Nat) := []
  fenced : List (Nat × Nat) := []
  /-- SEQ counters of broadcast frames by section (R305), and the next ECHO_ID -/
  secSeq : List (Nat × Nat) := []
  echoNext : Nat := 0
  deriving DecidableEq, Repr

/-! ## Lamp ports (spec/13) -/

/-- What a port put on its wire: 1 chain frame, 2 DMX packet, 3 RDM request; from which instant, under which record, and the bytes (of a
chain, those of the LEDs). -/
structure LineOut where
  port : Nat
  kind : Nat
  start : Nat
  rec_ : Bytes
  bytes : Bytes
  deriving DecidableEq, Repr

/-- An RDM request (R328): its record, whether discovery made it, and how often it was sent. -/
structure RdmReq where
  bytes : Bytes
  tries : Nat := 0
  /-- an RDM route of the aqueduct made it (R382) -/
  route : Bool := false
  deriving DecidableEq, Repr

/-- One lamp port. -/
structure LampPort where
  /-- what the port is sending: 0 nothing, 1 chain frame, 2 DMX packet, 3 RDM transaction; and when it ends -/
  busy : Nat := 0
  busyEnd : Nat := 0
  /-- frame launched last and its bytes (R322, R324) -/
  launched : Option (Nat × Bytes) := none
  /-- chain: the record its last frame was sent under, and until when the line rests behind that frame (R316) -/
  sentRec : Bytes := []
  restEnd : Nat := 0
  /-- chain: OK values of loop − RETURN_ADJ in quarters of a nanosecond (newest last), OK frames since enable, runs of good and bad
  results (R320, R321) -/
  loops : List Int := []
  okSeen : Nat := 0
  d : Nat := 0
  goodRun : Nat := 0
  badRun : Nat := 0
  fault : Bool := false
  lastResult : Nat := 0
  measured : Nat := 0
  /-- a chain return window is open until -/
  window : Option Nat := none
  /-- DMX: the newest launched frame has been carried by a packet (R324) -/
  carried : Bool := true
  /-- slots of the packet under way -/
  packet : Bytes := []
  /-- packets since the last RDM transaction (R326) -/
  sinceRdm : Nat := 0
  rdmQ : List RdmReq := []
  rdmNow : Option RdmReq := none
  results : List Bytes := []
  /-- discovered UIDs with the discoveries each has missed (R327) -/
  uids : List (Nat × Nat) := []
  nextDisc : Nat := 0
  /-- gate opened at this instant: first chain frame only T_RESET later (R337) -/
  openedAt : Nat := 0
  /-- pin levels A, B, C: 0 low, 1 high, 2 high-impedance -/
  pins : List Nat := [2, 2, 2]
  deriving DecidableEq, Repr

/-- One LED's test runs (R335): consecutive reports and cleans of a kind. -/
structure LedTest where
  line : Nat
  row : Nat
  column : Nat
  kind : Nat
  reports : Nat := 0
  cleans : Nat := 0
  fault : Bool := false
  /-- reported as a fault that the full list could not take -/
  spilt : Bool := false
  deriving DecidableEq, Repr

/-- One matrix group. -/
structure Matrix where
  /-- codes of the frame presented, by scan-order channel position -/
  shown : Option (List (Nat × List Nat)) := none
  /-- frame launched and waiting for scan 0 -/
  next : Option (List (Nat × List Nat)) := none
  /-- device time from which the launched frame is presented -/
  nextAt : Nat := 0
  /-- the next scan starts at or after this instant -/
  after : Nat := 0
  scansSince : Nat := 0
  readback : Nat := 0
  tests : List LedTest := []
  overflowed : Bool := false
  deriving DecidableEq, Repr

/-- The lamp ports. -/
structure LampState where
  ports : List LampPort := List.replicate 48 {}
  groups : List Matrix := List.replicate 8 {}
  /-- what was put on the ports' wires, newest first: the model's own record (log entry 7) -/
  lines : List LineOut := []
  deriving DecidableEq, Repr

/-! ## Strings and sensors (spec/14) -/

/-- A turn-on delay being measured (R346): the LPnB rising edge (ns), the last of its samples, and whether the crossing is behind it. -/
structure DonMeasure where
  edge : Nat
  last : Option (Nat × Nat) := none
  done : Bool := false
  deriving DecidableEq, Repr

/-- One string controller (R344–R350). -/
structure StringSt where
  /-- 0 OK, 1 OPEN, 2 SHORT, 3 STAGE, 4 OFF (R349), and the state before OFF -/
  state : Nat := 0
  before : Nat := 0
  acc : Int := 0
  duty : Nat := 0
  /-- consecutive OPEN and SHORT tests -/
  opens : Nat := 0
  shorts : Nat := 0
  /-- last valid sample, and whether the pulse under way has one that no test has read -/
  iMeas : Nat := 0
  vMeas : Nat := 0
  untested : Bool := false
  /-- the pulse under way: reference, rising edge (ns), length in 1.25 ns steps, and what of it follows a sense burst -/
  iRef : Nat := 0
  rise : Nat := 0
  steps : Nat := 0
  rise2 : Nat := 0
  steps2 : Nat := 0
  /-- a pulse or period that gives a test (R348) -/
  gives : Bool := false
  /-- the next period starts at or after this instant -/
  after : Nat := 0
  /-- last turn-on delays measured, newest last, how many since enabled, and the tick of the last (R346) -/
  dons : List Nat := []
  donCount : Nat := 0
  donTick : Option Nat := none
  /-- the measurement of this controller's last measuring tick -/
  measure : Option DonMeasure := none
  don : Nat := 1000
  /-- next retry (R349) -/
  retryAt : Nat := 0
  /-- setpoint of the frame presented, none before the first (R345) -/
  setpoint : Option Nat := none
  /-- g and f of that frame (R344) -/
  g : Nat := 32768
  f : Nat := 32768
  /-- starts from the soft start at its next period -/
  soft : Bool := true
  enabled : Bool := false
  /-- levels of LPnA (switching) and LPnB: 0 low, 1 driven, 2 high-impedance -/
  pinA : Nat := 2
  pinB : Nat := 2
  deriving DecidableEq, Repr

/-- One string group's colour loop and lamp heat (R351–R354). `off`: the lamp heat keeps it off from the next dimming period. -/
structure StringGroup where
  /-- G in U1.31 by channel -/
  gain : List Nat := List.replicate 4 2147483648
  lastUpdate : List Nat := List.replicate 4 0
  atLimit : List Bool := List.replicate 4 false
  capture : List Bool := List.replicate 4 false
  /-- burst under way: on-times of the lit windows in steps by channel, and the burst's end -/
  burst : Option (List Nat) := none
  burstEnd : Nat := 0
  derating : Bool := false
  off : Bool := false
  deriving DecidableEq, Repr

/-- One thermistor (R353, R354): its last 16 samples, newest last, and its fault. -/
structure Ntc where
  samples : List Nat := []
  fault : Bool := false
  deriving DecidableEq, Repr

/-- The strings. `fixedG`, `fixedF` and `fixedDon` are what the last close fixed (R346, R352, R353). -/
structure StringsState where
  ctl : List StringSt := List.replicate 16 {}
  groups : List StringGroup := List.replicate 16 {}
  ntcs : List Ntc := List.replicate 4 {}
  fixedG : List (List Nat) := List.replicate 16 (List.replicate 4 32768)
  fixedF : List Nat := List.replicate 16 32768
  fixedDon : List Nat := List.replicate 16 1000
  deriving DecidableEq, Repr

/-! ## Raster (spec/15) -/

/-- A frame in a pipeline buffer: the format it was packed in, TW and TH, and its bytes, lines a stride apart (R364, R369). -/
structure RasterImage where
  fmt : Nat := 0
  tw : Nat := 0
  th : Nat := 0
  bytes : Bytes := []
  deriving DecidableEq, Repr

/-- The raster block. The shadow set is the value in force of RS_TIMING and RS_SCAN (R365). -/
structure RasterState where
  /-- active set in force: RS_TIMING and RS_SCAN records -/
  timing : Bytes := []
  scan : Bytes := []
  /-- a timing change awaits its black frame -/
  black : Bool := false
  /-- the PLL is relocking since (R367) -/
  relock : Option Nat := none
  /-- FRAME_RATE changed: apply it as a timing change at the next latch line (R368) -/
  rateChange : Bool := false
  /-- tick rate that f follows -/
  rate : Nat := 9
  /-- the next raster frame starts at or after this instant; start of the last, and whether its latch line is to come -/
  after : Nat := 0
  frameStart : Nat := 0
  inFrame : Bool := false
  /-- pipeline buffers by number; the one shown; frame launched and waiting (R369) -/
  buffers : List RasterImage := [{}, {}]
  shown : Option Nat := none
  next : Option Nat := none
  /-- device time from which the frame launched last is presented -/
  nextAt : Nat := 0
  /-- what the frame under way shows: 0 black, 1 pipeline buffer, 2 STILL -/
  content : Nat := 0
  /-- STILL_AREA's bytes by offset, offsets rising, no zero (log entry 8) -/
  still : List Host.Cell := []
  /-- lines of underrun since the last event, and the tick of the last event (R371) -/
  lines : Nat := 0
  eventTick : Option Nat := none
  /-- RS0 and RS1 pairs: 0 high-impedance, 1 driven -/
  pins : List Nat := [0, 0]
  deriving DecidableEq, Repr

/-! ## Aqueduct (spec/16) -/

/-- A window message accepted for a far device (R379–R381). -/
structure AqMsg where
  /-- the requester: its message's SEQ and source; no reply for a posted write -/
  src : Src
  reqSeq : Nat
  posted : Bool
  cmd : Nat
  route : Nat
  /-- requested items: local INDEX, SUB, type, and widths of source and destination -/
  items : List (Nat × Nat × Nat)
  /-- the far payload -/
  payload : Bytes
  deriving DecidableEq, Repr

/-- One far device (R379). -/
structure AqPeer where
  queue : List AqMsg := []
  inFlight : Option AqMsg := none
  seq : Nat := 0
  resends : Nat := 0
  deadline : Nat := 0
  unreachable : Bool := false
  deriving DecidableEq, Repr

/-- An RDM or TILE_PARAM write that waits for its outcome (R382, R383). -/
structure AqWait where
  msg : AqMsg
  /-- lamp port, or tile -/
  dst : Nat
  /-- RDM TAG, or PARAM SEQ -/
  tag : Nat
  /-- frame after which no acknowledgement counts -/
  deadline : Nat := 0
  deriving DecidableEq, Repr

/-- The aqueduct. -/
structure AqState where
  peers : List (Nat × AqPeer) := []
  /-- bridged messages waiting for the OD server (R381): command code, class, message -/
  serve : List (Nat × Nat × Msg) := []
  rdm : List AqWait := []
  params : List AqWait := []
  log : List Bytes := []
  deriving DecidableEq, Repr

/-! ## Keys (spec/18) -/

/-- One copy of a key register (R414): key, generation, and whether its CMAC passes. -/
structure KeyCopy where
  key : Bytes := []
  gen : Nat := 0
  valid : Bool := false
  deriving DecidableEq, Repr

/-- One key register: copies A and B. -/
structure KeyReg where
  a : KeyCopy := {}
  b : KeyCopy := {}
  /-- a write under way: who wrote, and the generation it leaves (R413) -/
  writing : Option (Req × Nat) := none
  deriving DecidableEq, Repr

/-- One working slot (R417). -/
structure KeySlot where
  state : Nat := 0
  key : Bytes := []
  usage : Nat := 0
  parent : Nat := 0xFF
  depth : Nat := 0
  persist : Bool := false
  secNo : Nat := 0xFFFF
  crc : Nat := 0
  deriving DecidableEq, Repr

/-- An invalidation in its grace (R422): slot, its descendants, the tick it ends at and that tick's grid. -/
structure Invalidation where
  slot : Nat
  /-- the slot itself keeps its state at the end: it went BAD, or holds a new key -/
  keeps : Bool
  descendants : List Nat
  endTick : Nat
  rate : Nat := 9
  deriving DecidableEq, Repr

/-- A persisted blob (R424): its KEY_LOAD record, its depth, and the KEK generation of its tag (R416). -/
structure KeyBlob where
  record : Bytes
  depth : Nat
  kekGen : Nat
  /-- the journal holds it (R53) -/
  saved : Bool := false
  deriving DecidableEq, Repr

/-- Keys. -/
structure KeyState where
  regs : List KeyReg := List.replicate 3 {}
  slots : List KeySlot := List.replicate 64 {}
  graces : List Invalidation := []
  blobs : List KeyBlob := []
  /-- DRBG: state of R428, requests since the last seeding, its instant, failures in a row, retry instant, draws -/
  drbg : Nat := 0
  requests : Nat := 0
  seededAt : Nat := 0
  failures : Nat := 0
  retryAt : Option Nat := none
  draws : Nat := 0
  /-- instants of the CHALLENGE requests validated in the last second (R427) -/
  challenges : List Nat := []
  deriving DecidableEq, Repr

/-! ## Updates (spec/19) -/

/-- One image slot in flash (R431, R436). -/
structure ImageSlot where
  /-- STATE of IMAGE_SLOTS -/
  state : Nat := 0
  version : Nat := 0
  rollback : Nat := 0
  schema : Nat := 0
  tries : Nat := 0
  header : Bytes := []
  pieces : List (Nat × Bytes) := []
  /-- the content key wrapped under the hardware key (R436) -/
  wrap : Bytes := []
  deriving DecidableEq, Repr

/-- An update session (R433–R435). -/
structure Session where
  number : Nat
  header : Bytes
  contentSlot : Nat
  slot : Nat
  opened : Nat
  held : List Nat
  /-- pieces under assembly: index, parts by offset -/
  parts : List (Nat × List (Nat × Bytes))
  deriving DecidableEq, Repr

/-- A scheduled activation (R437). -/
structure Activation where
  flags : Nat
  at_ : Nat
  /-- HANDOVER was issued at the activation tick and the release of HOLD is awaited -/
  handing : Bool := false
  deriving DecidableEq, Repr

/-- Updates. -/
structure UpdateState where
  slots : List ImageSlot := [{ state := 4 }, {}]
  /-- the slot the boot record names, and the previous one during a trial -/
  running : Nat := 0
  trial : Bool := false
  session : Option Session := none
  nextSession : Nat := 1
  activation : Option Activation := none
  floor : Nat := 0
  lastResult : Bytes := []
  /-- settings area of the previous image during a trial (R442) -/
  oldArea : Option Store := none
  dropped : Nat := 0
  /-- timeline start of the try under way, and the start of MISSED_RUN's reading 0 (R443, R444) -/
  tryStart : Option Nat := none
  calmSince : Option Nat := none
  /-- service restart under way: its activation tick's instant (R438–R440) -/
  restarting : Option Nat := none
  /-- blocks of domains that stayed on switch code at the next close (R440) -/
  newCode : Bool := false
  /-- missed-tick count suspended until (R439) -/
  suspendUntil : Option Nat := none
  deriving DecidableEq, Repr

/-! ## Trim and the lengthsman (spec/20) -/

/-- Trim and the ledgers of AO. -/
structure TrimState where
  /-- class T: run under way, a further run asked for, and the run whose result waits for step 2 (R449, R450) -/
  running : Bool := false
  again : Bool := false
  waiting : Option Nat := none
  runs : Nat := 0
  /-- `runs` at the last start: TRIM_T_STATUS counts from there (R454) -/
  runsBase : Nat := 0
  /-- tap and residual by path: of the run that waits, and as applied (R448, R450) -/
  next : List (Nat × Nat × Int) := []
  taps : List (Nat × Nat × Int) := []
  /-- temperature at the last run, 1/16 °C, and when -/
  lastTj : Int := 0
  lastTime : Nat := 0
  log : List Bytes := []
  /-- paths and converters at END, and that the last class T run found one (R451) -/
  endT : List Nat := []
  endA : List Nat := []
  causeT : Bool := false
  /-- the first run since AO came on has completed (R449) -/
  aoRun : Bool := false
  /-- class A: run under way (tag, start and requester), stored record, record in force, APPLY_AT -/
  aRun : Option (Nat × Nat × Req) := none
  aRuns : Nat := 0
  aStored : Bytes := []
  aForce : Bytes := []
  aState : Nat := 0
  aApplyAt : Option Nat := none
  aGen : Nat := 0
  /-- LIFE_USED in millionths × 2^32, as counted and as last written to eNVM (R455) -/
  life : Nat := 0
  lifeSaved : Nat := 0
  seconds : Nat := 0
  secondsSaved : Nat := 0
  hist : List Nat := List.replicate 24 0
  histSaved : List Nat := List.replicate 24 0
  tjMax : Option Int := none
  tjMaxSaved : Option Int := none
  /-- sum and count of the hottest readings since the last second (R455) -/
  secSum : Int := 0
  secN : Nat := 0
  /-- instants of the next second and of the next ledger write -/
  nextSecond : Nat := 1000000000
  nextLedger : Nat := 600000000000
  /-- corrected DDR errors of the last 60 steps, newest last, and the next step -/
  ddr : List Nat := []
  nextDdr : Nat := 60000000000
  /-- REPLACE_CAUSE bits that latch: SRAM, DDR (R457) -/
  sramCause : Bool := false
  ddrCause : Bool := false
  lifeCause : Bool := false
  /-- cause last reported -/
  reported : Nat := 0
  /-- eNVM writes by record, the worst block's count -/
  wear : Nat := 0
  sramRepair : List (Nat × Nat × Nat) := []
  sramLost : Nat := 0
  deriving DecidableEq, Repr

/-- A record that eNVM keeps in copies A and B: its bytes and its generation; none where a copy's check fails (R399, R414). -/
structure Copies where
  a : Option (Bytes × Nat)
  b : Option (Bytes × Nat)
  deriving DecidableEq, Repr

/-- Both copies as the factory wrote them. -/
def Copies.first (v : Bytes) : Copies := { a := some (v, 0), b := some (v, 0) }

/-- What eNVM keeps beside the records above (R399, R474): the towpath epoch, the highest epoch seen, the highest epoch
mirrored, and SHUTDOWNS. -/
structure NvState where
  epoch : Nat := 0
  /-- the copies of the epoch (R399), of the boot record (slot, on trial, TRIES: R438), of ROLLBACK_FLOOR (R443) and of the class A result
  (R453) -/
  epochs : Copies := Copies.first (List.replicate 4 0#8)
  boot : Copies := Copies.first (List.replicate 3 0#8)
  floors : Copies := Copies.first (List.replicate 4 0#8)
  trimA : Copies := Copies.first []
  highest : Nat := 0
  mirrored : Nat := 0
  shutdowns : Nat := 0
  deriving DecidableEq, Repr

/-! ## The machine -/

/-- Cloyr. -/
structure State where
  /-- commands that wait, first in first out -/
  pending : List Instr := []
  od : OdState := {}
  tl : Timeline := {}
  tm : TimeState := {}
  net : NetState := {}
  intake : IntakeState := {}
  lk : LockState := {}
  tow : TowState := {}
  pwr : PowerState := {}
  col : ColourState := {}
  weir : WeirState := {}
  zl : LinkState := {}
  lamp : LampState := {}
  strs : StringsState := {}
  ras : RasterState := {}
  aq : AqState := {}
  keys : KeyState := {}
  upd : UpdateState := {}
  trim : TrimState := {}
  nv : NvState := {}
  /-- draws of free values so far: the model's own counter, read by nothing the manual defines (log entry 9) -/
  fresh : Nat := 0
  deriving DecidableEq, Repr

/-- The device while PORST_N is held low at its first power-up: POWER_STATE RESET, device time 0, every register at its
default (R465, R471, R96; log entry 10). -/
def State.reset : State := {}

end Sys2Proof.Machine
end

