-- ==== Sys2Proof/Machine/Flags.lean ====
section
/-!
DEFINITION. Status codes (R88), counters that saturate or wrap (R47 and the Range columns), sticky flags that a write of 1
clears (R84, R108, R139), and the port class of a message (R61).
-/
namespace Sys2Proof.Machine

/-! ## Status codes (R88) -/

def stOk : Nat := 0
def stNoEntry : Nat := 0x0101
def stNoRight : Nat := 0x0102
def stType : Nat := 0x0103
def stRange : Nat := 0x0104
def stReadOnly : Nat := 0x0105
def stShadowOnly : Nat := 0x0106
def stBusy : Nat := 0x0201
def stLateBound : Nat := 0x0202
def stCredit : Nat := 0x0203
def stSize : Nat := 0x0301
def stFarError : Nat := 0x0302
def stNoRoute : Nat := 0x0303
def stKeyAbsent : Nat := 0x0401
def stKeyBad : Nat := 0x0402
def stKeyOrphaned : Nat := 0x0403
def stImageRefused : Nat := 0x0501
def stPieceBad : Nat := 0x0502
def stNotStaged : Nat := 0x0503
def stNotOwner : Nat := 0x0601

/-! ## Registers and counters -/

/-- The value in force of entry `i` of a row of access R, W or RW. -/
def State.reg (s : State) (r : OdRow) (i : Nat := 0) : Nat := s.od.regs.num r i

/-- Set it. -/
def State.setReg (s : State) (r : OdRow) (v : Nat) (i : Nat := 0) : State :=
  { s with od := { s.od with regs := s.od.regs.setNum r v i } }

/-- The bytes of a TABLE, BLOB or STR register. -/
def State.regTab (s : State) (r : OdRow) (i : Nat := 0) : Bytes := s.od.regs.tab r i

def State.setRegTab (s : State) (r : OdRow) (b : Bytes) (i : Nat := 0) : State :=
  { s with od := { s.od with regs := s.od.regs.setTab r b i } }

/-- The largest value of a counter's width. -/
def OdRow.top (r : OdRow) : Nat := 256 ^ r.len - 1

/-- A counter after `n` more: it wraps where its row says so, and otherwise saturates (Range column). -/
def OdRow.counted (r : OdRow) (v n : Nat) : Nat := if r.wrap then (v + n) % 256 ^ r.len else min (v + n) r.top

/-- Count `n` in entry `i` of a counter row. -/
def State.count (s : State) (r : OdRow) (n : Nat := 1) (i : Nat := 0) : State :=
  s.setReg r (r.counted (s.reg r i) n) i

/-- Write-1-to-clear (R84, R108, R139): bits written 1 clear, bits written 0 keep. -/
def w1c (old written : Nat) : Nat := old - (old &&& written)

/-- The settings of CURRENT_FRAME (R51), as numbers. -/
def State.cfg (s : State) (r : OdRow) (i : Nat := 0) : Nat := s.tl.cur.num r i

/-! ## Port classes (R61) -/

/-- Class bits of R52: 1 M, 2 O, 4 P; 0 for class T and for ports that receive nothing. -/
def State.portClass (s : State) (port : Nat) : Nat :=
  if port = 24 ∨ port = 26 then 1
  else if port = 25 then (if s.od.demoted then 2 else 1)
  else if port < 24 then
    match s.reg Od.role port with
    | 1 => 2
    | 3 => 4
    | _ => 0
  else 0

/-- Cloyr's device number (R17). -/
def State.device (s : State) : Nat := s.reg Od.deviceNumber

end Sys2Proof.Machine
end

