-- ==== Sys2Proof/Machine/Ops.lean ====
section
/-!
DEFINITION. The named operations the meanings share: time and ticks (R25–R27), domains (R467), the towpath gate (R388) and
what it releases when it closes (R126, R313, R341, R360), memory in canonical form, events and their queues (R82–R84),
messages handed to the ports (R67, R85), and `finish`, with which every meaning ends.
-/
namespace Sys2Proof.Machine

/-! ## Ticks (R25–R27) -/

/-- N and M of a rate code (R25); none for a code not listed. -/
def rateNM : Nat → Option (Nat × Nat)
  | 0x01 => some (24000, 1001) | 0x02 => some (24, 1) | 0x03 => some (25, 1) | 0x04 => some (30000, 1001)
  | 0x05 => some (30, 1) | 0x06 => some (48, 1) | 0x07 => some (50, 1) | 0x08 => some (60000, 1001)
  | 0x09 => some (60, 1) | 0x0A => some (90, 1) | 0x0B => some (100, 1) | 0x0C => some (120000, 1001)
  | 0x0D => some (120, 1) | 0x0E => some (144, 1) | 0x0F => some (180, 1) | 0x10 => some (200, 1)
  | 0x11 => some (240, 1) | _ => none

/-- N and M, those of 60 Hz for a code not listed (no frame has one, R25). -/
def rateOf (code : Nat) : Nat × Nat := (rateNM code).getD (60, 1)

/-- t_k = ⌊k × M × 10⁹ ÷ N⌋ ns (R26). -/
def tickTime (code k : Nat) : Nat := k * (rateOf code).2 * 1000000000 / (rateOf code).1

/-- The first tick at or after `t` (R26). -/
def tickFrom (code t : Nat) : Nat := ceilDiv (t * (rateOf code).1) ((rateOf code).2 * 1000000000)

/-- The tick period in ns, rounded down (R25). -/
def tickPeriod (code : Nat) : Nat := (rateOf code).2 * 1000000000 / (rateOf code).1

/-- The rate of the grid that holds now: an old one until its boundary (R41). -/
def State.gridRate (s : State) : Nat :=
  match s.tl.oldGrids.find? fun g => decide (s.tm.now < tickTime g.1 g.2.2.2) with
  | some g => g.1
  | none => s.tl.rate

/-- What counts ticks and frames goes on in a new grid, where tick `kOld` of the old one is `kNew` (R41, R383, R422). -/
def State.reindex (s : State) (rate kOld kNew : Nat) : State :=
  { s with
    keys := { s.keys with graces := s.keys.graces.map fun g =>
      if g.endTick < kOld then g else { g with endTick := kNew + (g.endTick - kOld), rate := rate } }
    aq := { s.aq with params := s.aq.params.map fun w => { w with deadline := kNew + (w.deadline - kOld) } } }

/-- Frame number of a tick index (R27). -/
def frameNo (k : Nat) : Nat := k % 2 ^ 32

/-! ## Commits on settings (R38, R212) -/

/-- The values of a commit that stand where later ones are bound to the same frame: a later value of an entry replaces it whole. -/
def Commit.stands (c : Commit) (later : List Commit) : List (Nat × OdVal) :=
  c.vals.filter fun v => !later.any fun d => d.bound == c.bound && d.vals.any fun w => w.1 == v.1

/-- Settings with commits applied on top, in their order. -/
def applyCommits : Store → List Commit → Store
  | st, [] => st
  | st, c :: t => applyCommits (st.setVals (c.stands t)) t

/-- Commits in the order they apply: by bound frame, those of one frame as they were accepted. -/
def inOrder (ws : List Commit) : List Commit := sortBy (fun (a b : Commit) => decide (a.bound ≤ b.bound)) ws

/-- The first of the frames from `k` on that is presented at tick `t` or later, where frame j is presented at tick j + d j (R22, R36). -/
def firstShown (d : Nat → Nat) (t : Nat) : Nat → Nat → Nat
  | 0, k => k
  | fuel + 1, k => if t ≤ k + d k then k else firstShown d t fuel (k + 1)

/-- The frame a time of presentation asks for: D is at most 8, so none before tick − 8. -/
def frameAsked (d : Nat → Nat) (t : Nat) : Nat := firstShown d t 8 (t - 8)

/-! ## Device time -/

def State.now (s : State) : Nat := s.tm.now

/-- POWER_STATE is not RESET: AO runs (R465). -/
def State.alive (s : State) : Bool := s.pwr.state != 0

/-- Device time `dt` ns on (log entry 1); it stands at 0 in RESET (R96, R471). The fraction stays, since operands count whole ns. -/
def State.advance (s : State) (dt : Nat) : State :=
  if s.alive then { s with tm := { s.tm with now := s.tm.now + dt } } else s

/-- Device time moved to an instant the manual fixes, never back (log entry 2). -/
def State.goTo (s : State) (t : Nat) : State :=
  { s with tm := { s.tm with now := max s.tm.now t, frac := if s.tm.now < t then 0 else s.tm.frac } }

/-- Device time in ps, with its fraction of a nanosecond (R96). -/
def State.nowPs (s : State) : Nat := s.tm.now * 1000 + s.tm.frac * 1000 / 65536

/-- A domain of R467 is on: AO whenever AO runs. -/
def State.domOn (s : State) (d : Nat) : Bool := s.alive && (d == 0 || s.pwr.doms.getD d 0 == 1)

/-- The domain of a lane: PD_NETA, PD_NETB, or AO for the MGMT ports (R7, R144). -/
def portDomain (p : Nat) : Nat := if p < 12 then 2 else if p < 24 then 3 else 0

/-- The domain of a cell's quadrant (R7, R233). -/
def cellDomain (c : Nat) : Nat := 5 + c / 34

/-! ## The gate (R388) -/

/-- Sampled straps (R476). -/
def State.strap (s : State) (i : Nat) : Bool := bit (s.reg Od.straps) i

/-- Pair operation: TOW_MODE high. -/
def State.pair (s : State) : Bool := s.strap 0

/-- The gate is open only while ACTIVE, HOLD asserted and TOW_PEER_N deasserted; with TOW_MODE low the pin is ignored (R388). -/
def State.gate (s : State) : Bool := s.tow.state == 3 && s.tow.hold && (!s.pair || !s.tow.peer)

/-- Lamp-port pins a closed gate releases: all but GPIO pins marked UNGATED (R313, R336). -/
def LampPort.released (p : LampPort) (ungated : Nat → Bool) : LampPort :=
  { p with pins := p.pins.zipIdx.map fun (v, i) => if ungated i then v else 2 }

/-- Cut a gated frame on the wire (R126). -/
def Port.cut (p : Port) : Port :=
  match p.wire with
  | some w => if w.gated then { p with wire := none } else p
  | none => p

/-- A pin of a GPIO port that is an output marked UNGATED is driven whenever PD_LAMP is on (R313, R336). GPIO record: DIR, OUT and
UNGATED, bits [2:0] for A, B, C. -/
def State.ungated (s : State) (port pin : Nat) : Bool :=
  s.reg Od.portEn port == 1 && s.reg Od.portMode port == 3 && bit (u8 (s.regTab Od.gpio port) 2) (2 - pin) && s.domOn 10

/-- Everything the gate governs, released (R126, R313, R341, R360, R388). -/
def State.releaseOutputs (s : State) : State :=
  { s with
    net := { s.net with ports := s.net.ports.map Port.cut }
    lamp := { s.lamp with ports := s.lamp.ports.zipIdx.map fun (p, i) => p.released (s.ungated i) }
    strs := { s.strs with ctl := s.strs.ctl.map fun c => { c with pinA := 2, pinB := 2 } }
    ras := { s.ras with pins := [0, 0] } }

/-! ## Memory: address and byte, addresses rising strictly, no byte zero; an unlisted address reads 0 (log entry 8) -/

/-- The byte at an address. -/
def memGet (a : Nat) : List Host.Cell → Byte
  | [] => 0#8
  | (b, v) :: t => if a = b then v else memGet a t

/-- Store one byte, keeping the canonical form: storing 0 removes the entry. -/
def memSet (a : Nat) (v : Byte) : List Host.Cell → List Host.Cell
  | [] => if v = 0#8 then [] else [(a, v)]
  | (b, w) :: t =>
    if a < b then (if v = 0#8 then (b, w) :: t else (a, v) :: (b, w) :: t)
    else if a = b then (if v = 0#8 then t else (a, v) :: t)
    else (b, w) :: memSet a v t

/-- Bytes from an address. -/
def memRead (a n : Nat) (m : List Host.Cell) : Bytes := (List.range n).map fun i => memGet (a + i) m

/-- Store bytes from an address on. -/
def memWrite (a : Nat) : Bytes → List Host.Cell → List Host.Cell
  | [], m => m
  | x :: t, m => memWrite (a + 1) t (memSet a x m)

/-- The canonical form: every address above `lo`, rising strictly, no byte zero. -/
def memOk : Option Nat → List Host.Cell → Bool
  | _, [] => true
  | lo, (a, v) :: t => (match lo with | none => true | some l => decide (l < a)) && v != 0#8 && memOk (some a) t

/-- The memory is in canonical form. -/
def Memory.wf (m : List Host.Cell) : Bool := memOk none m

/-! ## The basin's areas: the canvases from 0 (R150), then these, all within the 8 GiB that the least basin of R3 has (log entry 51) -/

def workArea : Nat := 5 * 2 ^ 30
def listArea : Nat := workArea + 2 ^ 29
def txArea : Nat := 6 * 2 ^ 30
def rxArea : Nat := 7 * 2 ^ 30

/-- Where the next `len` bytes go in an area of 1 GiB that is used in turn. -/
def areaPlace (next len : Nat) : Nat := if 2 ^ 30 < next + len then 0 else next

/-! ## Events (R82–R84) -/

/-- Raise an event: it is logged and queued when the command ends (`finish`). ARG is padded to 8 bytes (R82). -/
def State.raise (s : State) (code : Nat) (arg : Bytes := []) : State :=
  { s with od := { s.od with raised := s.od.raised ++
      [{ code := code, frame := s.reg Od.currentFrame, time := s.now, arg := padTo 8 arg }] } }

/-- Raise an event at most once in a tick period, by code and unit. -/
def State.raiseOnce (s : State) (code unit : Nat) (arg : Bytes := []) : State :=
  let key := code * 65536 + unit
  if kvGet key s.od.oncePerTick = some s.tl.nextTick then s
  else
    let s := s.raise code arg
    { s with od := { s.od with oncePerTick := kvSet key s.tl.nextTick s.od.oncePerTick } }

/-- May a subscriber of this class have this event (R81). -/
def eventAllowed (cls code : Nat) : Bool := cls == 1 || !(decide (0x8000 ≤ code) && decide (code ≤ 0xAFFF))

/-- The 28 bytes of an event record (R82). -/
def Event.bytes (e : Event) : Bytes :=
  natBE 2 e.code ++ natBE 2 0 ++ natBE 4 e.frame ++ natBE 10 (timeOfNs e.time) ++ natBE 2 0 ++ padTo 8 e.arg

/-- Log an event and set its IRQ_PENDING bit (R83, R84). -/
def OdState.logEvent (o : OdState) (e : Event) : OdState :=
  { o with
    log := pushLast 256 o.log e
    irqAt := kvSet (e.code / 4096 % 16) e.time o.irqAt
    regs := o.regs.setNum Od.irqPending (setBit (o.regs.num Od.irqPending) (e.code / 4096 % 16)) }

/-- Queue an event for one subscriber: a queue of 64; SEQ counts the dropped ones too, so the gap shows (R82). -/
def Sub.take (b : Sub) (e : Event) : Sub :=
  if b.queue.length < 64 then { b with queue := b.queue ++ [(b.seq, e)], seq := (b.seq + 1) % 65536 }
  else { b with seq := (b.seq + 1) % 65536, dropped := b.dropped + 1 }

/-- Log one event and queue it for every subscription that matches (R81–R84). -/
def OdState.dispatch (o : OdState) (e : Event) : OdState :=
  let o := o.logEvent e
  o.subs.foldl (fun (o : OdState) p =>
    let b := p.2
    if decide (b.lo ≤ e.code) && decide (e.code ≤ b.hi) && eventAllowed b.cls e.code then
      let b' := b.take e
      let o := { o with subs := kvSet p.1 b' o.subs }
      if b'.dropped = b.dropped then o
      else
        let o := { o with regs := o.regs.setNum Od.notifyLost (Od.notifyLost.counted (o.regs.num Od.notifyLost) 1) }
        o.logEvent { e with code := 0x1002, arg := padTo 8 (natBE 2 p.1 ++ natBE 2 b'.dropped) }
    else o) o

/-- Log and queue the events the command raised, oldest first. -/
def State.flush (s : State) : State :=
  let o := s.od.raised.foldl OdState.dispatch { s.od with raised := [] }
  { s with od := { o with raised := [], log := o.log.drop (o.log.length - 256) } }

/-! ## Messages (R65, R67, R85) -/

/-- The bytes of a message Cloyr sends: the header of R65, then the payload. -/
def Sent.bytes (m : Sent) : Bytes :=
  natBE 2 0x4F44 ++ natBE 1 1 ++ natBE 1 (128 * b2n m.isReply + m.cmd % 128) ++ natBE 2 m.seq ++ natBE 2 (m.device % 4096) ++ natBE 2 m.status ++
    natBE 2 m.payload.length ++ natBE 4 0 ++ m.payload

/-- Hand a message to its port: the SPI read path for the SPI target, which holds 16 replies and 64 NOTIFY (R85). One for a lane or a MGMT
port has its descriptor written when the port's MAC next looks for a frame (R127; log entry 133). -/
def State.send (s : State) (m : Sent) : State :=
  if m.dst.port = 26 then
    if (s.od.spiReplies.filter (fun r => (r.cmd == 9) == (m.cmd == 9))).length < (if m.cmd = 9 then 64 else 16) then
      { s with od := { s.od with spiReplies := s.od.spiReplies ++ [m] } }
    else s
  else { s with od := { s.od with sent := m :: s.od.sent, outbox := s.od.outbox ++ [m] } }

/-- Keep a reply to a source's message: the last 16 by source, 32 sources, the one used least recently evicted (R68). -/
def OdState.keep (o : OdState) (src : Src) (k : Kept) : OdState :=
  let key (x : Src) : Nat × Nat × Nat := if x.port = 26 then (26, 0, 0) else (0, x.addr, x.udp)
  let old := (o.dups.filter (fun d => key d.src == key src)).flatMap DupSrc.kept
  let rest := o.dups.filter (fun d => key d.src != key src)
  { o with dups := (rest ++ [({ src := src, kept := pushLast 16 old k } : DupSrc)]).drop (rest.length + 1 - 32) }

/-- The reply kept for a source's SEQ, if any (R68): none for a message that keeps none. -/
def OdState.kept? (o : OdState) (src : Src) (seq : Nat) : Option Kept :=
  let key (x : Src) : Nat × Nat × Nat := if x.port = 26 then (26, 0, 0) else (0, x.addr, x.udp)
  ((o.dups.filter (fun d => key d.src == key src)).flatMap DupSrc.kept).find? (fun k => k.seq == seq && k.payload.isSome)

/-- Reply to a request and keep the reply (R67, R68); READ, which is not kept, still is one of the source's last messages. A
new OD_UDP_PORT takes effect after the reply to its write (R86). -/
def State.reply (s : State) (src : Src) (cmd seq status : Nat) (payload : Bytes) (keepIt : Bool := true) : State :=
  let s := s.send { dst := src, cmd := cmd, seq := seq, device := s.device, status := status, payload := payload, isReply := true
                    sport := s.od.replyFrom.getD (s.reg Od.odUdpPort) }
  let s := { s with od := { s.od with replyFrom := none } }
  if keepIt || cmd == 1 then
    { s with od := s.od.keep src { seq := seq, cmd := cmd, status := status, payload := if keepIt then some payload else none } }
  else s

/-- One kind of owed reply is done: replies whose kinds are all done leave (R53, R413, R453). -/
def State.settleOwed (s : State) (kind : Nat) : State :=
  let owed := s.od.owed.map fun w => { w with waits := w.waits.filter (· != kind) }
  let due := owed.filter (fun w => w.waits.isEmpty)
  let s := { s with od := { s.od with owed := owed.filter (fun w => !w.waits.isEmpty) } }
  due.foldl (fun s w => s.reply w.req.src w.cmd w.req.seq w.status w.payload) s

/-- One more draw of a free value (log entry 9). -/
def State.draw (s : State) : State := { s with fresh := s.fresh + 1 }

/-! ## eNVM (R399, R414) -/

/-- Copy A is the older one, the next to be written: the copy that is not valid, or the one of the lower generation. -/
def Copies.olderA (n : Copies) : Bool :=
  match n.a, n.b with
  | none, _ => true
  | some _, none => false
  | some x, some y => decide (x.2 ≤ y.2)

/-- The valid copy with the higher generation; no bytes where neither is valid. -/
def Copies.read (n : Copies) : Bytes × Nat :=
  match n.a, n.b with
  | some x, some y => if x.2 ≤ y.2 then y else x
  | some x, none => x
  | none, some y => y
  | none, none => ([], 0)

/-- A value is written to the older copy, one generation on. -/
def Copies.write (n : Copies) (v : Bytes) : Copies :=
  let c := some (v, n.read.2 + 1)
  if n.olderA then { n with a := c } else { n with b := c }

/-- Power fails: a copy being written is no longer valid. -/
def Copies.tear (n : Copies) (writing : Bool) : Copies :=
  if !writing then n else if n.olderA then { n with a := none } else { n with b := none }

/-- One more write of the eNVM block that is written most (R456; log entry 144). -/
def State.envmWrite (s : State) : State := { s with trim := { s.trim with wear := s.trim.wear + 1 } }

/-- The entries R402 mirrors. -/
def mirrored (key : Nat) : Bool :=
  let i := key / 256
  let inR (lo hi : Nat) : Bool := decide (lo ≤ i) && decide (i ≤ hi)
  (match Od.find key with | some (r, _) => r.persist | none => false) &&
    (inR 0x1400 0x14FF || inR 0x1810 0x18FF || inR 0x3000 0x47FF || inR 0x5000 0x53FF || inR 0x6000 0x67FF ||
      inR 0x7000 0x73FF || inR 0xB000 0xB3FF || inR 0xC000 0xC3FF)
    || key == Od.ageLedger.key || key == Od.calData.key

/-- An entry of the mirror that changed without a commit, on the ACTIVE unit of a pair: it goes with the next commit, or is owed while the
peer link is lost (R403, R405). -/
def State.noteMirror (s : State) (key : Nat) : State :=
  let shadowed := match Od.find key with | some (r, _) => r.acc == .rws | none => true
  if s.pair && s.tow.state == 3 && mirrored key && !shadowed then
    if s.tow.linkLost then { s with tow := { s.tow with owed := (s.tow.owed ++ [key]).eraseDups } }
    else { s with tow := { s.tow with changed := (s.tow.changed ++ [key]).eraseDups } }
  else s

/-- A value in force that changed, to be journalled within 2 s (R53) and mirrored (R403). -/
def State.noteJournal (s : State) (key : Nat) (v : OdVal) : State :=
  ({ s with od := { s.od with journalQ := s.od.journalQ.filter (fun q => q.1 != key) ++ [(key, v, s.now)] } } : State).noteMirror key

/-- A change waits to be journalled: a persisted value, or a key blob (R53, R424). A write that is accepted and waits for its tick has changed
nothing yet, so it does not count (DEDUCED, log entry 139). -/
def State.persistWaits (s : State) : Bool := !s.od.journalQ.isEmpty || s.keys.blobs.any fun b => !b.saved

/-- Every key blob is in the journal. -/
def KeyState.saveBlobs (k : KeyState) : KeyState := { k with blobs := k.blobs.map fun (b : KeyBlob) => { b with saved := true } }

/-! ## Beacons (R401) -/

/-- The PEER_BEACON record (R401). -/
def State.beacon (s : State) : Bytes :=
  natBE 2 s.device ++ natBE 1 s.tow.state ++ natBE 1 (b2n s.gate + 2 * s.reg Od.timelineState) ++ natBE 4 s.nv.epoch ++
    natBE 8 s.now ++ natBE 4 (s.reg Od.boundFrame) ++ natBE 2 ((s.upd.slots.getD s.upd.running {}).schema) ++ natBE 2 0

/-- The port the towpath's messages leave by: in mooring a lane is replaced by MGMT0 (R401). -/
def State.mirrorPort (s : State) : Nat :=
  let p := s.reg Od.mirrorPort
  if s.pwr.state = 3 ∧ p < 24 then 24 else p

/-- The partner as a destination (R401, R409). -/
def State.partner (s : State) : Src :=
  let r := padTo 18 (s.regTab Od.mirrorPeerAddr)
  { port := s.mirrorPort, addr := beNat (r.take 16), udp := u16 r 16 }

/-- Write one entry on the partner: a WRITE or WRITE_POSTED of one item (R401). -/
def State.toPartner (s : State) (cmd key ty : Nat) (v : Bytes) : State :=
  let item := natBE 2 (key / 256) ++ natBE 1 key ++ natBE 1 ty ++ natBE 2 0 ++ natBE 2 v.length ++
    padTo ((v.length + 3) / 4 * 4) v
  let s' := s.send { dst := s.partner, cmd := cmd, seq := s.tow.txSeq, device := s.reg Od.pairPartner, status := 0, payload := item
                     sport := s.reg Od.towUdpPort }
  { s' with tow := { s'.tow with txSeq := (s.tow.txSeq + 1) % 65536 } }

/-- Send a beacon, in pair mode (R401, R408). -/
def State.sendBeacon (s : State) : State :=
  if s.pair && s.alive then s.toPartner 3 Od.peerBeacon.key 13 s.beacon else s

/-- A beacon at once on every change of TOW_STATE or of the gate (R401). -/
def State.beaconOnChange (s0 s : State) : State :=
  if s.tow.state = s0.tow.state ∧ s.gate = s0.gate then s else s.sendBeacon

/-! ## Ports the manual derives -/

/-- IRQ_N is low while IRQ_PENDING AND IRQ_MASK is nonzero (R84). -/
def State.irqLow (s : State) : Bool := (s.reg Od.irqPending &&& s.reg Od.irqMask) != 0 && s.alive

/-- What the reconciliation sublayer of a lane at 10GBASE-R or 25GBASE-R sends (R120): 0 frames and idles, 1 remote fault, 2 idles alone.
A lane that runs and whose link is down has a local fault. -/
def State.rsSends (s : State) (p : Nat) : Nat :=
  let x := s.net.ports.getD p {}
  if 24 ≤ p ∨ s.reg Od.rate p = 0 then 0 else if x.up = false then 1 else if x.remoteFault then 2 else 0

/-- TOW_HOLD_N is driven low while HOLD is asserted (R386). -/
def State.holdLow (s : State) : Bool := s.tow.hold

end Sys2Proof.Machine
end

