-- ==== Sys2Proof/Machine/PoundOps.lean ====
section
/-!
DEFINITION. The operations on pounds and sluices (spec/11): credits, reads and writes, watermarks, the sluice pins, configuration.
-/
namespace Sys2Proof.Machine

/-- A pound that no block has taken: no grants, so every write is refused (R265, R279). -/
def untaken : Pound := { owner := 0, cap := 0, hiMark := 0, loMark := 0, grants := List.replicate 8 0, credits := List.replicate 8 0 }

def State.pound (s : State) (p : Nat) : Pound := kvGetD p untaken s.net.pounds

def State.setPound (s : State) (p : Nat) (x : Pound) : State := { s with net := { s.net with pounds := kvSet p x s.net.pounds } }

/-- Producer slots an owner uses: 0 its block, 1 direct yields beside the flights, 7 firmware and tests (log entry 47). -/
def ownerSlots (owner : Nat) : List Nat := if owner = 4 then [0, 1, 7] else [0, 7]

/-- Default grants: the capacity divided equally, the remainder to the lowest slot (R279). -/
def defaultGrants (owner cap : Nat) : List Nat :=
  let u := ownerSlots owner
  let share := cap / u.length
  (List.range 8).map fun i =>
    if u.head? = some i then share + (cap - share * u.length) else if u.contains i then share else 0

/-! ## Watermarks and sluice pins (R273–R278) -/

def sluiceRec (s : State) (pin : Nat) : Bytes := slice (s.regTab Od.sluiceMap) (6 * pin) 6

/-- The pin level that shows a watermark state in a mode (R275). -/
def sluiceLevel (mode : Nat) (high : Bool) : Nat :=
  if mode = 1 then b2n high else if mode = 2 then b2n (!high) else 2

/-- One transition of pound `p` reaches every pin that follows it (R276, R277). -/
def State.sluiceEdge (s : State) (p : Nat) : State :=
  (List.range 8).foldl (fun s pin =>
    let r := sluiceRec s pin
    if u16 r 0 = p ∧ u8 r 2 ≠ 0 then
      let x := s.net.sluices.getD pin {}
      let n := x.pending + 1
      let s := { s with net := { s.net with sluices := setAt s.net.sluices pin { x with pending := if n = 256 then 254 else n } } }
      if n = 256 then (s.count Od.sluiceMerged).raiseOnce 0x4403 pin (natBE 1 pin ++ natBE 2 p) else s
    else s) s

/-- Re-evaluate the watermark after one read or write (R270, R273, R274). -/
def State.watermark (s : State) (p : Nat) : State :=
  let x := s.pound p
  let level := x.entries.length
  let x := { x with maxLevel := max x.maxLevel level }
  if x.high = false ∧ x.hiMark ≤ level ∧ x.cap ≠ 0 then
    let seen := x.highSeen
    let s := s.setPound p { x with high := true, crossings := min (x.crossings + 1) 65535, highSeen := true }
    let s := if seen then s else s.raise 0x4401 (natBE 2 p ++ natBE 4 level)
    s.sluiceEdge p
  else if x.high ∧ level ≤ x.loMark then
    (s.setPound p { x with high := false, crossings := min (x.crossings + 1) 65535, lowSeen := true }).sluiceEdge p
  else s.setPound p x

/-- A written SLUICE_MAP takes effect: every pin's pending count is cleared, and the pin shows the present state of its pound at once; while
PD_CORE is off the pins stay high-impedance (R278). -/
def State.applySluiceMap (s : State) : State :=
  if s.domOn 1 = false then s
  else (List.range 8).foldl (fun (s : State) pin =>
    let r := sluiceRec s pin
    let x := s.net.sluices.getD pin {}
    let lv := sluiceLevel (u8 r 2) (s.pound (u16 r 0)).high
    { s with net := { s.net with sluices := setAt s.net.sluices pin { level := lv, since := if lv = x.level then x.since else s.now, pending := 0 } } }) s

/-! ## Writes and reads (R265–R272) -/

/-- Beyond a head of 16 entries and a tail of 16 on chip, the tail is spilled in a burst of up to 16 (R271). -/
def spill (es : List PEntry) : List PEntry :=
  let chip := (es.zipIdx.filter fun e => !e.1.spilled).map (·.2)
  if chip.length ≤ 32 then es
  else es.zipIdx.map fun (e, i) => if ((chip.drop 16).take 16).contains i then { e with spilled := true } else e

/-- The first `n` spilled entries are back on chip (R271). -/
def unspill : Nat → List PEntry → List PEntry
  | _, [] => []
  | 0, es => es
  | n + 1, e :: t => if e.spilled then { e with spilled := false } :: unspill n t else e :: unspill (n + 1) t

/-- The head is empty while entries wait in the spill: the oldest entry lies there (R271). -/
def Pound.headEmpty (x : Pound) : Bool := match x.entries with | e :: _ => e.spilled | [] => false

/-- A write by a producer slot (R265): accepted while it holds credit. -/
def State.writePound (s : State) (p slot prio : Nat) (data : Bytes) : State × Bool :=
  let x := s.pound p
  if 0 < x.credits.getD slot 0 then
    let e : PEntry := { producer := slot, prio := prio, data := padTo 32 data }
    ((s.setPound p { x with credits := modAt x.credits slot (· - 1), entries := spill (x.entries ++ [e]) }).watermark p, true)
  else (s.setPound p { x with refusals := min (x.refusals + 1) 0xFFFFFFFF }, false)

/-- The place of the oldest entry of the highest sub-lane that holds any (R268). -/
def headOf (es : List PEntry) : Option Nat :=
  match es with
  | [] => none
  | _ =>
    let best := es.foldl (fun m e => min m e.prio) 7
    es.findIdx? fun e => e.prio == best

/-- Take the head out, returning its credit (R267). -/
def Pound.take (x : Pound) : Pound × Option PEntry :=
  match headOf x.entries with
  | none => (x, none)
  | some i =>
    match x.entries[i]? with
    | none => (x, none)
    | some e => ({ x with entries := x.entries.eraseIdx i, credits := modAt x.credits e.producer (· + 1) }, some e)

/-- A waiting smaller capacity takes over once the level has fallen to it (R281). -/
def Pound.resize (x : Pound) : Pound :=
  match x.resizeTo with
  | some c => if x.entries.length ≤ c then { x with cap := c, resizeTo := none } else x
  | none => x

/-- A read (R267–R269): the entry, or none from an empty pound, which sets UNDERRUN. -/
def State.readPound (s : State) (p : Nat) : State × Option PEntry :=
  match (s.pound p).take with
  | (x, some e) => ((s.setPound p { x with last := some e }.resize).watermark p, some e)
  | (x, none) => (s.setPound p { x with underrun := true }, none)

/-- The tag of an entry (R264). -/
def PEntry.tag (e : PEntry) : Nat := e.producer * 8 + e.prio

/-- The data and tag that a read of an empty pound returns (R269): the last entry read, or zeros. -/
def Pound.lastRead (x : Pound) : Nat × Bytes :=
  match x.last with | some e => (e.tag, e.data) | none => (0, List.replicate 32 0#8)

/-- The model's own record of what a read returned. -/
def State.noteRead (s : State) (p : Nat) (r : Nat × Bytes) : State := { s with net := { s.net with reads := (p, r) :: s.net.reads } }

/-- A read, and what it returns (R267–R269). -/
def State.readOut (s : State) (p : Nat) : State :=
  match s.readPound p with
  | (t, some e) => t.noteRead p (e.tag, e.data)
  | (t, none) => t.noteRead p (s.pound p).lastRead

/-- The place of the spilled entry that a burst brings first: the head of R268 among the spilled ones. -/
def spilledHead (es : List PEntry) : Option Nat :=
  let best := (es.filter PEntry.spilled).foldl (fun m e => min m e.prio) 7
  es.findIdx? fun e => e.spilled && e.prio == best

/-- Discard `n` entries that read back from the spill with uncorrectable errors, each credit returning (R272). -/
def State.discardSpilled (s : State) (p : Nat) : Nat → State
  | 0 => s
  | n + 1 =>
    let x := s.pound p
    match spilledHead x.entries with
    | none => s
    | some i =>
      let e := x.entries.getD i { producer := 0, prio := 0, data := [] }
      let y : Pound := { x with entries := x.entries.eraseIdx i, credits := modAt x.credits e.producer (· + 1), spillErrors := min (x.spillErrors + 1) 65535 }
      (((s.setPound p y.resize).watermark p).raise 0x4404 (natBE 2 p)).discardSpilled p n

/-- An owner empties a pound (R282): credits return, at most one transition. -/
def State.emptyPound (s : State) (p : Nat) : State :=
  let x := s.pound p
  let credits := x.entries.foldl (fun c e => modAt c e.producer (· + 1)) x.credits
  (s.setPound p { x with entries := [], credits := credits }.resize).watermark p

/-! ## Configuration (R279–R281) -/

/-- The host's record for a pound (R279). -/
def poundRec (cfg : Store) (p : Nat) : Option Bytes := (cfg.recs Od.poundConfig).find? fun r => u16 r 0 == p

def recGrants (r : Bytes) : List Nat := (List.range 8).map fun i => u32 r (16 + 4 * i)

/-- A record grants only slots the owner uses (R279, R280). -/
def grantsFit (owner : Nat) (r : Bytes) : Bool :=
  (recGrants r).zipIdx.all fun (g, i) => g == 0 || (ownerSlots owner).contains i

/-- The record of a pound that a start set aside does not count (R279). -/
def State.poundRecOf (s : State) (cfg : Store) (p : Nat) : Option Bytes := if s.net.setAside.contains p then none else poundRec cfg p

/-- The record that the defaults of R279 spell for an owner; one that no block has is of zeros. -/
def defaultRec (p owner : Nat) : Bytes :=
  if owner = 0 then natBE 2 p ++ List.replicate 46 0#8
  else natBE 2 p ++ natBE 2 0 ++ natBE 4 1024 ++ natBE 4 768 ++ natBE 4 256 ++ (defaultGrants owner 1024).flatMap (natBE 4)

/-- A pound's settings as a record has them, its credits equal to its grants (R265). -/
def Pound.fromRec (x : Pound) (r : Bytes) : Pound :=
  { x with cap := u32 r 4, hiMark := u32 r 8, loMark := u32 r 12, grants := recGrants r, credits := (recGrants r).map (fun (g : Nat) => (g : Int)) }

/-- A block takes a pound (R279): it has its record or the defaults. A record that grants a slot the block does not use is set aside,
with event 0x4405. A pound that a committed record named already keeps what it holds. -/
def State.takePound (s : State) (cfg : Store) (p owner : Nat) : State :=
  let x := s.pound p
  if x.owner ≠ 0 then s
  else match s.poundRecOf cfg p with
    | some r =>
      if grantsFit owner r then s.setPound p (if x.cap = 0 then { x.fromRec r with owner := owner } else { x with owner := owner })
      else
        let t := s.setPound p { x.fromRec (defaultRec p owner) with owner := owner }
        ({ t with net := { t.net with setAside := p :: t.net.setAside } } : State).raise 0x4405 (natBE 2 p ++ natBE 1 owner)
    | none => s.setPound p { x.fromRec (defaultRec p owner) with owner := owner }

/-- A pound that no block has taken and a committed record names has that record's capacity, marks and grants (R265, R279). -/
def State.takeRec (s : State) (r : Bytes) : State :=
  let p := u16 r 0
  if (s.pound p).cap = 0 ∧ !s.net.setAside.contains p then s.setPound p ((s.pound p).fromRec r) else s

/-- One pound's settings take effect at step 3 (R281). -/
def State.applyPoundRec (s : State) (p : Nat) (r : Bytes) : State :=
  let x := s.pound p
  let g := recGrants r
  let cap := u32 r 4
  let credits := x.credits.zipIdx.map fun (c, i) => c + ((g.getD i 0 : Nat) : Int) - ((x.grants.getD i 0 : Nat) : Int)
  let x := { x with credits := credits, grants := g, hiMark := u32 r 8, loMark := u32 r 12 }
  let x := if x.entries.length ≤ cap then { x with cap := cap, resizeTo := none } else { x with resizeTo := some cap }
  (s.setPound p x).watermark p

/-- The pound settings of a frame take effect (R281), for every pound whose record changed. -/
def State.applyPoundConfig (s : State) (old new : Store) : State :=
  if old.tab Od.poundConfig = new.tab Od.poundConfig then s
  else
    let ps := ((old.recs Od.poundConfig ++ new.recs Od.poundConfig).map fun r => u16 r 0).eraseDups
    (ps.filter fun p => poundRec old p != poundRec new p).foldl (fun (s : State) p =>
      let s := { s with net := { s.net with setAside := s.net.setAside.filter (· != p) } }
      s.applyPoundRec p ((poundRec new p).getD (defaultRec p (s.pound p).owner))) s

/-- R280 for one host record: field ranges and grants; `owner` is the block that has the pound, 0 for none. -/
def poundRecOk (owner : Nat) (r : Bytes) : Bool :=
  let cap := u32 r 4
  decide (u16 r 0 < 4096) && decide (32 ≤ cap) && decide (cap ≤ 1048576) && cap % 16 == 0 && decide (1 ≤ u32 r 8) &&
    decide (u32 r 8 ≤ cap) && decide (u32 r 12 < u32 r 8) && decide ((recGrants r).foldl (· + ·) 0 ≤ cap) &&
    (owner == 0 || grantsFit owner r)

/-- The record in force of a pound (R279): the host's, unless a start set it aside, or else the defaults. -/
def State.poundConfigRec (s : State) (p : Nat) : Bytes := (s.poundRecOf s.tl.cur p).getD (defaultRec p (s.pound p).owner)

/-- R280 over all pounds of a commit, where `takes` are the pounds its outputs take: each record, but for those a start set aside, and
the spill area with each pound at the larger of its old and new capacity (R281). -/
def State.poundsOk (s : State) (cfg : Store) (takes : List Nat) : Bool :=
  let aside (p : Nat) : Bool := s.net.setAside.contains p && poundRec cfg p == poundRec s.tl.newest p
  let rs := (cfg.recs Od.poundConfig).filter fun r => !aside (u16 r 0)
  let ownerOf (p : Nat) : Nat := let o := (s.pound p).owner; if o = 0 ∧ takes.contains p then 4 else o
  let capOf (p : Nat) : Nat :=
    let new := match rs.find? fun r => u16 r 0 == p with | some r => u32 r 4 | none => if ownerOf p = 0 then 0 else 1024
    max new (s.pound p).cap
  let ps := (s.net.pounds.map (·.1) ++ takes ++ rs.map fun r => u16 r 0).eraseDups
  rs.all (fun r => poundRecOk (ownerOf (u16 r 0)) r) &&
    decide ((ps.foldl (fun a p => a + (capOf p - 32) * 32) 0) ≤ cfg.num Od.poundArea * 1048576)

/-! ## Readings (R283) -/

def State.poundStatus (s : State) : Bytes :=
  (List.range 4096).flatMap fun p =>
    let x := s.pound p
    natBE 4 x.entries.length ++ natBE 1 x.owner ++ natBE 1 (b2n x.high) ++ natBE 1 (b2n x.resizeTo.isSome) ++ natBE 1 0

def State.poundEvents (s : State) : Bytes :=
  (List.range 4096).flatMap fun p =>
    let x := s.pound p
    natBE 1 (b2n x.highSeen + 2 * b2n x.lowSeen + 4 * b2n x.underrun) ++ natBE 1 0 ++ natBE 2 x.crossings ++ natBE 4 x.maxLevel ++
      natBE 4 x.refusals ++ natBE 2 x.spillErrors ++ natBE 2 0

/-- Clear what a read of POUND_EVENTS clears; MAX_LEVEL goes to the present level (R274, R283). -/
def State.clearPoundEvents (s : State) : State :=
  { s with net := { s.net with pounds := s.net.pounds.map fun (p, x) =>
      (p, { x with highSeen := false, lowSeen := false, underrun := false, crossings := 0, maxLevel := x.entries.length
                   refusals := 0, spillErrors := 0 }) } }

def State.poundCredits (s : State) : Bytes :=
  (List.range 4096).flatMap fun p => (s.pound p).credits.flatMap fun c => natBE 4 (ofS 32 c)

def State.sluiceState (s : State) : Bytes :=
  s.net.sluices.flatMap fun x => natBE 1 x.level ++ natBE 1 x.pending

end Sys2Proof.Machine
end

