-- ==== Sys2Proof/Machine/Finish.lean ====
section
/-!
DEFINITION. How a transmit descriptor ends (R126, R134, R294), what a closing gate cuts and releases (R126, R388), and
`finish`, with which every meaning ends.
-/
namespace Sys2Proof.Machine

/-! ## Fields of a transmit descriptor (R128) -/

def dLaunch (d : Bytes) : Nat := u64 d 0
def dAddr (d : Bytes) : Nat := u48 d 8
def dTag (d : Bytes) : Nat := u16 d 14
def dPayLen (d : Bytes) : Nat := u32 d 16
def dMss (d : Bytes) : Nat := u16 d 20
def dSlot (d : Bytes) : Nat := u16 d 22
def dHdrLen (d : Bytes) : Nat := u8 d 24
def dL3 (d : Bytes) : Nat := u8 d 25
def dZh (d : Bytes) : Nat := u8 d 26
def dTsReq (d : Bytes) : Bool := bit (u8 d 27) 7
def dSeg (d : Bytes) : Bool := bit (u8 d 27) 6
def dGated (d : Bytes) : Bool := bit (u8 d 27) 5
def dIpCsum (d : Bytes) : Bool := bit (u8 d 27) 4
def dZ1 (d : Bytes) : Bool := bit (u8 d 27) 3
def dSeal (d : Bytes) : Bool := bit (u8 d 27) 2
def dCompl (d : Bytes) : Bool := bit (u8 d 27) 1
def dSeqBase (d : Bytes) : Nat := u16 d 28

/-- Completion statuses (R134). -/
def txSent : Nat := 0
def txLateDropped : Nat := 1
def txSentLate : Nat := 2
def txGated : Nat := 3
def txAborted : Nat := 4
def txErrDesc : Nat := 5
def txFlushed : Nat := 6
def txLinkDown : Nat := 7
def txStepFlushed : Nat := 8

/-! ## Tags of the link engines: 0x2000 PIX and 0x3000 LATCH, then frame mod 8 and the place in the plan (log entry 49) -/

def pixTag (frame place : Nat) : Nat := 0x2000 + frame % 8 * 256 + place % 256
def latchTag (frame q : Nat) : Nat := 0x3000 + frame % 8 * 256 + q % 256

def State.setPort (s : State) (p : Nat) (x : Port) : State := { s with net := { s.net with ports := setAt s.net.ports p x } }
def State.port (s : State) (p : Nat) : Port := s.net.ports.getD p {}

/-- Input figure in mW of an output total in µW (R225): rounded up. -/
def inputMw (total eta : Nat) : Nat := if eta = 0 then 0 else ceilDiv (total * 32768) (eta * 1000)

/-- A value by key as it was before: set, or absent. -/
def kvBack {α : Type} (k : Nat) (v : Option α) (l : List (Nat × α)) : List (Nat × α) :=
  match v with
  | some x => kvSet k x l
  | none => l.filter fun p => p.1 != k

/-- A tile that held at its LATCH after its data went is a held one to the weir, the drive ledger and the residuals, and PRESENTED_IN of its feed
is corrected for the frame (R294, R220, R198, R204). -/
def State.unlaunch (s : State) (frame tile : Nat) (w : UnitWas) : State :=
  let now := kvGetD tile 0 s.weir.h
  let was := w.h.getD 0
  let fix (x : Nat × FeedState) : Nat × FeedState :=
    match w.feed with
    | some (feed, eta) =>
      if x.1 = feed ∧ x.2.presFrame = some frame then
        let total := x.2.total + was - now
        (x.1, { x.2 with total := total, presented := inputMw total eta })
      else x
    | none => x
  { s with
    weir := { s.weir with h := kvBack tile w.h s.weir.h, feeds := s.weir.feeds.map fix }
    col := { s.col with drive := kvBack tile w.drive s.col.drive, residuals := kvBack tile w.residuals s.col.residuals
                        resetFrom := s.col.resetFrom ++ w.resets } }

/-- Tiles of a lane plan hold after all: each counts in HOLDS and LINK_HOLDS, and is held to everything that counted it as launched (R294).
The event comes at the first such hold of a tick, with the tiles held then. -/
def State.linkHold (s : State) (lane frame : Nat) (which : PlanTile → Bool) (status : Nat) : State :=
  match s.zl.plans.find? (fun l => l.lane == lane && l.frame == frame) with
  | none => s
  | some l =>
    let held := l.tiles.filter fun t => which t && !t.hold
    let n := held.length
    if n = 0 then s
    else
      let l' : LanePlan := { l with tiles := l.tiles.map fun t => if which t then { t with hold := true, was := none } else t }
      let out (x : OutFrame) : OutFrame :=
        if x.decision = 3 ∧ held.any (fun t => x.out == .tile t.tile) then { x with decision := 5 } else x
      let s := { s with
        zl := { s.zl with plans := s.zl.plans.map fun m => if m = l then l' else m }
        tl := { s.tl with frames := s.tl.frames.map fun f => if f.k = frame then { f with outs := f.outs.map out } else f } }
      let s := held.foldl (fun (s : State) t => match t.was with | some w => s.unlaunch frame t.tile w | none => s) s
      ((((s.count Od.holds n).count Od.linkHolds n)).setReg Od.heldLast (frameNo frame)).raiseOnce 0x500B 0 (natBE 2 n ++ natBE 1 status)

/-- The link engine reads a completion of its own (R294): a PIX status is kept for the fix-up; a LATCH that was late-dropped
holds every tile it serves. -/
def State.noteCompletion (s : State) (port tag status : Nat) : State :=
  let low := tag % 0x1000
  if tag / 0x1000 = 2 then
    let upd (l : LanePlan) : LanePlan :=
      if l.lane = port ∧ l.frame % 8 = low / 256 then { l with tiles := modAt l.tiles (low % 256) fun t => { t with pix := status } } else l
    { s with zl := { s.zl with plans := s.zl.plans.map upd } }
  else if tag / 0x1000 = 3 ∧ status = txLateDropped then
    match s.zl.plans.find? (fun l => l.lane == port && l.frame % 8 == low / 256) with
    | some l => s.linkHold port l.frame (fun t => t.q == low % 256) status
    | none => s
  else s

/-- A descriptor is finished: where COMPL is set its completion goes into TX_COMPL_POUND, or is lost (R134). -/
def State.completeTx (s : State) (port : Nat) (j : TxJob) (status : Nat) : State :=
  if dCompl j.desc then
    let rec_ := natBE 2 (dTag j.desc) ++ natBE 1 status ++ natBE 1 j.tc ++ natBE 4 j.sent ++ natBE 8 j.start ++ List.replicate 16 0#8
    match s.writePound (s.reg Od.txComplPound port) 0 0 rec_ with
    | (s, true) => s.noteCompletion port (dTag j.desc) status
    | (s, false) => s.count Od.txComplLost 1 port
  else s

/-- The port has no frame on its wire and the job is gone. -/
def State.endJob (s : State) (p : Nat) (j : TxJob) : State :=
  let x := s.port p
  s.setPort p { x with wire := none, jobs := x.jobs.filter (fun k => k.tc != j.tc) }

/-- A gated frame in transmission is cut off as the gate closes (R126): its completion reports ABORTED, and one with GATED follows for the
remaining segments of a large send. -/
def State.abortGated (s : State) (p : Nat) : State :=
  match (s.port p).wire with
  | some w =>
    if w.gated then
      let t := ((s.endJob p w.job).count Od.gateAborts 1 p).completeTx p w.job txAborted
      if w.last then t else t.completeTx p w.job txGated
    else s
  | none => s

/-- A chain frame, DMX packet or RDM transaction cut off by the gate is counted and reported; the RDM request waits again
(R337). -/
def State.cutLamp (s : State) (p : Nat) : State :=
  let x := s.lamp.ports.getD p {}
  let put (s : State) (y : LampPort) : State := { s with lamp := { s.lamp with ports := setAt s.lamp.ports p y } }
  if x.busy = 0 then s
  else
    let y : LampPort := { x with busy := 0, window := none, rdmQ := (match x.rdmNow with | some r => r :: x.rdmQ | none => x.rdmQ), rdmNow := none }
    if s.now < x.busyEnd ∨ x.rdmNow.isSome then
      ((put s y).count Od.lampCuts 1 p).raiseOnce 0x6003 p (natBE 1 p ++ natBE 1 (s.reg Od.portMode p))
    else put s { x with busy := 0 }

/-- A closed gate keeps everything it governs released (R388). -/
def State.guardGate (s : State) : State :=
  if s.gate then s else ((List.range 48).foldl State.cutLamp ((List.range 26).foldl State.abortGated s)).releaseOutputs

/-- What the end of a meaning makes of the state it leaves: the gate's releases (R388), the beacon of a change (R401), the events
logged and queued (R83), and the queue of commands as it stood. -/
def State.ended (s0 s : State) : State := { (State.beaconOnChange s0 s.guardGate).flush with pending := s0.pending }

/-- How every meaning ends. -/
def finish (s0 s : State) : Host.Outcome State Fault Refusal := .next (State.ended s0 s)

end Sys2Proof.Machine
end

