-- ==== Sys2Proof/Machine/Operands.lean ====
section
/-!
DEFINITION. What a message carries: header checks (R66), the items of READ and WRITE (R70), values on the wire (R50) and
the checks of R72 that need the item and its row alone.
-/
namespace Sys2Proof.Machine

/-- One read request item (R70). -/
structure ReadItem where
  index : Nat
  sub : Nat
  flags : Nat
  deriving DecidableEq, Repr

/-- One write item (R70). -/
structure WriteItem where
  index : Nat
  sub : Nat
  ty : Nat
  flags : Nat
  value : Bytes
  deriving DecidableEq, Repr

/-- An entry lies in a row. -/
def OdRow.holds (r : OdRow) (key : Nat) : Bool := decide (r.key ≤ key) && decide (key < r.key + r.n)

/-- The entry key of an INDEX and SUB. -/
def entryKey (index sub : Nat) : Nat := index * 256 + sub

def ReadItem.key (r : ReadItem) : Nat := entryKey r.index r.sub
def WriteItem.key (w : WriteItem) : Nat := entryKey w.index w.sub

/-- A message Cloyr discards without a reply (R66); DEVICE is ignored on the SPI target. -/
def State.discards (s : State) (m : Msg) : Bool :=
  m.magic != 0x4F44 || m.ver != 1 || m.length != m.payload.length || decide (1436 < m.length) || m.reply ||
    (m.src.port != 26 && m.device % 4096 != s.device && m.device % 4096 != 4095)

/-- The read items of a payload; none where it does not divide into whole items (R70). -/
def readItems (b : Bytes) : Option (List ReadItem) :=
  if b.length % 4 = 0 then
    some ((records 4 b).map fun r => { index := u16 r 0, sub := u8 r 2, flags := u8 r 3 })
  else none

/-- The write items of a payload: 8 bytes, then VLEN bytes padded to a multiple of 4 (R70). -/
def writeItemsF : Nat → Bytes → Option (List WriteItem)
  | _, [] => some []
  | 0, _ => none
  | fuel + 1, b =>
    let vlen := u16 b 6
    let size := 8 + (vlen + 3) / 4 * 4
    if b.length < 8 ∨ b.length < size then none
    else (writeItemsF fuel (b.drop size)).map fun t =>
      { index := u16 b 0, sub := u8 b 2, ty := u8 b 3, flags := u8 b 4, value := slice b 8 vlen } :: t

def writeItems (b : Bytes) : Option (List WriteItem) := writeItemsF (b.length / 8 + 1) b

/-- A value item of a READ reply (R70): value bytes only where STATUS is OK. -/
def valueItem (r : ReadItem) (ty status : Nat) (v : Bytes) : Bytes :=
  let v := if status = stOk then v else []
  natBE 2 r.index ++ natBE 1 r.sub ++ natBE 1 ty ++ natBE 2 status ++ natBE 2 v.length ++ padTo ((v.length + 3) / 4 * 4) v

/-- A status item of a WRITE reply (R70). -/
def statusItem (index sub status : Nat) : Bytes := natBE 2 index ++ natBE 1 sub ++ natBE 1 0 ++ natBE 2 status ++ natBE 2 0

/-- The wire bytes of a value of a row (R50): STR is padded to its length. -/
def OdRow.wire (r : OdRow) (v : OdVal) : Bytes :=
  match v with
  | .num n => natBE r.len n
  | .tab b => if r.ty = 11 then padTo r.len b else b

/-- TYPE of R72: the type code or VLEN does not match, or the value must move by bulk and did not; R502 for X entries. -/
def OdRow.typeOk (r : OdRow) (ty : Nat) (v : Bytes) (bulk : Bool := false) : Bool :=
  if r.acc = .x then ty == 0 && decide (v.length ≤ 8)
  else
    ty == r.ty && (bulk || decide (v.length ≤ 1024)) &&
      (if r.ty = 13 then v.length % max r.recLen 1 == 0
       else if r.ty = 12 then true
       else if r.ty = 11 then decide (v.length ≤ r.len)
       else v.length == r.len)

/-- Bytes `lo` to `hi` of a record, all reserved. -/
def resv (lo hi : Nat) : List (Nat × Nat) := (List.range (hi + 1 - lo)).map fun (i : Nat) => (lo + i, 0)

/-- The reserved fields of a table's records (R9), as byte offsets with the bits that are not reserved, by entry: R176, R179,
R173, R191, R209 to R211, R216, R219, R275, R279, R309, R338, R343, R356, R369, R372, R374, R384. -/
def reservedOf (key : Nat) : List (Nat × Nat) :=
  match key / 256 with
  | 0x3410 => (3, 7) :: resv 52 55
  | 0x3420 => [(3, 7)]
  | 0xC020 => resv 0 1 ++ (3, 7) :: resv 52 55
  | 0x3400 | 0x3401 => if key % 256 = 6 then [(0, 0)] else []
  | _ =>
    if key = Od.tileColour.key then [(4, 0x1F), (6, 1), (7, 0x0F), (37, 0x0F)] ++ resv 38 39
    else if key = Od.rasterColour.key then resv 0 1 ++ [(4, 0x1F), (6, 1), (7, 0x0F), (37, 0x0F)] ++ resv 38 39
    else if key = Od.endpointPack.key then [(8, 0x1F), (11, 0xF1), (12, 0x0F)] ++ resv 13 15
    else if key = Od.emitterClass.key then resv 146 147
    else if key / 256 = Od.exact.key / 256 then resv 0 1
    else if key = Od.calData.key then [(18, 0xE0), (19, 0)]
    else if key = Od.feeds.key then [(10, 1), (11, 0)]
    else if key = Od.unitModel.key then (1, 0) :: resv 6 7
    else if key = Od.poundConfig.key then resv 2 3
    else if key = Od.sluiceMap.key then [(3, 0)]
    else if key = Od.tileLink.key then resv 14 15
    else if key = Od.sectionSeal.key then [(3, 0)]
    else if key / 256 = Od.chainCfg.key / 256 then (3, 0xE0) :: resv 25 27
    else if key / 256 = Od.dmxCfg.key / 256 then (12, 3) :: resv 14 15
    else if key / 256 = Od.matrixCfg.key / 256 then (7, 3) :: resv 19 23
    else if key = Od.stringGroup.key then [(7, 0)]
    else if key / 256 = Od.stringCfg.key / 256 then (25, 0) :: resv 28 31
    else if key = Od.rsTiming.key then (16, 3) :: resv 18 19
    else if key = Od.rsScan.key then [(3, 0)]
    else if key = Od.aqRoutes.key then [(13, 3), (14, 7), (15, 0)]
    else if key = Od.aqPeers.key then [(21, 0)]
    else []

/-- A record with its reserved fields 0 (R9: a nonzero value written to one is ignored). -/
def clearReserved (fields : List (Nat × Nat)) (r : Bytes) : Bytes :=
  fields.foldl (fun (b : Bytes) (f : Nat × Nat) => modAt b f.1 (· &&& BitVec.ofNat 8 f.2)) r

/-- A table value with the reserved fields of every record 0 (R9). -/
def OdRow.cleaned (r : OdRow) (key : Nat) (b : Bytes) : Bytes :=
  match reservedOf key with
  | [] => b
  | fields => ((records (max r.recLen 1) b).map (clearReserved fields)).flatten

/-- The value the bytes spell under a row, at entry `key`. -/
def OdRow.parse (r : OdRow) (key : Nat) (v : Bytes) : OdVal :=
  if r.acc = .x then .num (beNat v) else if r.isTab then .tab (r.cleaned key v) else .num (beNat v)

/-- The number as the row's type reads it. -/
def OdRow.asInt (r : OdRow) (n : Nat) : Int := if r.isSigned then toS (8 * r.len) n else (n : Int)

/-- Codes and steps a Range column lists (R25, R165). -/
def discreteOk (key n : Nat) : Bool :=
  if key = 0x140300 then (rateNM n).isSome
  else if key = 0x180003 then n ≤ 4095 || n == 0xFFFF
  else if key / 256 = 0x2419 then n ≤ 4095 || n == 0xFFFF
  else if key = 0x300005 ∨ key = 0x300105 then n == 8 || n == 10 || n == 12 || n == 16
  else if key = 0x300002 ∨ key = 0x300102 then n % 4 == 0
  else true

/-- The Range column of a row (R72): numbers within lo..hi where it gives a range, BOOL, TIME, the size of a table (PARTS has 1 to 8 records,
R165) or of a BLOB of records (R185). -/
def OdRow.rangeOk (r : OdRow) (key : Nat) (v : OdVal) : Bool :=
  match v with
  | .num n =>
    if r.ty = 1 then decide (n ≤ 1)
    else if r.ty = 9 then timeOk n
    else (decide (r.lo ≤ r.asInt n) && decide (r.asInt n ≤ r.hi) || (r.lo == 0 && r.hi == 0)) && discreteOk key n
  | .tab b =>
    if r.ty = 13 then
      decide (b.length ≤ r.maxRec * r.recLen) && (!r.fixed || b.length == r.maxRec * r.recLen) &&
        (!(key == 0x30000A || key == 0x30010A) || !b.isEmpty)
    else if r.ty = 12 ∧ r.maxRec ≠ 0 then decide (b.length ≤ r.maxRec * r.recLen)
    else true

end Sys2Proof.Machine
end

