-- ==== Sys2Proof/Machine/Keys.lean ====
section
/-!
DEFINITION. Keys (spec/18): the key registers, the working slots, invalidation and its grace, persisted blobs, the DRBG and
attestation.
-/
namespace Sys2Proof.Machine

/-- What a write to an entry with an effect of its own answers: the state, a status, and the kind of owed reply if the
reply waits (R53, R413, R453). -/
abbrev Eff := State × Nat × Option Nat

def effOk (s : State) : Eff := (s, stOk, none)
def effNo (s : State) (st : Nat) : Eff := (s, st, none)

/-! ## Registers (R412–R416) -/

/-- The copy in force: the one being written, else the valid copy with the higher generation (R413, R415). -/
def KeyReg.inForce (r : KeyReg) : Option KeyCopy :=
  match r.writing with
  | some (_, g) => if r.a.gen = g then some r.a else some r.b
  | none =>
    if r.a.valid && (!r.b.valid || decide (r.b.gen ≤ r.a.gen)) then some r.a
    else if r.b.valid then some r.b else none

/-- The key a register holds; none where it is absent: no valid copy, or erased by 32 zero bytes (R413, R415). -/
def KeyReg.key? (r : KeyReg) : Option Bytes :=
  match r.inForce with
  | some c => if c.key.all (· == 0#8) then none else some c.key
  | none => none

def KeyReg.gen (r : KeyReg) : Nat := match r.inForce with | some c => c.gen | none => 0

def State.keyReg (s : State) (i : Nat) : KeyReg := s.keys.regs.getD i {}

def State.setKeyReg (s : State) (i : Nat) (r : KeyReg) : State :=
  { s with keys := { s.keys with regs := setAt s.keys.regs i r } }

/-- Write a copy: the invalid copy or the one with the lower generation gets the higher generation plus 1 (R414). It is
valid once the CMAC is written. -/
def KeyReg.begin (r : KeyReg) (key : Bytes) (req : Req) : KeyReg :=
  let ga := if r.a.valid then r.a.gen else 0
  let gb := if r.b.valid then r.b.gen else 0
  let g := max ga gb + 1
  let toA := !r.a.valid || (r.b.valid && decide (ga ≤ gb))
  let c : KeyCopy := { key := key, gen := g, valid := false }
  if toA then { r with a := c, writing := some (req, g) } else { r with b := c, writing := some (req, g) }

/-- The write finishes (R413, R414). -/
def KeyReg.done (r : KeyReg) : KeyReg :=
  match r.writing with
  | none => r
  | some (_, g) =>
    { a := if r.a.gen = g then { r.a with valid := true } else r.a
      b := if r.a.gen = g then r.b else { r.b with valid := true }
      writing := none }

/-- The depth-1 blobs under the old KEK, wrapped again under the new one and tagged with its generation (R416). -/
def KeyState.rewrap (k : KeyState) (old new : Bytes) (oldGen gen : Nat) : List KeyBlob :=
  (k.blobs.filter (fun b => b.depth == 1 && b.kekGen == oldGen)).filterMap fun b =>
    (kwUnwrap old (slice b.record 8 40)).map fun key =>
      { record := b.record.take 8 ++ kwWrap new key, depth := 1, kekGen := gen, saved := true }

/-- A write of KEK (0), ATTEST (1) or UPDATE (2) (R413–R416). -/
def State.writeKeyReg (s : State) (i : Nat) (value : Bytes) (req : Req) : Eff :=
  let r := s.keyReg i
  if value.length ≠ 32 then effNo s stRange
  else if r.writing.isSome then effNo s stBusy
  else
    let r' := r.begin value req
    let blobs :=
      if i = 0 then
        match r.key?, r'.key? with
        | some o, some n => s.keys.blobs ++ s.keys.rewrap o n r.gen r'.gen
        | _, _ => s.keys.blobs
      else s.keys.blobs
    let s := { s with keys := { s.keys with blobs := blobs } }
    ((s.setKeyReg i r').envmWrite, stOk, some (1 + i))

/-- A register's write finishes: its reply leaves, old KEK blobs go, KEY_REG_WRITTEN is raised (R413, R416, R429). -/
def State.keyRegDone (s : State) (i : Nat) : State :=
  let r := s.keyReg i
  if r.writing.isNone then s
  else
    let r := r.done
    let s := s.setKeyReg i r
    let s :=
      if i = 0 then
        { s with keys := { s.keys with blobs := s.keys.blobs.filter (fun b => b.depth != 1 || b.kekGen == r.gen) } }
      else s
    (s.raise 0x9001 (natBE 2 i ++ natBE 4 r.gen)).settleOwed (1 + i)

/-! ## Working slots (R417–R424) -/

def State.slot (s : State) (i : Nat) : KeySlot := s.keys.slots.getD i {}

def State.setSlot (s : State) (i : Nat) (k : KeySlot) : State :=
  { s with keys := { s.keys with slots := setAt s.keys.slots i k } }

/-- The slot's check sum: CRC-32C over key, USAGE, PARENT and depth (R421). -/
def KeySlot.sum (k : KeySlot) : Nat := crc32c (k.key ++ natBE 1 k.usage ++ natBE 1 k.parent ++ natBE 1 k.depth)

/-- READY or GRACE (R417). -/
def KeySlot.usable (k : KeySlot) : Bool := k.state == 1 || k.state == 2

/-- The status that an unusable slot gives (R418, R433). -/
def KeySlot.status (k : KeySlot) : Nat :=
  if k.state = 0 then stKeyAbsent else if k.state = 4 then stKeyBad else stKeyOrphaned

/-- Slots below a slot that hold READY keys: children, their children, and theirs (R419: no key deeper than 3). -/
def KeyState.below (k : KeyState) (i : Nat) : List Nat :=
  let kids (ps : List Nat) : List Nat :=
    (List.range 64).filter fun j =>
      let c := k.slots.getD j {}
      c.state == 1 && c.parent != 0xFF && ps.contains c.parent
  let a := kids [i]
  let b := kids a
  (List.range 64).filter fun j => j != i && (a.contains j || b.contains j)

/-- Invalidation (R422): slot and descendants enter GRACE until the (ORPHAN_GRACE + 1)-th tick. `keeps`: the slot itself
keeps its state, having gone BAD or taken a new key. -/
def State.invalidate (s : State) (i : Nat) (keeps : Bool) : State :=
  let ds := s.keys.below i
  let grace (l : List KeySlot) (j : Nat) : List KeySlot := modAt l j fun c => if c.state = 1 then { c with state := 2 } else c
  let slots := ds.foldl grace s.keys.slots
  let slots := if keeps then slots else grace slots i
  let inv : Invalidation :=
    { slot := i, keeps := keeps, descendants := ds, endTick := s.tl.nextTick + s.reg Od.orphanGrace, rate := s.tl.rate }
  let s := { s with keys := { s.keys with slots := slots, graces := s.keys.graces ++ [inv] } }
  s.raise 0x9004 (natBE 2 i ++ natBE 2 ds.length)

/-- A slot that takes a new key is no longer what earlier invalidations put in GRACE: their end leaves it alone (R422). -/
def State.takenFromGraces (s : State) (i : Nat) : State :=
  { s with keys := { s.keys with graces := s.keys.graces.map fun g =>
    { g with keeps := g.keeps || g.slot == i, descendants := g.descendants.filter (· != i) } } }

/-- The grace of one invalidation ends (R422). -/
def State.endGrace (s : State) (g : Invalidation) : State :=
  let slots := if g.keeps then s.keys.slots else setAt s.keys.slots g.slot {}
  let hit := g.descendants.filter fun j => (slots.getD j {}).state == 2
  let slots := hit.foldl (fun l j => modAt l j fun c => { c with state := 3 }) slots
  let s := { s with keys := { s.keys with slots := slots, graces := s.keys.graces.filter (· != g) } }
  s.count Od.orphans hit.length

/-- Use a slot's key (R421): it is checked; a failing slot goes BAD, its descendants are orphaned under R422. -/
def State.useSlot (s : State) (i : Nat) : State × Option Bytes :=
  let k := s.slot i
  if !k.usable then (s, none)
  else if k.crc = k.sum then (s, some k.key)
  else
    let s := (s.setSlot i { k with state := 4 }).count Od.slotCheckFails
    let s := s.raise 0x9003 (natBE 2 i ++ natBE 1 k.usage)
    (s.invalidate i true, none)

/-- The parent key of a KEY_LOAD record and the child's depth, or the status that refuses it (R418, R419). -/
def State.parentKey (s : State) (parent usage : Nat) : State × Except Nat (Bytes × Nat) :=
  if parent = 0xFF then
    match (s.keyReg 0).key? with
    | none => (s, .error stKeyAbsent)
    | some k => (s, .ok (k, 1))
  else if 63 < parent then (s, .error stRange)
  else
    let p := s.slot parent
    let d := p.depth + 1
    if p.state = 0 then (s, .error stKeyAbsent)
    else if p.state = 2 ∨ p.state = 3 then (s, .error stKeyOrphaned)
    else if p.state = 4 then (s, .error stKeyBad)
    else if p.usage ≠ 0 ∨ 3 < d ∨ (usage = 1 ∧ 2 < d) then (s, .error stRange)
    else
      match s.useSlot parent with
      | (s, some k) => (s, .ok (k, d))
      | (s, none) => (s, .error stKeyBad)

/-- A KEY_LOAD record (R418): the slot takes the key, or the status that refuses it. -/
def State.loadKey (s : State) (record : Bytes) : State × Nat :=
  let i := u8 record 0
  let parent := u8 record 1
  let usage := u8 record 2
  if 63 < i ∨ ¬(usage = 0 ∨ usage = 1 ∨ usage = 3) then (s, stRange)
  else if (s.slot i).usage = 2 ∧ (s.slot i).state ≠ 0 then (s, stBusy)
  else
    match s.parentKey parent usage with
    | (s, .error st) => (s, st)
    | (s, .ok (k, d)) =>
      match kwUnwrap k (slice record 8 40) with
      | none => (s.count Od.unwrapFails, stKeyBad)
      | some key =>
        let s := if (s.slot i).state = 0 then s else (s.takenFromGraces i).invalidate i true
        let c : KeySlot := { state := 1, key := key, usage := usage, parent := parent, depth := d, persist := bit (u8 record 3) 0 }
        (s.setSlot i { c with crc := c.sum }, stOk)

/-- A host's KEY_LOAD: a loaded slot replaces the persisted blob of that slot (R424; log entry 40). -/
def State.writeKeyLoad (s : State) (record : Bytes) : State × Nat :=
  match s.loadKey record with
  | (s, st) =>
    if st ≠ stOk then (s, st)
    else
      let i := u8 record 0
      let blobs := s.keys.blobs.filter (fun b => u8 b.record 0 != i)
      let c := s.slot i
      let record := record.take 3 ++ natBE 1 (u8 record 3 % 2) ++ natBE 4 0 ++ slice record 8 40
      let b : KeyBlob := { record := record, depth := c.depth, kekGen := if c.parent = 0xFF then (s.keyReg 0).gen else 0 }
      ({ s with keys := { s.keys with blobs := if c.persist then blobs ++ [b] else blobs } }, stOk)

/-- Empty every slot (R417). -/
def State.emptySlots (s : State) : State :=
  { s with keys := { s.keys with slots := List.replicate 64 {}, graces := [] } }

/-- PD_SEC comes on: persisted blobs are loaded in order of depth; one that fails is dropped with event 0x9007 (R416, R424). A blob of
another KEK generation beside a matching one of its slot is what a power loss left (R416): it goes without the event. -/
def State.reloadKeys (s : State) : State :=
  let gen := (s.keyReg 0).gen
  let order := ([1, 2, 3] : List Nat).flatMap fun d => s.keys.blobs.filter (fun b => b.depth == d)
  let s := s.emptySlots
  order.foldl (fun s b =>
    let stale := b.depth == 1 && b.kekGen != gen
    let twin := stale && order.any fun c => c.depth == 1 && c.kekGen == gen && u8 c.record 0 == u8 b.record 0
    let (s', st) := if stale then (s, stKeyBad) else s.loadKey b.record
    if st = stOk then s'
    else
      let s' := { s' with keys := { s'.keys with blobs := s'.keys.blobs.filter (· != b) } }
      if twin then s' else s'.raise 0x9007 (natBE 2 (u8 b.record 0) ++ natBE 2 st)) s

/-! ## The DRBG (R425, R426) -/

/-- PD_SEC comes on: the start-up test begins. -/
def State.startDrbg (s : State) : State :=
  { s with keys := { s.keys with drbg := 1, requests := 0, failures := 0, retryAt := none } }

/-- The DRBG is due to be reseeded: after 4,096 requests or 600 s (R425). -/
def State.reseedDue (s : State) : Bool := decide (4096 ≤ s.keys.requests) || decide (s.keys.seededAt + 600000000000 ≤ s.now)

/-- 32 bytes of output for a seal key; none while not READY (R425, R426). A reseeding that is due comes first. -/
def State.drawKey (s : State) : State × Option Bytes :=
  if s.keys.drbg = 2 then
    let k := if s.reseedDue then { s.keys with requests := 0, seededAt := s.now } else s.keys
    ({ s with keys := { k with requests := k.requests + 1, draws := k.draws + 1 } }, some (natBE 32 (Config.drbg k.draws)))
  else (s, none)

/-- The start-up test passes and the DRBG is instantiated. -/
def execDrbgStartupTestDone (dt : Nat) (s : State) : Host.Outcome State Fault Refusal :=
  let t := s.advance dt
  finish s (if t.keys.drbg = 1 ∧ t.domOn 12 then
    { t with keys := { t.keys with drbg := 2, requests := 0, seededAt := t.now, failures := 0 } } else t)

/-- The DRBG is reseeded after 4,096 requests or 600 s (R425). -/
def execDrbgReseed (dt : Nat) (s : State) : Host.Outcome State Fault Refusal :=
  let t := s.advance dt
  finish s (if t.keys.drbg = 2 ∧ t.domOn 12 ∧ t.reseedDue then
    { t with keys := { t.keys with requests := 0, seededAt := t.now } } else t)

/-- An entropy health test fails (R426). -/
def execDrbgHealthFail (dt test : Nat) (s : State) : Host.Outcome State Fault Refusal :=
  let t := s.advance dt
  finish s (if (t.keys.drbg = 1 ∨ t.keys.drbg = 2) ∧ t.domOn 12 then
    let n := t.keys.failures + 1
    let t := { t with keys := { t.keys with drbg := 3, failures := n, retryAt := if n < 3 then some (t.now + 1000000000) else none } }
    (t.count Od.drbgHealthFails).raise 0x9005 (natBE 2 test ++ natBE 2 n) else t)

/-- One second after a failure Cloyr instantiates again: the start-up test runs anew (R426). -/
def execDrbgRetry (s : State) : Host.Outcome State Fault Refusal :=
  finish s (match s.keys.retryAt with
    | some at_ =>
      if s.keys.drbg = 3 ∧ s.domOn 12 then
        let t := s.goTo at_
        { t with keys := { t.keys with drbg := 1, retryAt := none } }
      else s
    | none => s)

/-- A key register's write is finished and read back: all that are under way finish (R413). -/
def execKeyRegisterWriteDone (dt : Nat) (s : State) : Host.Outcome State Fault Refusal :=
  let t := s.advance dt
  finish s (if t.alive then
    match ([0, 1, 2] : List Nat).find? (fun i => (t.keyReg i).writing.isSome) with
    | some i => t.keyRegDone i
    | none => t
    else t)

/-! ## Attestation (R427) -/

/-- Bytes 0–27 of the CHALLENGE reply. -/
def State.attested (s : State) : Bytes :=
  natBE 4 (s.reg Od.identity) ++ natBE 16 Config.serial ++ natBE 4 ((s.upd.slots.getD s.upd.running {}).version) ++
    natBE 4 s.nv.epoch

/-- CHALLENGE (R427): status and payload. -/
def State.challenge (s : State) (payload : Bytes) : State × Nat × Bytes :=
  let recent := (s.keys.challenges.filter fun t => decide (s.now < t + 1000000000)) ++ [s.now]
  let s := { s with keys := { s.keys with challenges := recent } }
  if payload.length ≠ 16 then (s, stRange, [])
  else
    match (s.keyReg 1).key? with
    | none => (s, stKeyAbsent, [])
    | some k =>
      if 64 < recent.length then (s, stBusy, [])
      else (s.count Od.challenges, stOk, s.attested ++ hmac k (payload ++ s.attested))

/-! ## Readings (R428) -/

/-- KEY_REG_STATUS. -/
def State.keyRegStatus (s : State) : Bytes :=
  ([0, 1, 2] : List Nat).flatMap fun i =>
    let r := s.keyReg i
    natBE 1 (b2n r.key?.isSome) ++ natBE 4 r.gen ++ natBE 4 (match r.key? with | some k => keyKcv k | none => 0) ++
      natBE 1 (b2n r.a.valid + 2 * b2n r.b.valid)

/-- SLOT_STATUS. -/
def State.slotStatus (s : State) : Bytes :=
  s.keys.slots.flatMap fun c =>
    natBE 1 c.state ++ natBE 1 c.usage ++ natBE 1 c.parent ++ natBE 1 c.depth ++ natBE 1 (b2n c.persist) ++ natBE 2 c.secNo ++
      natBE 4 (if c.state = 0 then 0 else keyKcv c.key)

end Sys2Proof.Machine
end

