-- ==== Sys2Proof/Machine/Seals.lean ====
section
/-!
DEFINITION. Seals (R304–R307, R420): the seal keys of each section, drawing and switching them, and the tag of a frame.
-/
namespace Sys2Proof.Machine

def State.sealOf (s : State) (secNo : Nat) : Option Seal := s.zl.seals.find? fun x => x.secNo == secNo

def State.setSeal (s : State) (x : Seal) : State :=
  { s with zl := { s.zl with seals := s.zl.seals.map fun y => if y.secNo = x.secNo then x else y } }

/-- The tile master slot SECTION_SEAL names for a section, in the settings `cfg` (R306). -/
def tmkSlot (cfg : Store) (secNo : Nat) : Option Nat := (cfg.recOf Od.sectionSeal secNo).map fun r => u8 r 2

/-- The sections of a frame's settings each have a seal; one that leaves gives its slots back. -/
def State.sealSections (s : State) (cfg : Store) : State :=
  let want := (cfg.recs Od.sectionSeal).map fun r => u16 r 0
  let gone := s.zl.seals.filter fun x => !want.contains x.secNo
  let drop := gone.flatMap fun x => [x.cur, x.next, x.prev].filterMap id
  let s := { s with keys := { s.keys with slots := drop.foldl (fun l i => setAt l i {}) s.keys.slots } }
  let seals : List Seal := want.map fun n => (s.sealOf n).getD { secNo := n }
  { s with zl := { s.zl with seals := seals } }

/-- Empty a seal slot. -/
def State.freeSlot (s : State) (i : Option Nat) : State := match i with | some i => s.setSlot i {} | none => s

/-- Draw a seal key into the highest-numbered EMPTY slot, an ORPHANED seal slot of the section being emptied first (R420).
The key is a child of the section's READY tile master slot (R306, R419, R422). -/
def State.drawSeal (s : State) (secNo tmk : Nat) : State × Option Nat :=
  let m := s.slot tmk
  if m.state ≠ 1 ∨ m.usage ≠ 1 ∨ s.domOn 12 = false then (s, none)
  else
    let clear := (List.range 64).filter fun i => let c := s.slot i; c.usage == 2 && c.state == 3 && c.secNo == secNo
    let s := clear.foldl (fun s i => s.setSlot i {}) s
    match ((List.range 64).reverse).find? (fun i => (s.slot i).state == 0) with
    | none => (s, none)
    | some i =>
      match s.drawKey with
      | (s, none) => (s, none)
      | (s, some k) =>
        let c : KeySlot := { state := 1, key := k, usage := 2, parent := tmk, depth := m.depth + 1, secNo := secNo }
        (s.setSlot i { c with crc := c.sum }, some i)

/-- A roll that waits for its key tries to draw it; KEY_SLOTS_FULL is raised once a roll (R420, R426). -/
def State.offerSeal (s : State) (x : Seal) (tmk frame : Nat) : State × Bool :=
  match s.drawSeal x.secNo tmk with
  | (s, some i) => (s.setSeal { x with rolling := true, next := some i, rollFrame := frame }, true)
  | (s, none) =>
    let full := ((List.range 64).all fun i => (s.slot i).state != 0) && s.keys.drbg == 2 && (s.slot tmk).state == 1
    if full && !x.fullSaid then ((s.setSeal { x with rolling := true, fullSaid := true }).raise 0x9006 (natBE 2 x.secNo), false)
    else (s.setSeal { x with rolling := true }, false)

/-- Why a section's keys are unusable: 1 orphaned, 2 bad, 3 absent (R307, R311). -/
def State.sealCause (s : State) (x : Seal) (tmk : Option Nat) : Option Nat :=
  let why (k : KeySlot) : Option Nat := if k.state = 0 then some 3 else if k.state = 4 then some 2 else if k.state = 3 then some 1 else none
  match tmk with
  | none => some 3
  | some t =>
    let m := s.slot t
    match x.cur with
    | none => match why m with | some c => some c | none => if m.usage = 1 then none else some 3
    | some c =>
      match why (s.slot c) with
      | some w => some w
      | none => match why m with | some w => some w | none => if m.usage = 1 then none else some 3

/-- Whether a section seals from the next frame on (R307): its slots are usable and neither R305 nor R306 has stopped it.
SEAL_UNAVAILABLE is raised once when it stops. -/
def State.sealCheck (s : State) (cfg : Store) (secNo : Nat) : State :=
  match s.sealOf secNo with
  | none => s
  | some x =>
    match s.sealCause x (tmkSlot cfg secNo) with
    | some c =>
      let s' := s.setSeal { x with sealing := false, unavailable := true }
      if x.unavailable then s' else s'.raise 0x5009 (natBE 2 secNo ++ natBE 1 c)
    | none => s.setSeal { x with sealing := x.cur.isSome && !x.guarded && !x.limited, unavailable := false }

/-- The nonce of R304: EPOCH, FRAME, TILE′, SEQ as they stand in the header. -/
def sealNonce (h : Bytes) (fromTile : Bool) : Bytes :=
  let tile := u16 h 4
  slice h 8 4 ++ slice h 12 4 ++ natBE 2 (if fromTile ∧ tile < 0x8000 then tile + 0x8000 else tile) ++ slice h 6 2

/-- The seal tag of R304: the first 8 bytes of AES-256-GCM over an empty plaintext. -/
def sealTag (key h pay : Bytes) (fromTile : Bool) : Bytes :=
  (gcmTag key (sealNonce h fromTile) (h.take 32 ++ pay.take (u16 h 20)) []).take 8

/-- The slot whose key a KEYID names in a section: the current key's, or the previous one's (R302, R306). -/
def Seal.slotOf (x : Seal) (keyId : Nat) : Option Nat :=
  if keyId = x.keyId then x.cur else if (keyId + 1) % 16 = x.keyId then x.prev else none

/-- The KEYID that seals what belongs to the show frame at place `j`: every frame from that of the switch onwards takes
the new key, earlier ones the key before it (R306 step 2). -/
def Seal.keyFor (x : Seal) (j : Nat) : Nat := if j < x.since ∧ x.prev.isSome then (x.keyId + 15) % 16 else x.keyId

/-- A frame sealed under a section's current key is counted; at 2^31 sealing stops (R306). -/
def State.countSealed (s : State) (secNo keyId frame : Nat) : State :=
  match s.sealOf secNo with
  | none => s
  | some x =>
    if keyId ≠ x.keyId then s else
    let n := x.underKey + 1
    let last := match x.lastFrame with | some f => if frameLater frame f then some frame else some f | none => some frame
    let x := { x with underKey := n, lastFrame := last, lastEpoch := s.tow.epochInUse }
    if n = 2147483648 then (s.setSeal { x with limited := true, sealing := false }).raise 0x5008 (natBE 2 secNo)
    else s.setSeal x

/-- The key that a frame's header asks for, checked as it is loaded into the cipher (R421). `held` is a key the large send
has already loaded (R422). -/
def State.sealKey (s : State) (h : Bytes) (held : Option Bytes) : State × Option Bytes :=
  match held with
  | some k => (s, some k)
  | none =>
    match s.sealOf (u16 h 2) with
    | none => (s, none)
    | some x =>
      match x.slotOf (u8 h 1 % 16) with
      | none => (s, none)
      | some i => s.useSlot i

end Sys2Proof.Machine
end

