-- ==== Sys2Proof/Machine/Lanes.lean ====
section
/-!
DEFINITION. Lanes and frames (spec/05) and the timestamps and timed launch of spec/04 that the MACs carry out: descriptors,
large sends, the choice of the next frame, completions, reception, PAUSE, links.
-/
namespace Sys2Proof.Machine

/-! ## Ports -/

def isLane (p : Nat) : Bool := decide (p < 24)
def isMgmt (p : Nat) : Bool := p == 24 || p == 25

/-- ROLE of a lane; none exists for a MGMT port (R144). -/
def State.role (s : State) (p : Nat) : Nat := if p < 24 then s.reg Od.role p else 4

/-- The port runs: LANE_EN is 1 and its power domain is on (R122, R124). -/
def State.portRuns (s : State) (p : Nat) : Bool := s.reg Od.laneEn p == 1 && s.domOn (portDomain p)

/-- Rate of a port in Mb/s: RATE of a lane (R119), the speed in force of a MGMT port (R143). -/
def State.portMbps (s : State) (p : Nat) : Nat :=
  if p < 24 then (match s.reg Od.rate p with | 0 => 1000 | 1 => 10000 | _ => 25000)
  else if (s.port p).speed = 1 then 100 else 1000

/-- LINK_SPEED while the link is up (R145). -/
def State.speedCode (s : State) (p : Nat) : Nat :=
  if p < 24 then (match s.reg Od.rate p with | 0 => 2 | 1 => 3 | _ => 4) else (s.port p).speed

/-- Line time of a frame of `n` bytes, FCS included, with preamble and gap, in ns rounded up (R132). -/
def lineNs (mbps n : Nat) : Nat := ceilDiv ((n + 20) * 8 * 1000) mbps

/-- d_tx and d_rx of a port in ps (R103): trimmed path of a lane; internal path and PHY of a MGMT port. -/
def State.txDelayPs (s : State) (p : Nat) : Nat :=
  let tap (q : Nat) : Nat := match kvGet q s.trim.taps with | some (t, _) => t | none => 0
  if p < 24 then s.reg Od.txPathDelay p
  else if p = 24 then Config.pathDelay 48 (tap 48) (s.portMbps p) 0 + 1000 * s.reg Od.mgmt0PhyTxDelay
  else Config.pathDelay 50 (tap 50) (s.portMbps p) 0 + 1000 * s.reg Od.mgmt1PhyTxDelay

def State.rxDelayPs (s : State) (p : Nat) : Nat :=
  let tap (q : Nat) : Nat := match kvGet q s.trim.taps with | some (t, _) => t | none => 0
  if p < 24 then s.reg Od.rxPathDelay p
  else if p = 24 then Config.pathDelay 49 (tap 49) (s.portMbps p) 0 + 1000 * s.reg Od.mgmt0PhyRxDelay
  else Config.pathDelay 51 (tap 51) (s.portMbps p) 0 + 1000 * s.reg Od.mgmt1PhyRxDelay

/-- A capture record of R105 from picoseconds of device time. -/
def captureRec (ps : Nat) : Bytes :=
  let ns := ps / 1000
  natBE 6 (ns / 1000000000) ++ natBE 4 (ns % 1000000000) ++ natBE 2 (ps % 1000 * 65536 / 1000)

/-- Whole ns of a capture record. -/
def captureNs (b : Bytes) : Nat := u48 b 0 * 1000000000 + u32 b 6

def State.trimGen (s : State) : Nat := s.reg Od.trimGeneration % 2

/-! ## Transmit queues -/

/-- TXQ_POUND of queue `q` of port `p`: assigned at start to 8 × port + queue (R127; log entry 50). -/
def State.txPound (s : State) (p q : Nat) : Nat :=
  match kvGet (Od.txqPound.key + p) s.od.regs.tabs with
  | some b => u16 b (2 * q)
  | none => 8 * p + q

/-- TXQ_POUND as it reads. -/
def State.txqTable (s : State) (p : Nat) : Bytes := (List.range 8).flatMap fun q => natBE 2 (s.txPound p q)

/-- The descriptor at the head of a queue. -/
def State.headDesc (s : State) (p q : Nat) : Option Bytes :=
  let es := (s.pound (s.txPound p q)).entries
  match headOf es with
  | some i => (es[i]?).map PEntry.data
  | none => none

/-- The next payload's address, and the state with the payload in the basin. -/
def State.putPayload (s : State) (pay : Bytes) : State × Nat :=
  let o := areaPlace s.net.txNext pay.length
  ({ s with net := { s.net with basin := memWrite (txArea + o) pay s.net.basin, txNext := o + pay.length } }, txArea + o)

/-- What a block asks the MAC to send. -/
structure TxAsk where
  tc : Nat
  hdr : Bytes
  pay : Bytes
  launch : Nat := 0
  tag : Nat := 0
  seg : Bool := false
  mss : Nat := 0
  l3 : Nat := 0
  zh : Nat := 0
  tsReq : Bool := false
  gated : Bool := false
  z1 : Bool := false
  sealed : Bool := false
  compl : Bool := false
  seqBase : Nat := 0
  deriving DecidableEq, Repr

/-- One of Cloyr's blocks writes its template and its descriptor at pound priority 0 (R127–R129). A refused descriptor is
not sent. -/
def State.submitTx (s : State) (p : Nat) (a : TxAsk) : State :=
  let (s, addr) := s.putPayload a.pay
  let x := s.port p
  let slot := x.nextSlot
  let s := s.setPort p { x with templates := kvSet slot a.hdr x.templates, nextSlot := (slot + 1) % 256 }
  let flags := 128 * b2n a.tsReq + 64 * b2n a.seg + 32 * b2n a.gated + 16 * b2n (decide (0 < a.l3)) + 8 * b2n a.z1 +
    4 * b2n a.sealed + 2 * b2n a.compl
  let d := natBE 8 a.launch ++ natBE 6 addr ++ natBE 2 a.tag ++ natBE 4 a.pay.length ++ natBE 2 a.mss ++ natBE 2 slot ++
    natBE 1 a.hdr.length ++ natBE 1 a.l3 ++ natBE 1 a.zh ++ natBE 1 flags ++ natBE 2 a.seqBase ++ natBE 1 a.tc ++ natBE 1 0
  (s.writePound (s.txPound p a.tc) 0 0 d).1

/-! ## Segments (R129–R131) -/

/-- Segments of a descriptor (R131). -/
def segCount (d : Bytes) : Nat := if dSeg d then max 1 (ceilDiv (dPayLen d) (dMss d)) else 1

/-- The payload slice of segment `i`. -/
def segPay (d pay : Bytes) (i : Nat) : Bytes := if dSeg d then slice pay (i * dMss d) (min (dMss d) (pay.length - i * dMss d)) else pay

/-- The ones' complement checksum of an IPv4 header (the standard R131 refers to; PRESUMED, log entry 20). -/
def ipSum (h : Bytes) : Nat :=
  let t := (List.range (h.length / 2)).foldl (fun a i => a + u16 h (2 * i)) 0
  let t := t % 65536 + t / 65536
  65535 - (t % 65536 + t / 65536)

/-- The header bytes of segment `i`: the fields R131 rewrites in a large send, every other byte copied. -/
def segHdr (d hdr : Bytes) (i len : Nat) : Bytes :=
  if dSeg d = false then hdr
  else
    let n := segCount d
    let z := dZh d
    let h :=
      if z = 0 then hdr
      else
        let off (b : Bytes) (o : Nat) : Bytes := putAt b (z + o) (natBE 4 ((u32 b (z + o) + i * dMss d) % 2 ^ 32))
        let h := if dZ1 d then putAt (off hdr 6) (z + 10) (natBE 2 len)
          else putAt (putAt (off hdr 16) (z + 20) (natBE 2 len)) (z + 6) (natBE 2 ((dSeqBase d + i) % 65536))
        putAt h (z + 1) (natBE 1 (u8 h (z + 1) % 128 + 128 * b2n (i + 1 == n)))
    let l := dL3 d
    if l = 0 ∨ u8 h l / 16 ≠ 4 then h
    else
      let body := dHdrLen d - l + len + 8 * b2n (dSeal d)
      let ihl := u8 h l % 16
      let h := putAt h (l + 2) (natBE 2 body)
      let h := if u8 h (l + 9) = 17 then putAt h (l + 4 * ihl + 4) (natBE 2 (body - 4 * ihl) ++ natBE 2 0) else h
      if dIpCsum d then
        let h := putAt h (l + 10) (natBE 2 0)
        putAt h (l + 10) (natBE 2 (ipSum (slice h l (4 * ihl))))
      else h

/-- A frame on the wire: header, slice, seal tag, padding to 60 bytes, FCS (R129). -/
def frameBytes (hdr pay tag : Bytes) : Bytes :=
  let b := hdr ++ pay ++ tag
  let b := b ++ List.replicate (60 - b.length) 0#8
  b ++ natLE 4 (crc32 b)

/-- Length of a frame, FCS included, of `n` bytes before padding. -/
def frameLen (n : Nat) : Nat := max 60 n + 4

/-- R130: the descriptor is malformed. -/
def State.descBad (s : State) (p : Nat) (d hdr : Bytes) : Bool :=
  let seg := if dSeg d then min (dMss d) (dPayLen d) else dPayLen d
  let ver := u8 hdr (dL3 d) / 16
  decide (dHdrLen d < 14) || decide (128 < dHdrLen d) || decide (16777216 < dPayLen d) || (dSeg d && dMss d == 0) ||
    decide (s.reg Od.maxFrame p < frameLen (dHdrLen d + seg + 8 * b2n (dSeal d))) ||
    (dL3 d != 0 && ver != 4 && ver != 6) || (dSeg d && dL3 d != 0 && ver == 6 && decide (dMss d < dPayLen d)) ||
    (dSeal d && dZh d == 0)

def State.template (s : State) (p : Nat) (d : Bytes) : Bytes := padTo (dHdrLen d) (kvGetD (dSlot d) [] (s.port p).templates)

/-! ## Choosing the next frame (R126, R132, R133, R110) -/

/-- A frame leaves gated (R125); the MGMT ports are never gated (R144). -/
def State.gatedDesc (s : State) (p : Nat) (d : Bytes) : Bool := decide (p < 24) && (s.role p == 2 || dGated d)

/-- A queue is paused (R141). -/
def State.paused (s : State) (p q : Nat) : Bool :=
  match kvGet q (s.port p).pause with | some (end_, _) => decide (s.now < end_) | none => false

/-- d_tx in whole ns, for the due instant of R109. -/
def State.dueAt (s : State) (p : Nat) (d : Bytes) : Nat := dLaunch d - s.txDelayPs p / 1000

/-- R110: the first segment cannot start by LAUNCH + LATE_WINDOW, or LAUNCH lies more than 1 s ahead (R109). -/
def State.descLate (s : State) (p : Nat) (d : Bytes) : Bool :=
  dLaunch d != 0 && (decide (dLaunch d + s.reg Od.lateWindow < s.now + s.txDelayPs p / 1000) || decide (s.now + 1000000000 < dLaunch d))

/-- Why the descriptor at the head of a queue ends without being sent, if it does. -/
def State.unsent (s : State) (p : Nat) (d : Bytes) : Option Nat :=
  if s.portRuns p = false ∨ s.role p = 0 then some txFlushed
  else if (s.port p).up = false then some txLinkDown
  else if s.descBad p d (s.template p d) then some txErrDesc
  else if s.gatedDesc p d ∧ s.gate = false then some txGated
  else if s.descLate p d ∧ s.reg Od.latePolicy = 0 then some txLateDropped
  else none

/-- Count a descriptor that ends unsent. -/
def State.countUnsent (s : State) (p : Nat) (d : Bytes) (st : Nat) : State :=
  if st = txErrDesc then (s.count Od.txDescErr 1 p).raiseOnce 0x2406 p (natBE 2 p ++ natBE 2 (dTag d))
  else if st = txGated then s.count Od.gateDrops 1 p
  else if st = txLateDropped then s.count Od.lateDrops 1 p
  else s

/-- End the heads of one queue that cannot be sent. -/
def State.drainQ (p q : Nat) : Nat → State → State
  | 0, s => s
  | n + 1, s =>
    if (s.port p).jobs.any (fun j => j.tc == q) then s
    else
      match s.headDesc p q with
      | none => s
      | some d =>
        match s.unsent p d with
        | none => s
        | some st =>
          let s := (s.readPound (s.txPound p q)).1
          let s := (s.countUnsent p d st).completeTx p { tc := q, desc := d, hdr := [], pay := [] } st
          State.drainQ p q n s

/-- Why the rest of a large send is not sent, if so (R123, R124, R126). -/
def State.jobEnds (s : State) (p : Nat) (j : TxJob) : Option Nat :=
  if s.portRuns p = false ∨ s.role p = 0 then some txFlushed
  else if (s.port p).up = false then some txLinkDown
  else if s.gatedDesc p j.desc ∧ s.gate = false then some txGated
  else none

def State.drainJobs (s : State) (p : Nat) : State :=
  (s.port p).jobs.foldl (fun s j =>
    match s.jobEnds p j with
    | none => s
    | some st => ((s.setPort p { s.port p with jobs := (s.port p).jobs.filter (fun k => k.tc != j.tc) }).countUnsent p j.desc st).completeTx p j st) s

/-- Every queue's unsendable heads ended. -/
def State.drainPort (s : State) (p : Nat) : State :=
  let s := if (s.port p).wire.isSome then s else s.drainJobs p
  (List.range 8).foldl (fun s q => State.drainQ p q ((s.pound (s.txPound p q)).entries.length + 1) s) s

/-- Bytes, FCS included, of the next frame of a queue: the next segment of a large send, or the head descriptor's first. -/
def State.nextLen (s : State) (p q : Nat) : Nat :=
  match (s.port p).jobs.find? (fun j => j.tc == q) with
  | some j => frameLen (dHdrLen j.desc + (segPay j.desc j.pay j.seg).length + 8 * b2n (dSeal j.desc))
  | none =>
    match s.headDesc p q with
    | some d => frameLen (dHdrLen d + (if dSeg d then min (dMss d) (dPayLen d) else dPayLen d) + 8 * b2n (dSeal d))
    | none => 0

/-- The queue the MAC serves next, by the six rules of R132. -/
def State.chooseQ (s : State) (p : Nat) : Option Nat :=
  let open_ := ((List.range 8).reverse).filter fun q => !s.paused p q
  let busy (q : Nat) : Bool := (s.port p).jobs.any fun j => j.tc == q
  let timed := open_.filterMap fun q => if busy q then none else
    match s.headDesc p q with | some d => if dLaunch d = 0 then none else some (q, d) | none => none
  let due := timed.filter fun qd => decide (s.dueAt p qd.2 ≤ s.now) || s.descLate p qd.2
  match due with
  | h :: t => some (t.foldl (fun m qd => if dLaunch qd.2 < dLaunch m.2 then qd else m) h).1
  | [] =>
    let plain := open_.filter fun q => busy q || (match s.headDesc p q with | some d => dLaunch d == 0 | none => false)
    plain.find? fun q =>
      let end_ := s.now + lineNs (s.portMbps p) (s.nextLen p q)
      timed.all fun qd => decide (end_ ≤ s.dueAt p qd.2)

/-- Take the head descriptor of a queue as a job. -/
def State.takeJob (s : State) (p q : Nat) : State × Option TxJob :=
  match (s.port p).jobs.find? (fun j => j.tc == q) with
  | some j => (s, some j)
  | none =>
    match s.headDesc p q with
    | none => (s, none)
    | some d =>
      let late := s.descLate p d
      let s := if late then s.count Od.lateSent 1 p else s
      let j : TxJob := { tc := q, desc := d, hdr := s.template p d, pay := memRead (dAddr d) (dPayLen d) s.net.basin
                         late := late, start := s.now + s.txDelayPs p / 1000 }
      ((s.readPound (s.txPound p q)).1, some j)

/-- The timestamp queue entry of a frame that starts now (R103, R107). -/
def State.txStamp (s : State) (p : Nat) (j : TxJob) : Bytes :=
  natBE 2 (dTag j.desc) ++ natBE 1 (128 * b2n j.late + 64 * s.reg Od.select + 32 * s.trimGen) ++ natBE 1 p ++
    captureRec (s.nowPs + s.txDelayPs p)

/-- Put the next segment of a job on the wire (R129, R131, R304). -/
def State.startFrame (s : State) (p : Nat) (j : TxJob) : State :=
  let pay := segPay j.desc j.pay j.seg
  let hdr := segHdr j.desc j.hdr j.seg pay.length
  let zh := hdr.drop (dZh j.desc)
  let last := j.seg + 1 == segCount j.desc
  let stamp := if dTsReq j.desc && j.seg == 0 then some (s.txStamp p j) else none
  let put (s : State) (j : TxJob) (tag : Bytes) : State :=
    let x := s.port p
    s.setPort p { x with wire := some { job := j, bytes := frameBytes hdr pay tag, gated := s.gatedDesc p j.desc, last := last, stamp := stamp }
                         jobs := x.jobs.filter (fun k => k.tc != j.tc) ++ [j] }
  if dSeal j.desc then
    match s.sealKey zh j.key with
    | (s, some k) => (put s { j with key := some k } (sealTag k zh pay false)).countSealed (u16 zh 2) (u8 zh 1 % 16) (u32 zh 12)
    | (s, none) => (s.endJob p j).completeTx p { j with start := if j.seg = 0 then 0 else j.start } txAborted
  else put s j []

/-! ## Datagrams of Cloyr's blocks (R127; the headers of the standards, log entry 20) -/

/-- The Ethernet group address of an IP group address. -/
def groupMac (a : Nat) : Nat :=
  if a / 2 ^ 32 = 0xFFFF then 0x01005E000000 + a % 2 ^ 23 else 0x333300000000 + a % 2 ^ 32

def isGroupIp (a : Nat) : Bool := (a / 2 ^ 32 == 0xFFFF && a % 2 ^ 32 / 2 ^ 28 == 14) || a / 2 ^ 120 == 0xFF

/-- Carry a datagram from one of Cloyr's ports to a UDP destination over IPv4 or IPv6, with the Ethernet address the
destination answers to (log entry 20). -/
def udpCarrier (p dst dport sport len : Nat) : Bytes × Nat :=
  let mac := if isGroupIp dst then groupMac dst else Config.macOf p dst
  let eth := natBE 6 mac ++ natBE 6 (Config.baseMac + p)
  let udp := natBE 2 sport ++ natBE 2 dport ++ natBE 2 (8 + len) ++ natBE 2 0
  if dst / 2 ^ 32 = 0xFFFF then
    let h := natBE 1 0x45 ++ natBE 1 (Config.ipOpen p 0) ++ natBE 2 (28 + len) ++ natBE 4 (Config.ipOpen p 1) ++
      natBE 1 (Config.ipOpen p 2) ++ natBE 1 17 ++ natBE 2 0 ++ natBE 4 (Config.ownIpv4 p) ++ natBE 4 dst
    (eth ++ natBE 2 0x0800 ++ putAt h 10 (natBE 2 (ipSum h)) ++ udp, 14)
  else
    (eth ++ natBE 2 0x86DD ++ natBE 1 0x60 ++ natBE 3 (Config.ipOpen p 3) ++ natBE 2 (8 + len) ++ natBE 1 17 ++
      natBE 1 (Config.ipOpen p 2) ++ natBE 16 (Config.ownIpv6 p) ++ natBE 16 dst ++ udp, 0)

/-- The OD server, the towpath and the aqueduct write the descriptors of their messages for a port (R127), never GATED (R125), in queue 0
(log entry 133). -/
def State.postMessages (s : State) (p : Nat) : State :=
  let mine := s.od.outbox.filter fun m => m.dst.port == p
  let s := { s with od := { s.od with outbox := s.od.outbox.filter fun m => m.dst.port != p } }
  mine.foldl (fun (s : State) m =>
    let (hdr, l3) := udpCarrier p m.dst.addr m.dst.udp m.sport m.bytes.length
    s.submitTx p { tc := 0, hdr := hdr, pay := m.bytes, l3 := l3 }) s

/-- TX_SELECT (R132): at a frame boundary. A lane whose partner signals remote fault sends idles alone (R120). -/
def execTxSelect (dt port : Nat) (s : State) : Host.Outcome State Fault Refusal :=
  let t := s.advance dt
  finish s (
    if 26 ≤ port ∨ t.alive = false ∨ (t.port port).wire.isSome then t
    else
      let t := (t.postMessages port).drainPort port
      match (if t.rsSends port = 0 then t.chooseQ port else none) with
      | none => t
      | some q =>
        match t.takeJob port q with
        | (t, some j) => t.startFrame port j
        | (t, none) => t)

/-! ## Timestamp queues (R107, R108) -/

def State.tsq (s : State) (p : Nat) : List Bytes := kvGetD p [] s.tm.tsq

def State.setTsq (s : State) (p : Nat) (l : List Bytes) : State :=
  let s := { s with tm := { s.tm with tsq := kvSet p l s.tm.tsq } }
  (s.setReg Od.tsqLevel l.length p).setReg Od.tsqMax (max l.length (s.reg Od.tsqMax p)) p

/-- A capture joins its queue, or is discarded (R108). -/
def State.pushTsq (s : State) (p : Nat) (e : Bytes) : State :=
  let l := s.tsq p
  if l.length < 64 then s.setTsq p (l ++ [e])
  else
    let was := s.reg Od.tsqOvf p
    let s := (s.count Od.tsqLost 1 p).setReg Od.tsqOvf 1 p
    if was = 0 then s.raise 0x2006 (natBE 2 p) else s

/-- TX_FRAME_DONE (R134): the frame on the wire is sent in full. -/
def State.frameDone (s : State) (p : Nat) (w : TxFrame) : State :=
  let j := { w.job with sent := w.job.sent + 1, seg := w.job.seg + 1 }
  let s := (s.count Od.txFrames 1 p).count Od.txBytes w.bytes.length p
  let s := { s with net := { s.net with wires := (p, w.bytes) :: s.net.wires } }
  let s := match w.stamp with | some e => s.pushTsq p e | none => s
  if w.last then (s.endJob p j).completeTx p j (if j.late then txSentLate else txSent)
  else
    let x := s.port p
    s.setPort p { x with wire := none, jobs := x.jobs.map fun k => if k.tc = j.tc then j else k }

def execTxFrameDone (dt port : Nat) (s : State) : Host.Outcome State Fault Refusal :=
  let t := s.advance dt
  finish s (match (t.port port).wire with
    | some w => if 26 ≤ port then t else t.frameDone port w
    | none => t)

/-! ## Flushing (R111, R124) -/

/-- Complete a list of queued descriptors with one status. -/
def State.completeAll (s : State) (p q st : Nat) (es : List PEntry) : State :=
  es.foldl (fun s e => s.completeTx p { tc := q, desc := e.data, hdr := [], pay := [] } st) s

/-- R124: the lane's transmit pounds are emptied, each descriptor FLUSHED; jobs in progress end the same way. -/
def State.flushPort (s : State) (p : Nat) : State :=
  let jobs := (s.port p).jobs
  let s := s.setPort p { s.port p with wire := none, jobs := [] }
  let s := jobs.foldl (fun s j => s.completeTx p j txFlushed) s
  (List.range 8).foldl (fun s q =>
    let n := s.txPound p q
    let es := (s.pound n).entries
    (s.emptyPound n).completeAll p q txFlushed es) s

/-- A step of device time drops every timed frame waiting in any port (R111). -/
def State.flushTimed (s : State) : State :=
  (List.range 26).foldl (fun s p => (List.range 8).foldl (fun s q =>
    let n := s.txPound p q
    let x := s.pound n
    let gone := x.entries.filter fun e => dLaunch e.data != 0
    if gone.isEmpty then s
    else
      let credits := gone.foldl (fun c e => modAt c e.producer (· + 1)) x.credits
      let y : Pound := { x with entries := x.entries.filter (fun e => dLaunch e.data == 0), credits := credits }
      let s := (s.setPound n y.resize).watermark n
      (s.count Od.stepFlushed gone.length).completeAll p q txStepFlushed gone) s) s

/-! ## Links (R123, R143) -/

/-- The link is up. -/
def State.linkRaise (s : State) (p speed : Nat) : State :=
  let s := s.setPort p { s.port p with up := true, speed := speed }
  let s := (s.setReg Od.linkState 1 p).setReg Od.linkSpeed (s.speedCode p) p
  s.raise 0x2401 (natBE 2 p ++ natBE 1 (s.speedCode p))

/-- The link goes down: the frame in transmission ends LINK_DOWN (R123). -/
def State.linkDrop (s : State) (p : Nat) : State :=
  let x := s.port p
  if x.up = false then s
  else
    let s := s.setPort p { x with up := false, remoteFault := false, speed := 0, wire := none }
    let s := match x.wire with
      | some w => (s.setPort p { s.port p with jobs := x.jobs.filter (fun k => k.tc != w.job.tc) }).completeTx p w.job txLinkDown
      | none => s
    (((s.setReg Od.linkState 0 p).setReg Od.linkSpeed 0 p).count Od.linkDowns 1 p).raise 0x2402 (natBE 2 p)

/-- MGMT_SPEED of a MGMT port. -/
def State.mgmtSpeed (s : State) (p : Nat) : Nat := if p = 24 then s.reg Od.mgmt0Speed else s.reg Od.mgmt1Speed

/-- LINK_UP: the PCS holds its lock and there is no local fault; `link.remote` tells whether the partner signals remote fault, which a link that
is up may take up or lose (R120, R123). A MGMT port in AUTO comes up by in-band status alone (R143). -/
def execLinkUp (dt : Nat) (link : LinkReport) (s : State) : Host.Outcome State Fault Refusal :=
  let t := s.advance dt
  let port := link.port
  finish s (
    if 26 ≤ port ∨ t.portRuns port = false ∨ (24 ≤ port ∧ t.mgmtSpeed port = 0) then t
    else
      let t := t.setPort port { t.port port with remoteFault := link.remote }
      if (t.port port).up then t else t.linkRaise port (if port < 24 then 0 else t.mgmtSpeed port))

def execLinkDown (dt port : Nat) (s : State) : Host.Outcome State Fault Refusal :=
  let t := s.advance dt
  finish s (if 26 ≤ port then t else t.linkDrop port)

/-- MGMT_INBAND_STATUS: link, speed and duplex from the PHY; half duplex is link down (R143). -/
def execMgmtInbandStatus (dt port : Nat) (up : Bool) (speed : Nat) (fullDuplex : Bool) (s : State) : Host.Outcome State Fault Refusal :=
  let t := s.advance dt
  let ok := up && fullDuplex && (speed == 1 || speed == 2)
  finish s (
    if ¬(port = 24 ∨ port = 25) ∨ t.portRuns port = false ∨ t.mgmtSpeed port ≠ 0 then t
    else if ok then
      (if (t.port port).up then
        (if (t.port port).speed = speed then t else (t.linkDrop port).linkRaise port speed)
       else t.linkRaise port speed)
    else t.linkDrop port)

/-- A written MGMT_SPEED takes effect (R143): in AUTO the port counts as down until in-band status reports; a fixed speed is in force at
once on a link that is up (log entry 134). -/
def State.mgmtSpeedSet (s : State) (p v : Nat) : State :=
  if v = 0 then s.linkDrop p
  else if (s.port p).up then (s.setPort p { s.port p with speed := v }).setReg Od.linkSpeed v p
  else s

/-- A port is disabled, or its domain goes off (R107, R124): pounds flushed, timestamp queue emptied, link down. -/
def State.stopPort (s : State) (p : Nat) : State :=
  let s := s.linkDrop p
  let s := s.flushPort p
  s.setPort p { s.port p with pause := [], ignoreUntil := none }

/-- A lane's network domain goes off: its timestamp queues are emptied, uncounted (R107). -/
def State.netDomainOff (s : State) (d : Nat) : State :=
  ((List.range 24).filter fun p => portDomain p == d).foldl (fun s p => (s.stopPort p).setTsq p []) s

/-! ## PAUSE and PFC (R141, R142) -/

/-- The port honours PAUSE (R121, R141). -/
def State.honours (s : State) (p : Nat) : Bool :=
  match s.reg Od.pauseHonour p with
  | 0 => false
  | 1 => true
  | _ => p ≥ 24 || s.role p == 1 || s.role p == 3

/-- Set the quanta of one queue; a continuous pause keeps its start (R141, R142). -/
def State.pauseQ (s : State) (p q quanta : Nat) : State :=
  let x := s.port p
  if quanta = 0 then s.setPort p { x with pause := kvDel q x.pause }
  else
    let start := match kvGet q x.pause with | some (e, st) => if s.now ≤ e then st else s.now | none => s.now
    s.setPort p { x with pause := kvSet q (s.now + ceilDiv (quanta * 512 * 1000) (s.portMbps p), start) x.pause }

/-- A MAC control frame: counted, and honoured where it is (R141). -/
def State.macControl (s : State) (p : Nat) (b : Bytes) : State :=
  let op := u16 b 14
  let deaf := match (s.port p).ignoreUntil with | some t => decide (s.now < t) | none => false
  let act := s.honours p && !deaf
  if op = 0x0001 then
    let s := s.count Od.pauseRx 1 p
    if act then (List.range 8).foldl (fun s q => s.pauseQ p q (u16 b 16)) s else s
  else if op = 0x0101 then
    let s := s.count Od.pfcRx 1 p
    if act then (List.range 8).foldl (fun s q =>
      if bit (u16 b 16) q && bit (s.reg Od.pfcEn p) q then s.pauseQ p q (u16 b (18 + 2 * q)) else s) s else s
  else s

/-- PAUSE_EXPIRE (R141): the pause of a queue runs out; late heads are handled (R110). -/
def execPauseExpire (port tc : Nat) (s : State) : Host.Outcome State Fault Refusal :=
  finish s (match kvGet tc (s.port port).pause with
    | some (e, _) =>
      if 26 ≤ port ∨ s.alive = false then s
      else
        let t := s.goTo e
        let t := t.setPort port { t.port port with pause := kvDel tc (t.port port).pause }
        t.drainPort port
    | none => s)

/-- PAUSE_OVERRIDE (R142): a queue held for PAUSE_LIMIT; pause ends and is then ignored for PAUSE_LIMIT. -/
def execPauseOverride (port tc : Nat) (s : State) : Host.Outcome State Fault Refusal :=
  finish s (match kvGet tc (s.port port).pause with
    | some (e, st) =>
      let limit := s.reg Od.pauseLimit port * 1000
      if 26 ≤ port ∨ s.alive = false ∨ e < st + limit then s
      else
        let t := s.goTo (st + limit)
        let held := (t.port port).pause.foldl (fun m q => if t.now < q.2.1 then setBit m q.1 else m) (setBit 0 tc)
        let t := t.setPort port { t.port port with pause := [], ignoreUntil := some (t.now + limit) }
        (t.count Od.pauseOverrides 1 port).raise 0x2404 (natBE 2 port ++ natBE 1 held)
    | none => s)

/-- PAUSE_IGNORE_END (R142). -/
def execPauseIgnoreEnd (port : Nat) (s : State) : Host.Outcome State Fault Refusal :=
  finish s (match (s.port port).ignoreUntil with
    | some t =>
      if 26 ≤ port then s
      else
        let s := s.goTo t
        s.setPort port { s.port port with ignoreUntil := none }
    | none => s)

/-! ## TSQ delivery, for blocks that asked: see Time.lean and Link.lean -/

end Sys2Proof.Machine
end

