-- ==== Sys2Proof/Machine/Strings.lean ====
section
/-!
DEFINITION. Strings, sensors and lamp heat (spec/14).
-/
namespace Sys2Proof.Machine

/-- The STRING_CFG record of STn: its default has VSENSE 16 + n for ST0–ST7 (R356). -/
def stringCfg (st : Store) (n : Nat) : Bytes :=
  match kvGet (Od.stringCfg.key + n) st.tabs with
  | some b => padTo 32 b
  | none =>
    natBE 2 0 ++ natBE 2 500 ++ natBE 2 8192 ++ natBE 2 6554 ++ natBE 2 2048 ++ natBE 2 256 ++ natBE 2 0 ++ natBE 2 58982 ++
      natBE 2 6554 ++ natBE 2 410 ++ natBE 2 0 ++ natBE 2 1311 ++ natBE 1 (if n < 8 then 16 + n else 0xFF) ++ natBE 1 0 ++
      natBE 2 1000 ++ natBE 4 0

/-- The group and channel that bind a controller (R343). -/
def stringBinding (st : Store) (n : Nat) : Option (Nat × Nat) :=
  ((st.recs Od.stringGroup).zipIdx.findSome? fun (r, g) =>
    ((List.range (u8 r 0)).find? fun c => u8 r (1 + c) == n).map fun c => (g, c))

/-- S: the length of a dimming period in steps of 1.25 ns (R344). -/
def periodSteps (p : Nat) : Nat := p * 4 / 5

/-- on_steps of R344. -/
def onSteps (steps x full : Nat) : Nat := (x * steps + full / 2) / full

/-- The setpoint after g and f (R344). -/
def scaledSp (sp g f : Nat) : Nat := (min ((sp * g + 16384) / 32768) 65535 * f + 16384) / 32768

/-- i_ref and the on-time for a setpoint after g and f (R344). -/
def drivePulse (cfg : Bytes) (sp steps : Nat) : Nat × Nat :=
  let full := u16 cfg 4
  let split := u16 cfg 6
  match u8 cfg 1 with
  | 0 => (full, onSteps steps sp 65535)
  | 1 => ((sp * full + 32767) / 65535, if 0 < sp then steps else 0)
  | _ =>
    if split ≤ sp then ((sp * full + 32767) / 65535, steps)
    else ((split * full + 32767) / 65535, onSteps steps sp split)

/-- Start instant of dimming period m of the tick period that starts at tick `k`, and its length in ns (R345). -/
def dimPeriod (rate periods k m : Nat) : Nat × Nat :=
  let t := tickTime rate k
  let len := tickTime rate (k + 1) - t
  (t + m * len / periods, (m + 1) * len / periods - m * len / periods)

/-- The first dimming period from (k, m) on that starts at or after `from_`. -/
def firstPeriod (rate periods from_ : Nat) : Nat → Nat → Nat → Nat × Nat
  | 0, k, m => (k, m)
  | fuel + 1, k, m =>
    if from_ ≤ (dimPeriod rate periods k m).1 then (k, m)
    else firstPeriod rate periods from_ fuel (if m + 1 < periods then k else k + 1) (if m + 1 < periods then m + 1 else 0)

/-- The soft start (R347). -/
def StringSt.softStart (c : StringSt) (cfg : Bytes) : StringSt :=
  { c with acc := (u16 cfg 16 : Int) * 16384, duty := min (max (u16 cfg 16) (u16 cfg 12)) (u16 cfg 14), soft := false }

/-- One sample through the current loop (R347). -/
def StringSt.loop (c : StringSt) (cfg : Bytes) (code : Nat) : StringSt :=
  let e : Int := (c.iRef : Int) - (code : Int)
  let lo := u16 cfg 12
  let hi := u16 cfg 14
  let pushed := (decide (0 < e) && c.duty == hi) || (decide (e < 0) && c.duty == lo)
  let acc := if pushed then c.acc else clampI (-1073741824) 1073741823 (c.acc + (u16 cfg 10 : Int) * e)
  let duty := (min (max ((acc + (u16 cfg 8 : Int) * e + 8192) / 16384) (lo : Int)) (hi : Int)).toNat
  { c with acc := acc, duty := duty, iMeas := code, untested := true }

/-- High time of LPnA in steps (R347). -/
def highSteps (cfg : Bytes) (duty : Nat) : Nat := (duty * (800000 / max (u16 cfg 2) 1) + 32768) / 65536

/-- The result of a test on the last valid sample: 0 CLEAN, 1 OPEN, 2 SHORT (R348). -/
def StringSt.test (c : StringSt) (cfg : Bytes) : Nat :=
  if c.iMeas < u16 cfg 18 then 1
  else if u8 cfg 24 ≠ 0xFF then (if c.vMeas < u16 cfg 20 then 2 else 0)
  else if c.duty < u16 cfg 22 then 2 else 0

def State.str (s : State) (n : Nat) : StringSt := s.strs.ctl.getD n {}

def State.setStr (s : State) (n : Nat) (c : StringSt) : State := { s with strs := { s.strs with ctl := setAt s.strs.ctl n c } }

def State.strGroup (s : State) (g : Nat) : StringGroup := s.strs.groups.getD g {}

def State.setStrGroup (s : State) (g : Nat) (x : StringGroup) : State :=
  { s with strs := { s.strs with groups := setAt s.strs.groups g x } }

/-- Entry to OPEN, SHORT or STAGE: both outputs low, a retry after RETRY_PERIOD (R349). -/
def State.stringFault (s : State) (n st : Nat) : State :=
  let c := s.str n
  let s := s.setStr n { c with state := st, opens := 0, shorts := 0, steps := 0, steps2 := 0, untested := false, measure := none,
                               pinA := 0, pinB := 0, retryAt := s.now + s.reg Od.retryPeriod * 1000000 }
  (s.count (if st = 3 then Od.stageFaults else Od.stringFaults)).raise 0x6401 (natBE 2 n ++ natBE 1 st)

/-- A burst's first pulse is tested by itself (R348, R351); what its period's end gives is not changed by that. -/
def State.keepGives (s : State) (n : Nat) (g : Bool) : State := s.setStr n { s.str n with gives := g }

/-- Count one test while the controller is OK (R349). -/
def State.stringTest (s : State) (n : Nat) : State :=
  let c := s.str n
  if c.state ≠ 0 ∨ c.untested = false ∨ c.gives = false then s
  else
    let r := c.test (stringCfg s.tl.pres n)
    let c := { c with untested := false, opens := if r = 1 then c.opens + 1 else 0, shorts := if r = 2 then c.shorts + 1 else 0 }
    let s := s.setStr n c
    if s.reg Od.faultConfirm ≤ c.opens then s.stringFault n 1
    else if s.reg Od.faultConfirm ≤ c.shorts then s.stringFault n 2 else s

/-- The pulses of one dimming period (R344–R351): reference, first edge and length in steps, second edge and length. -/
structure PeriodPlan where
  iRef : Nat
  rise : Nat
  steps : Nat
  rise2 : Nat := 0
  steps2 : Nat := 0
  probe : Bool := false
  /-- a light-sensor burst of `n` channels at `w` ns a window; the remainder was cut -/
  burst : Bool := false
  clipped : Bool := false
  deriving DecidableEq, Repr

/-- Plan period m of tick k of controller n: start `t0`, length `p` ns; `longest` is the longest period of the tick, so that no pulse of
the tick gives a test where one of that length would give none (R348). -/
def planPeriod (st : Store) (c : StringSt) (n k m t0 p longest : Nat) : PeriodPlan :=
  let most := match c.setpoint with
    | none => 0
    | some sp => (drivePulse (stringCfg st n) (scaledSp sp c.g c.f) (periodSteps longest)).2
  let cfg := stringCfg st n
  let s := periodSteps p
  let (iref, on) := match c.setpoint with
    | none => (u16 cfg 4, 0)
    | some sp => drivePulse cfg (scaledSp sp c.g c.f) s
  let edge := t0 - c.don
  let whole := u8 cfg 1 != 0 && decide (s ≤ on)
  let live := c.state == 0 && c.setpoint.isSome
  let probe := live && m == 0 && (k + n) % 64 == 0 && decide (most < 1600) && !whole
  let iref := if probe then u16 cfg 4 else iref
  let on := if probe then 1600 else if live then on else 0
  let w := st.num Od.wSense
  match stringBinding st n with
  | some (g, ch) =>
    let r := slice (st.tab Od.stringGroup) (8 * g) 8
    if m = 0 ∧ u8 r 5 ≠ 0xFF ∧ (k + st.num Od.senseEvery - g % st.num Od.senseEvery) % st.num Od.senseEvery = 0 then
      let ws := w * 4 / 5
      let b := min on ws
      let from_ := (u8 r 0 + 1) * w
      let room := s - from_ * 4 / 5
      let rem := on - b
      { iRef := iref, rise := edge + (ch + 1) * w, steps := b, rise2 := edge + from_, steps2 := min rem room, probe := probe
        burst := true, clipped := decide (room < rem) }
    else { iRef := iref, rise := edge, steps := on, probe := probe }
  | none => { iRef := iref, rise := edge, steps := on, probe := probe }

/-- The settings of the tick that period or scan 0 opens: those of the frame due at tick `k` while it is still in flight (R347),
else those presented. -/
def State.periodCfg (s : State) (k : Nat) : Store :=
  let rate := s.gridRate
  match s.tl.frames.find? fun f => f.rate == rate && f.old == (rate != s.tl.rate) && !f.skipped && f.k + f.cfg.num Od.presentDelay == k with
  | some f => f.cfg
  | none => s.tl.pres

/-- Tick and number of the dimming period that STn starts next (R345): its edge, d_on before its start, has not passed. -/
def State.nextPeriod (s : State) (n : Nat) : Nat × Nat :=
  let c := s.str n
  let periods := s.tl.pres.num Od.dimPeriods
  firstPeriod s.gridRate periods (max (s.now + c.don) c.after) (2 * periods + 2) (tickFrom s.gridRate s.now - 1) 0

/-- The instant and length of that period: its edges come d_on early (R345). -/
def State.periodAt (s : State) (km : Nat × Nat) : Nat × Nat :=
  dimPeriod s.gridRate ((s.periodCfg km.1).num Od.dimPeriods) km.1 km.2

/-- A controller that comes up: fresh counts, the soft start, and OFF where its group's lamp heat holds it off (R347, R354). -/
def State.enableStr (s : State) (st : Store) (n : Nat) (c : StringSt) : StringSt :=
  if c.enabled then c
  else
    let off := match stringBinding st n with | some (g, _) => (s.strGroup g).off | none => false
    { c with enabled := true, soft := true, donCount := 0, dons := [], measure := none, state := if off then 4 else 0, before := 0, opens := 0, shorts := 0 }

/-- A group's lamp heat sends its controllers to OFF from their next dimming period (R354); a controller whose group is not off returns. -/
def State.heatStr (s : State) (st : Store) (n : Nat) (c : StringSt) : StringSt :=
  let off := match stringBinding st n with | some (g, _) => (s.strGroup g).off | none => false
  if off && c.state != 4 then { c with before := c.state, state := 4, measure := none }
  else if !off && c.state == 4 then { c with state := c.before }
  else c

/-- End of a pulse of `steps` from `rise`, in quarters of a nanosecond. -/
def pulseEnd (rise steps : Nat) : Nat := 4 * rise + 5 * steps

/-- The rising edge of the period's first pulse of 4 µs or more (R346). A pulse that follows another within a step has no edge. -/
def StringSt.longEdge (c : StringSt) (p : PeriodPlan) : Option Nat :=
  let follows := c.pinB == 1 && decide (4 * p.rise < pulseEnd c.rise c.steps + 5) && decide (0 < c.steps)
  if 3200 ≤ p.steps && !follows then some p.rise else if 3200 ≤ p.steps2 then some p.rise2 else none

/-- DIM_PERIOD_START (R345–R349): the next period of STn begins. -/
def execDimPeriodStart (str : Nat) (s : State) : Host.Outcome State Fault Refusal :=
  let (k, m) := s.nextPeriod str
  let (t0, p) := s.periodAt (k, m)
  let st := s.periodCfg k
  let cfg := stringCfg st str
  let rate := s.gridRate
  finish s (
    if 16 ≤ str ∨ u8 cfg 0 ≠ 1 ∨ s.domOn 10 = false ∨ s.gate = false then s
    else
      let s := s.stringTest str
      let s := s.goTo (t0 - (s.str str).don)
      let c := s.enableStr st str (s.str str)
      let c := if c.soft then c.softStart cfg else c
      let c := s.heatStr st str c
      let plan := planPeriod st c str k m t0 p (ceilDiv (tickTime rate (k + 1) - tickTime rate k) (max (st.num Od.dimPeriods) 1))
      let gives := decide (1600 ≤ (if plan.steps2 = 0 then plan.steps else plan.steps2)) || u8 cfg 1 == 1 || (u8 cfg 1 == 2 && decide (periodSteps p ≤ plan.steps))
      let edge := if (k + str) % 64 = 32 ∧ c.donTick ≠ some k ∧ u8 cfg 1 ≠ 1 then c.longEdge plan else none
      let c := match edge with
        | some e => { c with donTick := some k, measure := some { edge := e } }
        | none => c
      let c := { c with iRef := plan.iRef, rise := plan.rise, steps := plan.steps, rise2 := plan.rise2, steps2 := plan.steps2,
                        gives := gives, untested := false
                        pinA := if c.state = 0 then 1 else 0
                        pinB := if plan.steps = 0 ∧ plan.steps2 = 0 then 0 else 1
                        after := t0 + 1 }
      let s := s.setStr str c
      let s := if plan.clipped then s.count Od.senseClips else s
      match stringBinding st str with
      | some (g, ch) =>
        if plan.burst then
          let x := s.strGroup g
          let r := slice (st.tab Od.stringGroup) (8 * g) 8
          s.setStrGroup g { x with burst := some (setAt (x.burst.getD [0, 0, 0, 0]) ch plan.steps)
                                   burstEnd := t0 + (u8 r 0 + 1) * st.num Od.wSense }
        else s
      | none => s)

/-- A measurement's 4 µs hold the instant. -/
def DonMeasure.holds (m : DonMeasure) (now : Nat) : Bool := decide (m.edge ≤ now) && decide (now < m.edge + 4000)

/-- Another string measures on the converter of STn: STn keeps its last sample (R346, R342). -/
def State.converterTaken (s : State) (n : Nat) : Bool :=
  (List.range 8).any fun i =>
    let j := n / 8 * 8 + i
    j != n && (match (s.str j).measure with | some m => m.holds s.now | none => false)

/-- A value of d_on joins the last 8 (R346). -/
def StringSt.takeDon (c : StringSt) (v : Nat) : StringSt := { c with dons := pushLast 8 c.dons v, donCount := c.donCount + 1 }

/-- A sample within the 4 µs of a measurement: the crossing of i_ref ÷ 2 is interpolated between it and the sample before, to the nearest
ns (R346). A crossing before the first sample is open within the time that sample leaves. -/
def StringSt.sampleDon (c : StringSt) (n now code : Nat) : StringSt :=
  match c.measure with
  | none => c
  | some m =>
    if m.done || !m.holds now then c
    else if c.iRef ≤ 2 * code then
      let v : Nat := match m.last with
        | none => Config.donMeasure n c.donCount (now - m.edge) % (now - m.edge + 1)
        | some (t, c0) => t - m.edge + (divRound (((now - t) * (c.iRef - 2 * c0) : Nat) : Int) (2 * (code - c0))).toNat
      { (c.takeDon v) with measure := some { m with last := some (now, code), done := true } }
    else { c with measure := some { m with last := some (now, code) } }

/-- CURRENT_SAMPLE (R346–R348): a sample within a pulse, 1 µs after its rising edge, moves the loop; the last sample of a
pulse gives its test; those of a measurement's 4 µs find the turn-on delay. -/
def execCurrentSample (dt str code vcode : Nat) (s : State) : Host.Outcome State Fault Refusal :=
  let t := s.advance dt
  let cfg := stringCfg t.tl.pres str
  finish s (
    if 16 ≤ str ∨ 16383 < code ∨ 16383 < vcode ∨ u8 cfg 0 ≠ 1 ∨ t.domOn 10 = false ∨ t.gate = false ∨ (t.str str).state ≠ 0 ∨ t.converterTaken str then t
    else
      let c := (t.str str).sampleDon str t.now code
      let t := t.setStr str c
      let inPulse (rise steps : Nat) : Bool := decide (rise + 1000 ≤ t.now) && decide (4 * t.now < 4 * rise + 5 * steps)
      let lastOf (rise steps : Nat) : Bool := inPulse rise steps && decide (4 * rise + 5 * steps ≤ 4 * (t.now + 1000))
      if inPulse c.rise c.steps || inPulse c.rise2 c.steps2 then
        let c := { (c.loop cfg code) with vMeas := vcode }
        let t := t.setStr str c
        if (lastOf c.rise c.steps && c.steps2 == 0) || lastOf c.rise2 c.steps2 then t.stringTest str
        else if lastOf c.rise c.steps && decide (1600 ≤ c.steps) then
          ((t.setStr str { c with gives := true }).stringTest str).keepGives str c.gives
        else t
      else t)

/-- STAGE_FAULT (R349, R350): LPnC low for 1 µs stops the stage. -/
def execStageFault (dt str : Nat) (s : State) : Host.Outcome State Fault Refusal :=
  let t := s.advance dt
  finish s (
    if 16 ≤ str ∨ t.domOn 10 = false ∨ u8 (stringCfg t.tl.pres str) 0 ≠ 1 then t
    else if (t.str str).state = 0 then t.stringFault str 3
    else t.setStr str { t.str str with pinA := 0, pinB := 0, steps := 0, steps2 := 0 })

/-- STRING_RETRY (R349): one 2 µs pulse at I_FULL from the soft start, and its test. -/
def execStringRetry (str code vcode : Nat) (s : State) : Host.Outcome State Fault Refusal :=
  let cfg := stringCfg s.tl.pres str
  let c := s.str str
  finish s (
    if 16 ≤ str ∨ s.domOn 10 = false ∨ s.gate = false ∨ u8 cfg 0 ≠ 1 ∨ ¬(1 ≤ c.state ∧ c.state ≤ 3) then s
    else
      let u := s.goTo c.retryAt
      let t := u.goTo ((u.periodAt (u.nextPeriod str)).1 - c.don)
      let c : StringSt := { (({ c with iRef := u16 cfg 4 } : StringSt).softStart cfg).loop cfg code with vMeas := vcode }
      let c := { c with untested := false, soft := true, retryAt := u.now + t.reg Od.retryPeriod * 1000000 }
      if c.test cfg = 0 then
        (t.setStr str { c with state := 0, opens := 0, shorts := 0 }).raise 0x6402 (natBE 2 str)
      else (t.setStr str c).count Od.retryFails)

/-! ## The light-sensor loop (R351, R352) -/

/-- m_c of R351 in 1/16 code. -/
def senseValue (dark lit : Nat × Nat) : Int :=
  if lit.2 = 0 ∨ dark.2 = 0 then 0
  else (16 * (lit.1 : Int) * dark.2 - 16 * (dark.1 : Int) * lit.2) / ((lit.2 * dark.2 : Nat) : Int)

/-- The step of G after `dt` ns (R352). -/
def gainStep (rate dt : Nat) : Nat := rate * 2147483648 * dt / 100000000000000

/-- G after a measurement (R352). -/
def gainNext (g target step : Nat) : Nat := if g < target then min (g + step) target else max (g - step) target

/-- The target of R352 before its shift. -/
def gainTarget (ref m gMin gMax : Nat) : Nat := min (max (if m = 0 then Config.senseQuotient ref else ref * 32768 / m) gMin) gMax

/-- One channel of a burst. -/
def State.senseChannel (s : State) (g ch sensor lit : Nat) (m : Int) : State :=
  let x := s.strGroup g
  if lit < s.tl.pres.num Od.wSense * 4 / 5 ∨ m < (s.reg Od.senseMin : Int) then s.count Od.senseMissed
  else if x.capture.getD ch false then
    let off := (sensor * 4 + ch) * 4
    let t := padTo 64 (s.regTab Od.senseRef)
    let s := s.setRegTab Od.senseRef (t.take off ++ natBE 4 m.toNat ++ t.drop (off + 4))
    let s := s.noteJournal Od.senseRef.key (.tab (s.regTab Od.senseRef))
    s.setStrGroup g { x with gain := setAt x.gain ch 2147483648, lastUpdate := setAt x.lastUpdate ch s.now
                             capture := setAt x.capture ch false }
  else
    let gMin := s.reg Od.gMin
    let gMax := s.reg Od.gMax
    let t := gainTarget (u32 (padTo 64 (s.regTab Od.senseRef)) ((sensor * 4 + ch) * 4)) m.toNat gMin gMax
    let step := gainStep (s.reg Od.loopRate) (s.now - x.lastUpdate.getD ch 0)
    let limit := t == gMin || t == gMax
    let s' := s.setStrGroup g { x with gain := setAt x.gain ch (gainNext (x.gain.getD ch 0) (t * 65536) step)
                                       lastUpdate := setAt x.lastUpdate ch s.now, atLimit := setAt x.atLimit ch limit }
    if limit && !(x.atLimit.getD ch false) then s'.raise 0x6407 (natBE 2 g ++ natBE 1 ch ++ natBE 4 t) else s'

/-- SENSE_BURST_DONE (R351, R352): sums and counts of the dark window and of each lit window. -/
def execSenseBurstDone (group : Nat) (dark : Nat × Nat) (lit : List (Nat × Nat)) (s : State) :
    Host.Outcome State Fault Refusal :=
  let x := s.strGroup group
  finish s (
    match x.burst with
    | none => s
    | some b =>
      if 16 ≤ group ∨ s.domOn 10 = false ∨ s.gate = false then s
      else
        let t := s.goTo x.burstEnd
        let r := slice (t.tl.pres.tab Od.stringGroup) (8 * group) 8
        let t := (List.range (u8 r 0)).foldl (fun t ch =>
          t.senseChannel group ch (u8 r 5) (b.getD ch 0) (senseValue dark (lit.getD ch (0, 0)))) t
        t.setStrGroup group { t.strGroup group with burst := none })

/-- SENSE_CAPTURE of a group (R352). -/
def State.senseCapture (s : State) (g : Nat) : State :=
  s.setStrGroup g { s.strGroup g with capture := List.replicate 4 true }

/-! ## Lamp heat (R353, R354) -/

/-- The temperature that NTC_TABLE gives a code, 1/16 °C; none outside its range. -/
def ntcTemp (table : List Bytes) (code : Nat) : Option Int :=
  ((table.zip (table.drop 1)).find? fun p => decide (u16 p.1 0 ≤ code) && decide (code ≤ u16 p.2 0)).map fun p =>
    let c0 := u16 p.1 0
    let c1 := u16 p.2 0
    if c1 = c0 then s16 p.1 2 else s16 p.1 2 + divRound ((s16 p.2 2 - s16 p.1 2) * ((code - c0 : Nat) : Int)) (c1 - c0)

/-- f of R353 for a DERATE record. -/
def derateOf (r : Bytes) (t : Int) : Nat :=
  let td := s16 r 0
  let tm := s16 r 2
  let fmin := u16 r 4
  if t ≤ td then 32768
  else if t < tm then 32768 - ((32768 - fmin) * (t - td).toNat) / (tm - td).toNat
  else fmin

/-- The reading of a thermistor: mean of its last 16 samples (R353). -/
def Ntc.mean (n : Ntc) : Nat := (divRound (n.samples.foldl (· + ·) 0 : Nat) (max n.samples.length 1)).toNat

def State.ntc (s : State) (i : Nat) : Ntc := s.strs.ntcs.getD i {}

/-- A thermistor's temperature; none before its first sample and during a fault. -/
def State.ntcHeat (s : State) (i : Nat) : Option Int :=
  let n := s.ntc i
  if n.samples.isEmpty then none else ntcTemp (s.od.regs.recs Od.ntcTable) n.mean

/-- A DERATE record. -/
def State.derateRec (s : State) (i : Nat) : Bytes := slice (s.regTab Od.derate) (10 * i) 10

/-- Lamp heat of a group under settings: the hottest thermistor of its mask, and which (R353). -/
def State.groupHeat (s : State) (st : Store) (g : Nat) : Option (Int × Nat) :=
  let mask := u8 (slice (st.tab Od.stringGroup) (8 * g) 8) 6
  (([0, 1, 2, 3] : List Nat).filter (bit mask)).foldl (fun a i =>
    match s.ntcHeat i, a with
    | some t, some (b, _) => if b < t then some (t, i) else a
    | some t, none => some (t, i)
    | none, _ => a) none

/-- f of a group now, under settings (R353, R354). -/
def State.groupF (s : State) (st : Store) (g : Nat) : Nat :=
  let mask := u8 (slice (st.tab Od.stringGroup) (8 * g) 8) 6
  match (([0, 1, 2, 3] : List Nat).filter (bit mask)).find? (fun i => (s.ntc i).fault) with
  | some i => u16 (s.derateRec i) 4
  | none => match s.groupHeat st g with
    | some (t, i) => derateOf (s.derateRec i) t
    | none => 32768

/-- A group whose heat has changed: derating, off and on (R354). Its controllers go to OFF at their next dimming period and return at
once. -/
def State.heatGroup (s : State) (g : Nat) : State :=
  let r := slice (s.tl.pres.tab Od.stringGroup) (8 * g) 8
  let f := s.groupF s.tl.pres g
  let x := s.strGroup g
  let temp : Int := match s.groupHeat s.tl.pres g with | some (t, _) => t | none => 0
  let arg := natBE 2 g ++ natBE 2 (ofS 16 temp)
  let derating := decide (f < 32768)
  let s := if derating && !x.derating then s.raise 0x6403 arg else s
  let s := s.setStrGroup g { s.strGroup g with derating := derating }
  let ctls := ((List.range (u8 r 0)).map fun c => u8 r (1 + c)).filter (· < 16)
  match s.groupHeat s.tl.pres g with
  | none => s
  | some (t, i) =>
    let d := s.derateRec i
    let tOff := s16 d 6
    let on := tOff - (u16 d 8 : Int)
    if x.off = false ∧ tOff ≤ t then
      (s.setStrGroup g { s.strGroup g with off := true }).raise 0x6404 arg
    else if x.off ∧ t ≤ on then
      let s := ctls.foldl (fun s n =>
        let c := s.str n
        if c.state = 4 then s.setStr n { c with state := c.before } else s) s
      (s.setStrGroup g { s.strGroup g with off := false }).raise 0x6405 arg
    else s

/-- NTC_SAMPLE (R353, R354). -/
def execNtcSample (dt ntc code : Nat) (s : State) : Host.Outcome State Fault Refusal :=
  let t := s.advance dt
  finish s (
    if 4 ≤ ntc ∨ 16383 < code ∨ t.domOn 10 = false then t
    else
      let n := t.ntc ntc
      let n := { n with samples := pushLast 16 n.samples code }
      let bad := (ntcTemp (t.od.regs.recs Od.ntcTable) n.mean).isNone
      let t := if bad && !n.fault then t.raise 0x6406 (natBE 1 ntc ++ natBE 2 n.mean) else t
      let t := { t with strs := { t.strs with ntcs := setAt t.strs.ntcs ntc { n with fault := bad } } }
      ((List.range 16).filter fun g => bit (u8 (slice (t.tl.pres.tab Od.stringGroup) (8 * g) 8) 6) ntc).foldl
        State.heatGroup t)

/-! ## What a close fixes (R346, R352, R353) and what a start and the gate set (R355) -/

/-- d_on in force of a controller (R346). -/
def StringSt.donNow (c : StringSt) (cfg : Bytes) : Nat :=
  if u8 cfg 1 = 1 ∨ c.donCount < 4 then u16 cfg 26
  else min (divRound (c.dons.foldl (· + ·) 0 : Nat) (max c.dons.length 1)).toNat 20000

/-- The figures that step 3 of a tick fixes for frame j: g, f and d_on. -/
def State.closeStrings (s : State) (cfg : Store) : State :=
  { s with strs := { s.strs with
      fixedG := s.strs.groups.map fun x => x.gain.map (· / 65536)
      fixedF := (List.range 16).map (s.groupF cfg)
      fixedDon := s.strs.ctl.zipIdx.map fun (c, n) => c.donNow (stringCfg cfg n) } }

/-- λ of a string: d_on + 2,000 ns (R345). -/
def State.stringLambda (s : State) (n : Nat) : Nat := s.strs.fixedDon.getD n 1000 + 2000

/-- The launch of a string: its setpoint with the g and f of the frame (R344, R345). -/
def State.launchString (s : State) (cfg : Store) (n sp : Nat) : State :=
  let (g, f) := match stringBinding cfg n with
    | some (grp, ch) => ((s.strs.fixedG.getD grp []).getD ch 32768, s.strs.fixedF.getD grp 32768)
    | none => (32768, 32768)
  s.setStr n { s.str n with setpoint := some sp, g := g, f := f, don := s.strs.fixedDon.getD n 1000 }

/-- The gate opens: every controller starts softly at its next dimming period (R355). -/
def State.openStrings (s : State) : State :=
  { s with strs := { s.strs with ctl := s.strs.ctl.map fun c => { c with soft := true, steps := 0, steps2 := 0, untested := false, measure := none } } }

/-- PD_LAMP comes on (R355): gains 1.0, states OK. -/
def State.startStrings (s : State) : State :=
  { s with strs := { groups := List.replicate 16 { lastUpdate := List.replicate 4 s.now } } }

/-- Settings are presented: a controller that they leave disabled is released, and comes up afresh when it is next enabled (R341,
R347). -/
def State.dropStrings (s : State) (cfg : Store) : State :=
  { s with strs := { s.strs with ctl := s.strs.ctl.zipIdx.map fun (c, n) => if c.enabled && u8 (stringCfg cfg n) 0 != 1 then {} else c } }

/-- STRING_STATUS. -/
def State.stringStatus (s : State) : Bytes :=
  s.strs.ctl.flatMap fun c =>
    natBE 1 c.state ++ natBE 2 c.iMeas ++ natBE 2 c.vMeas ++ natBE 2 c.duty ++ natBE 2 c.don ++ natBE 4 (c.don + 2000)

/-- SENSE_GAIN. -/
def State.senseGains (s : State) : Bytes := s.strs.groups.flatMap fun x => x.gain.flatMap fun g => natBE 2 (g / 65536)

/-- LAMP_HEAT. -/
def State.lampHeat (s : State) : Bytes :=
  ([0, 1, 2, 3] : List Nat).flatMap fun i =>
    match s.ntcHeat i with
    | some t => natBE 2 (ofS 16 t) ++ natBE 2 (derateOf (s.derateRec i) t) ++ natBE 1 1
    | none => natBE 2 0 ++ natBE 2 (if (s.ntc i).samples.isEmpty then 32768 else u16 (s.derateRec i) 4) ++ natBE 1 0

end Sys2Proof.Machine
end

