-- ==== Sys2Proof/Machine/Raster.lean ====
section
/-!
DEFINITION. Raster scan-out (spec/15).
-/
namespace Sys2Proof.Machine

/-- RS_TIMING by default: the 1920 × 1080 mode of spec/15's worked example; POLARITY 0 (log entry 41). -/
def rsTimingDefault : Bytes :=
  natBE 2 1920 ++ natBE 2 88 ++ natBE 2 44 ++ natBE 2 148 ++ natBE 2 1080 ++ natBE 2 4 ++ natBE 2 5 ++ natBE 2 36 ++
    natBE 1 0 ++ natBE 1 1 ++ natBE 2 0

/-- RS_SCAN by default (R372). -/
def rsScanDefault : Bytes := natBE 1 0 ++ natBE 1 3 ++ natBE 1 0 ++ natBE 1 0 ++ natBE 4 7680 ++ natBE 8 0

/-- The shadow records (R365). -/
def State.rsShadow (s : State) : Bytes × Bytes :=
  ((kvGet Od.rsTiming.key s.od.regs.tabs).getD rsTimingDefault, (kvGet Od.rsScan.key s.od.regs.tabs).getD rsScanDefault)

/-- HTOTAL and VTOTAL (R361). -/
def hTotal (t : Bytes) : Nat := u16 t 0 + u16 t 2 + u16 t 4 + u16 t 6
def vTotal (t : Bytes) : Nat := u16 t 8 + u16 t 10 + u16 t 12 + u16 t 14

/-- f × M, the pixel clock in Hz times M of the rate (R362). -/
def pixelClockM (t : Bytes) (rate : Nat) : Nat := hTotal t * vTotal t * u8 t 17 * (rateOf rate).1

/-- Bytes of a pixel by FORMAT (R364). -/
def rasterBytes (fmt : Nat) : Nat := if fmt = 0 then 2 else if fmt = 1 then 3 else 4

/-- Channel widths by FORMAT (R364). -/
def rasterWidths (fmt : Nat) : List Nat := if fmt = 0 then [5, 6, 5] else if fmt = 3 then [10, 10, 10] else [8, 8, 8]

/-- A pixel's bytes as pack writes them: A is 0b11, X is 0 (R364). -/
def rasterPack (fmt : Nat) (c : List Nat) : Bytes :=
  let r := c.getD 0 0
  let g := c.getD 1 0
  let b := c.getD 2 0
  match fmt with
  | 0 => natBE 2 (r * 2048 + g * 32 + b)
  | 1 => natBE 1 r ++ natBE 1 g ++ natBE 1 b
  | 2 => natBE 1 0 ++ natBE 1 r ++ natBE 1 g ++ natBE 1 b
  | _ => natBE 4 (r * 4194304 + g * 4096 + b * 4 + 3)

/-- A stored pixel as three 10-bit codes (R359, R364). -/
def rasterCodes (fmt : Nat) (p : Bytes) : List Nat :=
  match fmt with
  | 0 => let v := u16 p 0
         [v / 2048 * 32, v / 32 % 64 * 16, v % 32 * 32]
  | 1 => [u8 p 0 * 4, u8 p 1 * 4, u8 p 2 * 4]
  | 2 => [u8 p 1 * 4, u8 p 2 * 4, u8 p 3 * 4]
  | _ => let v := u32 p 0
         [v / 4194304, v / 4096 % 1024, v / 4 % 1024]

/-- The seven slots of D0 to D5 for one pixel clock, first slot first (R359). -/
def rasterSlots (c : List Nat) (de hs vs : Bool) : List (List Nat) :=
  let v (i n : Nat) : Nat := b2n (bit (c.getD i 0) n)
  let top (i : Nat) : List Nat := [9, 8, 7, 6, 5, 4, 3].map (v i)
  [top 0, top 1, top 2,
   [v 0 2, v 0 1, v 0 0, v 1 2, v 1 1, v 1 0, b2n de],
   [v 2 2, v 2 1, v 2 0, b2n hs, b2n vs, 0, 0],
   [0, 0, 0, 0, 0, 0, 0]]

/-- The clock pair's slots (R359). -/
def rasterClock : List Nat := [1, 1, 0, 0, 0, 1, 1]

/-- Field ranges of RS_TIMING and RS_SCAN (R372). -/
def rsFieldsOk (t c : Bytes) : Bool :=
  let within (v lo hi : Nat) : Bool := decide (lo ≤ v) && decide (v ≤ hi)
  within (u16 t 0) 64 4096 && within (u16 t 2) 1 1024 && within (u16 t 4) 1 1024 && within (u16 t 6) 1 1024 &&
    within (u16 t 8) 64 2160 && within (u16 t 10) 1 255 && within (u16 t 12) 1 255 && within (u16 t 14) 1 255 &&
    within (u8 t 17) 1 4 && within (u8 c 0) 0 1 && within (u8 c 1) 0 3 && within (u8 c 2) 0 1 && within (u32 c 4) 64 65536

/-- R363: a raster commit passes. `area` is STILL_AREA in bytes. -/
def rsCommitOk (t c : Bytes) (rate area : Nat) : Bool :=
  let m := (rateOf rate).2
  let row := u16 t 0 * rasterBytes (u8 c 1)
  rsFieldsOk t c && decide (25000000 * m ≤ pixelClockM t rate) && decide (pixelClockM t rate ≤ 300000000 * m) &&
    (u8 c 0 == 0 || (u64 c 8 % 64 == 0 && u32 c 4 % 64 == 0 && decide (row ≤ u32 c 4) &&
      decide (u64 c 8 + (u16 t 8 - 1) * u32 c 4 + row ≤ area)))

/-- A write of RS_TIMING (0) or RS_SCAN (1): the whole record into the shadow, reserved bytes 0 (R9, R365). -/
def State.writeRsShadow (s : State) (record : Nat) (v : Bytes) : State :=
  if record = 0 then
    s.setRegTab Od.rsTiming (v.take 16 ++ natBE 1 (u8 v 16 % 4) ++ slice v 17 1 ++ natBE 2 0)
  else s.setRegTab Od.rsScan (v.take 3 ++ natBE 1 0 ++ v.drop 4)

/-- A write of RS_COMMIT (R366). -/
def State.writeRsCommit (s : State) (v : Nat) : Eff :=
  let (t, c) := s.rsShadow
  if v = 0 then effOk (s.setReg Od.rsCommit 0)
  else if rsCommitOk t c s.tl.rate (s.cfg Od.stillArea * 1048576) then effOk (s.setReg Od.rsCommit 1)
  else effNo s stRange

/-- The raster scans: PD_RASTER on and RASTER_EN 1. The gate governs the pins alone (R360, log entry 114). -/
def State.rasterScans (s : State) : Bool := s.domOn 11 && s.reg Od.rasterEn == 1

/-- The raster's pins are driven: it scans and the gate is open (R360). -/
def State.rasterOn (s : State) : Bool := s.rasterScans && s.gate

/-- Start of raster frame m of the tick period that starts at tick k (R362). -/
def rasterStart (t : Bytes) (rate k m : Nat) : Nat :=
  tickTime rate k + m * (tickTime rate (k + 1) - tickTime rate k) / max (u8 t 17) 1

/-- The first raster frame from (k, m) on that starts at or after `now`. -/
def firstRaster (t : Bytes) (rate now : Nat) : Nat → Nat → Nat → Nat × Nat
  | 0, k, m => (k, m)
  | fuel + 1, k, m =>
    if now ≤ rasterStart t rate k m then (k, m)
    else firstRaster t rate now fuel (if m + 1 < u8 t 17 then k else k + 1) (if m + 1 < u8 t 17 then m + 1 else 0)

/-- Tick and number of the raster frame that starts next (R362). -/
def State.nextRaster (s : State) : Nat × Nat :=
  let r := s.ras
  firstRaster r.timing r.rate (max s.now r.after) (2 * u8 r.timing 17 + 2) (tickFrom r.rate s.now - 1) 0

/-- A relock that nothing has reported done has ended after its 2 ms (R367). -/
def State.relocked (s : State) : State :=
  match s.ras.relock with
  | none => s
  | some t => let s := s.goTo (t + 2000000)
              { s with ras := { s.ras with relock := none } }

/-- RASTER_FRAME_START (R360, R362, R367, R369–R370). -/
def execRasterFrameStart (s : State) : Host.Outcome State Fault Refusal :=
  finish s (
    if s.rasterScans = false then s
    else
      let s := s.relocked
      let (k, m) := s.nextRaster
      let r := s.ras
      let start := rasterStart r.timing r.rate k m
      let s := s.goTo start
      let due : Bool := m == 0 || decide (r.nextAt ≤ start)
      let shown := if due && r.next.isSome then r.next else r.shown
      let r := { r with
        shown := shown
        next := if due then none else r.next
        content := if r.black then 0 else if u8 r.scan 0 = 1 then 2 else if shown.isSome then 1 else 0
        black := false
        frameStart := start, inFrame := true
        after := start + 1
        pins := if s.gate then [1, if u8 r.scan 2 = 1 then 1 else 0] else [0, 0] }
      if s.gate then ({ s with ras := r }).count Od.framesOut else { s with ras := r })

/-- The instant of the latch line of the raster frame under way (R361, R366). -/
def RasterState.latchAt (r : RasterState) : Nat :=
  r.frameStart + u16 r.timing 8 * 1000000000 * (rateOf r.rate).2 / max (vTotal r.timing * u8 r.timing 17 * (rateOf r.rate).1) 1

/-- A new active set, or a new rate, at the latch line (R366–R368). -/
def State.latchRaster (s : State) (t c : Bytes) (rate : Nat) : State :=
  let r := s.ras
  let timing := t != r.timing || rate != r.rate
  let f (t : Bytes) (rate : Nat) : Nat × Nat := (pixelClockM t rate, (rateOf rate).2)
  let a := f r.timing r.rate
  let b := f t rate
  let clock := a.1 * b.2 != b.1 * a.2
  let s := { s with ras := { r with timing := t, scan := c, rate := rate, black := r.black || timing
                                    relock := if clock then some s.now else r.relock } }
  if timing then (s.count Od.modeChanges).raise 0xC002 (natBE 4 (b.1 / (b.2 * 1000))) else s

/-- RASTER_LATCH_LINE (R366–R368). -/
def execRasterLatchLine (s : State) : Host.Outcome State Fault Refusal :=
  finish s (
    if s.rasterScans = false ∨ s.ras.inFrame = false then s
    else
      let s := s.goTo s.ras.latchAt
      let s := { s with ras := { s.ras with inFrame := false } }
      let due := s.ras.rateChange && s.gridRate == s.tl.rate
      let rate := if due then s.tl.rate else s.ras.rate
      let s := { s with ras := { s.ras with rateChange := s.ras.rateChange && !due } }
      if s.reg Od.rsCommit = 1 then
        let (t, c) := s.rsShadow
        ((s.setReg Od.rsCommit 0).count Od.commitsLatched).latchRaster t c rate
      else s.latchRaster s.ras.timing s.ras.scan rate)

/-- RASTER_PLL_LOCKED (R367). -/
def execRasterPllLocked (dt : Nat) (s : State) : Host.Outcome State Fault Refusal :=
  let t := s.advance dt
  finish s (if t.domOn 11 then { t with ras := { t.ras with relock := none } } else t)

/-- RASTER_UNDERRUN (R371): `px` pixels of one line are repeated. -/
def execRasterUnderrun (dt output px : Nat) (s : State) : Host.Outcome State Fault Refusal :=
  let t := s.advance dt
  finish s (
    if t.rasterOn = false ∨ 2 ≤ output ∨ px = 0 then t
    else
      let t := (t.count Od.underrunPx px).count Od.underrunLines
      let lines := t.ras.lines + 1
      if t.ras.eventTick = some t.tl.nextTick then { t with ras := { t.ras with lines := lines } }
      else ({ t with ras := { t.ras with lines := 0, eventTick := some t.tl.nextTick } }).raise 0xC001 (natBE 4 lines))

/-- λ of the raster: 2 × HTOTAL pixel clocks (R369), to the nearest ns. -/
def State.rasterLambda (s : State) : Nat :=
  let t := s.ras.timing
  (divRound (2 * 1000000000 * (rateOf s.ras.rate).2 : Nat) (max (vTotal t * u8 t 17 * (rateOf s.ras.rate).1) 1)).toNat

/-- Stride of a pipeline buffer (R364). -/
def rasterStride (fmt tw : Nat) : Nat := ceilDiv (tw * rasterBytes fmt) 64 * 64

/-- Frame k's packed image into the pipeline buffer not shown, as the raster launches (R364, R369): pixels line by line, each line padded
to the stride. -/
def State.launchRaster (s : State) (fmt tw th : Nat) (b : Bytes) : State :=
  let i := match s.ras.shown with | some 0 => 1 | _ => 0
  let row := tw * rasterBytes fmt
  let lines := (List.range th).flatMap fun y => padTo (rasterStride fmt tw) (slice b (y * row) row)
  { s with ras := { s.ras with buffers := setAt s.ras.buffers i { fmt := fmt, tw := tw, th := th, bytes := lines }, next := some i, nextAt := s.now + s.rasterLambda } }

/-- Codes of the pixel at column x of active line y (R359, R364, R369, R370): black beyond the image and where nothing is shown. -/
def RasterState.pixel (r : RasterState) (x y : Nat) : List Nat :=
  match r.content with
  | 1 =>
    let i := r.buffers.getD (r.shown.getD 0) {}
    if x < i.tw ∧ y < i.th then rasterCodes i.fmt (slice i.bytes (y * rasterStride i.fmt i.tw + x * rasterBytes i.fmt) (rasterBytes i.fmt))
    else [0, 0, 0]
  | 2 =>
    let fmt := u8 r.scan 1
    rasterCodes fmt (memRead (u64 r.scan 8 + y * u32 r.scan 4 + x * rasterBytes fmt) (rasterBytes fmt) r.still)
  | _ => [0, 0, 0]

/-- Levels of DE, HS and VS at pixel clock x of line y (R361): each sync at its active level, POLARITY's, during its own clocks or lines;
inactive throughout while the PLL relocks (R367). -/
def RasterState.sync (r : RasterState) (x y : Nat) : Bool × Bool × Bool :=
  let t := r.timing
  let de := r.relock.isNone && decide (x < u16 t 0) && decide (y < u16 t 8)
  let h := r.relock.isNone && decide (u16 t 0 + u16 t 2 ≤ x) && decide (x < u16 t 0 + u16 t 2 + u16 t 4)
  let v := r.relock.isNone && decide (u16 t 8 + u16 t 10 ≤ y) && decide (y < u16 t 8 + u16 t 10 + u16 t 12)
  (de, h == bit (u8 t 16) 0, v == bit (u8 t 16) 1)

/-- The slots of D0 to D5 that RS0 sends at pixel clock x of line y of the raster frame under way (R359, R361); RS1 sends the same under
CLONE (R360). -/
def RasterState.slots (r : RasterState) (x y : Nat) : List (List Nat) :=
  let (de, hs, vs) := r.sync x y
  rasterSlots (if de then r.pixel x y else [0, 0, 0]) de hs vs

/-- PD_RASTER comes on: the active set is the shadow set (R365, R469; log entry 42). -/
def State.startRaster (s : State) : State :=
  let (t, c) := s.rsShadow
  { s with ras := { timing := t, scan := c, rate := s.tl.rate, still := s.ras.still } }

/-- RS_ACTIVE. -/
def State.rsActive (s : State) : Bytes := padTo 20 s.ras.timing ++ padTo 16 s.ras.scan

end Sys2Proof.Machine
end

