-- ==== Sys2Proof/Machine/Towpath.lean ====
section
/-!
DEFINITION. The towpath (spec/17): claims, releases, epochs, beacons and the mirror. What the opening of the gate starts in
other blocks stands in Gate.lean.
-/
namespace Sys2Proof.Machine

/-- PIN_STATE (R410). -/
def State.pinState (s : State) : Nat :=
  b2n s.tow.hold + 2 * b2n s.tow.peer + 4 * b2n (s.strap 1) + 8 * b2n (s.strap 0) + 16 * b2n s.gate

/-- TOW_PEER_N counts as asserted: not with TOW_MODE low (R408). -/
def State.peerOn (s : State) : Bool := s.pair && s.tow.peer

/-- The hold-off of R397 runs: its time, and MISSED_RUN reading 0 for a tick. -/
def State.holdoff (s : State) : Bool := s.tow.holdoffUntil.isSome || !s.tow.calm

/-- Leave ACTIVE (R392): HOLD is released, the release counted and reported; every release but the fenced one starts the
hold-off (R397). -/
def State.towRelease (s : State) (to_ cause : Nat) : State :=
  if s.tow.state ≠ 3 then s
  else
    let t := { s.tow with state := to_, hold := false, handover := false, epochWrite := none }
    let t := if to_ = 5 then t
      else { t with holdoffUntil := some (s.now + s.reg Od.rearmHoldoff * 1000000000), calm := false }
    (({ s with tow := t }).count Od.releases).raise 0xD002 (natBE 1 cause)

/-- Leave CLAIMING after a failed claim: back-off of R395 from SERIAL and the attempt count. The count is taken as four
bytes, big-endian (DEDUCED, log entry 43). -/
def State.claimFails (s : State) : State :=
  let n := s.tow.attempts + 1
  let us := crc32c (natBE 16 Config.serial ++ natBE 4 n) % 1024
  let st := if s.pwr.state = 3 then 4 else 1
  { s with tow := { s.tow with state := st, hold := false, attempts := n, backoffUntil := some (s.now + us * 1000)
                               rechecked := false, beaconWait := false, epochWrite := none } }

/-- HOLD dropped at once, whatever the state (R397: WARM_N; R464, R471). -/
def State.dropHold (s : State) (cause : Nat) : State :=
  if s.tow.state = 3 then s.towRelease 1 cause
  else if s.tow.state = 2 then { s with tow := { s.tow with state := 1, hold := false, rechecked := false, beaconWait := false, epochWrite := none } }
  else { s with tow := { s.tow with hold := false } }

/-- The new epoch of R399. -/
def State.newEpoch (s : State) : Nat := (max s.nv.epoch (max s.nv.mirrored s.nv.highest) + 1) % 2 ^ 32

/-- Assert HOLD and enter CLAIMING (R393 step 2). -/
def State.claim (s : State) : State :=
  { s with tow := { s.tow with state := 2, hold := true, claimAt := s.now, rechecked := false, beaconWait := false
                               epochWrite := none, backoffUntil := none } }

/-- TOW_CLAIM_START (R393 step 1, R408). -/
def execTowClaimStart (s : State) : Host.Outcome State Fault Refusal :=
  let t := s.goTo (max (if s.pair then s.tow.peerSince + 500000 else s.now) (s.tow.backoffUntil.getD 0))
  finish s (
    if (s.tow.state = 1 ∨ s.tow.state = 4) ∧ s.alive ∧ s.reg Od.autoAcquire = 1 ∧ s.peerOn = false ∧ s.holdoff = false ∧
        (s.reg Od.timelineState = 1 ∨ s.tow.state = 4) ∧ (s.pwr.state = 2 ∨ s.pwr.state = 3 ∨ s.pwr.state = 4) then t.claim
    else s)

/-- A beacon's fields (R401). -/
def beaconSent (b : Bytes) : Nat := u64 b 8
def beaconGate (b : Bytes) : Bool := bit (u8 b 3) 0

/-- A beacon that shows the partner still transmitting after the pin deasserted (R396). -/
def State.wireFault (s : State) (b : Bytes) : State :=
  let s := { s with tow := { s.tow with state := 6, hold := false, rechecked := false, beaconWait := false, epochWrite := none } }
  (s.count Od.wireFaults).raise 0xD005 (natBE 4 (u32 b 4))

/-- The check of R396 on the last beacon, once the re-check has passed. -/
def State.beaconCheck (s : State) : State :=
  if s.tow.state ≠ 2 ∨ s.tow.rechecked = false ∨ s.tow.epochWrite.isSome then s
  else
    match s.tow.lastBeacon with
    | some (b, _) =>
      if s.pair ∧ s.tow.peerSince < beaconSent b then
        if beaconGate b then s.wireFault b
        else { s with tow := { s.tow with beaconWait := false, epochWrite := some s.newEpoch } }
      else if s.pair ∧ s.tow.beaconRecent then { s with tow := { s.tow with beaconWait := true } }
      else { s with tow := { s.tow with epochWrite := some s.newEpoch } }
    | none => { s with tow := { s.tow with epochWrite := some s.newEpoch } }

/-- TOW_CLAIM_RECHECK (R393 step 3, R394, R396): 50 µs after HOLD. -/
def execTowClaimRecheck (s : State) : Host.Outcome State Fault Refusal :=
  finish s (
    if s.tow.state ≠ 2 ∨ s.tow.rechecked ∨ s.alive = false then s
    else
      let t := s.goTo (s.tow.claimAt + 50000)
      if t.peerOn then t.claimFails
      else ({ t with tow := { t.tow with rechecked := true } }).beaconCheck)

/-- BEACON_WAIT_TIMEOUT (R396): 3 × BEACON_PERIOD after the deassertion. -/
def execBeaconWaitTimeout (s : State) : Host.Outcome State Fault Refusal :=
  finish s (
    if s.tow.state ≠ 2 ∨ s.tow.beaconWait = false ∨ s.alive = false then s
    else
      let t := s.goTo (s.tow.peerSince + 3 * s.reg Od.beaconPeriod * 1000000)
      { t with tow := { t.tow with beaconWait := false, epochWrite := some t.newEpoch } })

/-- CLAIM_BACKOFF_EXPIRE (R395). -/
def execClaimBackoffExpire (s : State) : Host.Outcome State Fault Refusal :=
  finish s (match s.tow.backoffUntil with
    | some t => let s := s.goTo t
                { s with tow := { s.tow with backoffUntil := none } }
    | none => s)

/-- HOLDOFF_EXPIRE (R397). -/
def execHoldoffExpire (s : State) : Host.Outcome State Fault Refusal :=
  finish s (match s.tow.holdoffUntil with
    | some t => let s := s.goTo t
                { s with tow := { s.tow with holdoffUntil := none } }
    | none => s)

/-- PEER_ASSERT (R387, R388, R394). -/
def execPeerAssert (dt : Nat) (s : State) : Host.Outcome State Fault Refusal :=
  let t := s.advance dt
  finish s (
    if t.alive = false ∨ t.tow.peer then t
    else
      let t := { t with tow := { t.tow with peer := true, peerSince := t.now } }
      if t.pair = false ∨ t.tow.hold = false ∨ t.strap 1 = false then t
      else
        let pins := t.pinState
        let u := if t.tow.state = 3 then t.towRelease 1 3 else if t.tow.state = 2 then t.claimFails else t
        (u.count Od.claimConflicts).raise 0xD003 (natBE 1 pins))

/-! ## Commands (R398) -/

def State.cmdAcquire (s : State) : Eff :=
  if (s.tow.state = 1 ∨ s.tow.state = 4) ∧ (s.pwr.state = 2 ∨ s.pwr.state = 3) ∧ s.peerOn = false ∧ s.holdoff = false then
    effOk s.claim
  else effNo s stBusy

def State.cmdRelease (s : State) : Eff :=
  if s.tow.state = 3 then effOk (s.towRelease 1 0) else effNo s stNotOwner

/-- The partner is ready for a handover (R398). -/
def State.partnerReady (s : State) : Bool :=
  match s.tow.lastBeacon with
  | some (b, t) => decide (s.now ≤ t + 3 * s.reg Od.beaconPeriod * 1000000) && u8 b 2 == 1 && bit (u8 b 3) 1 &&
      decide ((s.upd.slots.getD s.upd.running {}).schema ≤ u16 b 20)
  | none => false

def State.cmdHandover (s : State) : Eff :=
  if s.tow.state ≠ 3 then effNo s stNotOwner
  else if s.partnerReady then effOk { s with tow := { s.tow with handover := true } }
  else effNo s stBusy

def State.cmdClearFault (s : State) : Eff :=
  if s.tow.state = 5 ∨ s.tow.state = 6 then effOk { s with tow := { s.tow with state := 1 } } else effNo s stRange

/-- TOW_COMMAND (R398). -/
def State.towCommand (s : State) (c : Nat) : Eff :=
  match c with
  | 1 => s.cmdAcquire
  | 2 => s.cmdRelease
  | 3 => s.cmdHandover
  | 4 => s.cmdClearFault
  | _ => effNo s stRange

/-! ## Beacons (R401, R405) -/

/-- BEACON_SEND (R401). -/
def execBeaconSend (s : State) : Host.Outcome State Fault Refusal :=
  finish s (
    if s.alive = false ∨ s.pair = false then s
    else
      let t := (s.goTo s.tow.nextBeacon).sendBeacon
      { t with tow := { t.tow with nextBeacon := t.now + t.reg Od.beaconPeriod * 1000000 } })

/-- A write from the partner is refused: TOW_MODE low, or the wrong device or source (R401). A source is the partner's when
its address is MIRROR_PEER_ADDR's (DEDUCED, log entry 44). -/
def State.fromPartner (s : State) (src : Src) (device : Option Nat) : Bool :=
  let a := beNat ((padTo 18 (s.regTab Od.mirrorPeerAddr)).take 16)
  s.pair && src.addr == a && (match device with | some d => d == s.reg Od.pairPartner | none => true)

def State.mirrorRefuse (s : State) : Eff := effNo (s.count Od.mirrorRefused) stRange

/-- A rise of LAST_MIRRORED_EPOCH is kept in eNVM (R399). -/
def State.sawEpoch (s : State) (e : Nat) : State :=
  if s.nv.mirrored < e then { s.envmWrite with nv := { s.nv with mirrored := e } } else s

/-- The header of a MIRROR_TABLE value (R403). -/
def mirrorHeader (key boundFrame presentAt tag part parts : Nat) : Bytes :=
  natBE 2 (key / 256) ++ natBE 1 key ++ natBE 1 0 ++ natBE 4 boundFrame ++ natBE 8 presentAt ++ natBE 2 tag ++ natBE 2 part ++
    natBE 2 parts ++ natBE 2 0

/-- Send one mirror part, as a bulk write of MIRROR_TABLE (R403; the transfer is one record of `sent`, log entry 45). -/
def State.sendPart (s : State) (m : MirrorOut) : State :=
  s.send { dst := s.partner, cmd := 4, seq := m.seq, device := s.reg Od.pairPartner, status := 0, sport := s.reg Od.towUdpPort, payload := natBE 2 (Od.mirrorTable.key / 256) ++ natBE 1 0 ++ natBE 1 1 ++ natBE 4 m.bytes.length ++ natBE 4 0 ++ m.bytes }

/-- Send entries to the partner under one tag (R403). -/
def State.mirrorSend (s : State) (vals : List (Nat × Bytes)) (boundFrame presentAt : Nat) : State :=
  if vals.isEmpty then s
  else
    let tag := s.tow.mirrorTag
    let ms := vals.zipIdx.map fun (v, i) =>
      ({ tag := tag, part := i, key := v.1, bytes := mirrorHeader v.1 boundFrame presentAt tag i vals.length ++ v.2
         seq := (s.tow.txSeq + i) % 65536 } : MirrorOut)
    let s := ms.foldl State.sendPart s
    { s with tow := { s.tow with txSeq := (s.tow.txSeq + ms.length) % 65536, mirrorTag := (tag + 1) % 65536, unanswered := s.tow.unanswered ++ ms } }

/-- An entry as the mirror names and carries it now: a shadowed one's newest value, a calibration page under CAL_DATA (R402, R403). -/
def State.mirrorNow (s : State) (key : Nat) : List (Nat × Bytes) :=
  if calBase ≤ key then [(Od.calData.key, kvGetD key [] s.tl.newest.tabs)]
  else match Od.find key with
    | some (r, i) => [(key, r.wire (if r.acc == .rws then s.tl.newest.val r i else s.od.regs.val r i))]
    | none => []

/-- The link is back: the ACTIVE unit sends what changed meanwhile (R405). -/
def State.mirrorOwed (s : State) : State :=
  let s := if s.tow.state = 3 then (s.mirrorSend (s.tow.owed.flatMap s.mirrorNow) (s.reg Od.boundFrame) s.now) else s
  ({ s with tow := { s.tow with owed := [] } } : State).setReg Od.mirrorStale 0

/-- A part that the partner refused or has not answered: resent up to 3 times, then the mirror is stale (R403). -/
def State.partFails (s : State) (m : MirrorOut) : State :=
  let rest := s.tow.unanswered.erase m
  if m.resends < 3 then
    let s := s.sendPart m
    { s with tow := { s.tow with unanswered := rest ++ [{ m with resends := m.resends + 1 }] } }
  else
    (({ s with tow := { s.tow with unanswered := rest } }).setReg Od.mirrorStale 1).raise 0xD008
      (natBE 2 (m.key / 256) ++ natBE 1 m.key ++ natBE 2 m.tag)

/-- A reply from the partner to one of the towpath's messages, as its bytes (R401, R403): it answers or refuses a mirror part. -/
def State.towReply (s : State) (src : Src) (b : Bytes) : State :=
  if b.length < 16 ∨ u16 b 0 ≠ 0x4F44 ∨ u8 b 2 ≠ 1 ∨ bit (u8 b 3) 7 = false ∨ src.addr ≠ s.partner.addr ∨ src.udp ≠ s.partner.udp then s
  else
    match s.tow.unanswered.find? fun m => m.seq == u16 b 4 with
    | none => s
    | some m =>
      if u16 b 8 = stOk then { s with tow := { s.tow with unanswered := s.tow.unanswered.erase m } } else s.partFails m

/-- A beacon arrives (R396, R399, R401, R405). -/
def State.takeBeacon (s : State) (src : Src) (b : Bytes) : Eff :=
  if s.fromPartner src (some (u16 b 0)) = false then s.mirrorRefuse
  else
    let s := ({ s with tow := { s.tow with lastBeacon := some (b, s.now) } }).sawEpoch (u32 b 4)
    let s :=
      if s.tow.linkLost then
        (({ s with tow := { s.tow with linkLost := false } }).raise 0xD007 (natBE 2 (s.reg Od.pairPartner))).mirrorOwed
      else s
    effOk s.beaconCheck

/-- The instant from which no beacon has come: the last one's, or AO's start before the first (R405). -/
def State.beaconSince (s : State) : Nat := match s.tow.lastBeacon with | some (_, t) => t | none => s.tow.linkSince

/-- PEER_LINK_LOST (R405). -/
def execPeerLinkLost (s : State) : Host.Outcome State Fault Refusal :=
  finish s (
    if s.tow.linkLost ∨ s.alive = false ∨ s.pair = false then s
    else
      let u := s.goTo (s.beaconSince + 3 * s.reg Od.beaconPeriod * 1000000)
      (({ u with tow := { u.tow with linkLost := true } }).setReg Od.mirrorStale 1).raise 0xD006 (natBE 2 (u.reg Od.pairPartner)))

/-! ## The mirror (R401–R404) -/

/-- The MIRROR_SMALL record (R401). -/
def State.smallRecord (s : State) : Bytes :=
  let im := s.upd.slots.getD s.upd.running {}
  natBE 2 s.device ++ natBE 2 0 ++ natBE 4 s.nv.epoch ++ natBE 4 s.nv.highest ++ natBE 4 (s.reg Od.presentedFrame) ++
    natBE 4 im.version ++ natBE 2 im.schema ++ natBE 2 ((s.zl.tiles.filter (fun t => t.2.state == 2)).length) ++ natBE 8 0

/-- MIRROR_SMALL_SEND (R401). -/
def execMirrorSmallSend (s : State) : Host.Outcome State Fault Refusal :=
  finish s (
    if s.tow.state ≠ 3 ∨ s.pair = false ∨ s.alive = false then s
    else
      let t := s.goTo s.tow.nextSmall
      let t := t.toPartner 2 Od.mirrorSmall.key 13 t.smallRecord
      { t with tow := { t.tow with nextSmall := t.now + 1000000000 } })

/-- A MIRROR_SMALL record arrives (R401). -/
def State.takeSmall (s : State) (src : Src) (b : Bytes) : Eff :=
  if s.fromPartner src (some (u16 b 0)) = false then s.mirrorRefuse
  else effOk (({ s with tow := { s.tow with lastSmall := some s.now } }).sawEpoch (max (u32 b 4) (u32 b 8)))

/-- What a MIRROR_TABLE value asks for: refused, collected, an AGE_LEDGER replacement, or a complete set (R402, R403). -/
inductive MirrorTake where
  | refused
  | collected
  | ledger (value : Bytes)
  | complete (parts : List MirrorPart)
  deriving DecidableEq, Repr

/-- OD_SCHEMA of the running image, and of the partner by its last beacon (R403). -/
def State.ownSchema (s : State) : Nat := (s.upd.slots.getD s.upd.running {}).schema
def State.peerSchema (s : State) : Nat := match s.tow.lastBeacon with | some (x, _) => u16 x 20 | none => s.ownSchema

/-- A MIRROR_TABLE value arrives (R403). `gone`: the migration table drops its entry, so that the part counts and carries nothing. -/
def State.takePart (s : State) (src : Src) (b : Bytes) (gone : Bool) : State × MirrorTake :=
  let key := if gone then 0 else entryKey (u16 b 0) (u8 b 2)
  let tag := u16 b 16
  let newer := decide (s.ownSchema < s.peerSchema)
  if b.length < 24 ∨ s.fromPartner src none = false then (s.count Od.mirrorRefused, .refused)
  else if newer then
    ((s.count Od.mirrorRefused).raise 0xD008 (natBE 2 (u16 b 0) ++ natBE 1 (u8 b 2) ++ natBE 2 tag), .refused)
  else if gone = false ∧ mirrored key = false then (s.count Od.mirrorRefused, .refused)
  else if key = Od.ageLedger.key ∧ u16 b 20 = 1 then (s, .ledger (b.drop 24))
  else if s.tow.state = 3 then (s, .collected)
  else
    let p : MirrorPart := { tag := tag, part := u16 b 18, parts := u16 b 20, key := key, boundFrame := u32 b 4
                            presentAt := u64 b 8, value := b.drop 24, first := s.now }
    let first := match s.tow.parts.find? (fun q => q.tag == tag) with | some q => q.first | none => s.now
    let all := s.tow.parts.filter (fun q => !(q.tag == tag && q.part == p.part)) ++ [{ p with first := first }]
    let mine := all.filter (fun q => q.tag == tag)
    if mine.length < p.parts then ({ s with tow := { s.tow with parts := all } }, .collected)
    else ({ s with tow := { s.tow with parts := all.filter (fun q => q.tag != tag) } }, .complete mine)

/-- MIRROR_PARTS_EXPIRE (R403). -/
def execMirrorPartsExpire (s : State) : Host.Outcome State Fault Refusal :=
  finish s (match s.tow.parts with
    | [] => s
    | p :: _ =>
      let t := s.goTo (p.first + 10000000000)
      ({ t with tow := { t.tow with parts := t.tow.parts.filter (fun q => q.tag != p.tag) } }).count Od.mirrorIncomplete)

/-- MIRROR_PART_NOT_ANSWERED (R403): the oldest part without an answer. -/
def execMirrorPartNotAnswered (dt : Nat) (s : State) : Host.Outcome State Fault Refusal :=
  let t := s.advance dt
  finish s (match t.tow.unanswered with
    | [] => t
    | m :: _ => if t.alive = false then t else t.partFails m)

/-- MIRROR_STATUS (R410): ages saturate where nothing has arrived. -/
def State.mirrorStatus (s : State) : Bytes :=
  let age (t : Option Nat) : Nat := match t with | some t => min ((s.now - t) / 1000000) 0xFFFFFFFF | none => 0xFFFFFFFF
  let b := match s.tow.lastBeacon with | some (b, _) => b | none => []
  natBE 4 (age (s.tow.lastBeacon.map (·.2))) ++ natBE 4 (age s.tow.lastSmall) ++ natBE 2 s.tow.parts.length ++
    natBE 2 (u16 b 20) ++ natBE 1 (u8 b 2)

/-- HOLDOFF_LEFT (R410): seconds, rounded up. -/
def State.holdoffLeft (s : State) : Nat :=
  match s.tow.holdoffUntil with | some t => ceilDiv (t - s.now) 1000000000 | none => 0

end Sys2Proof.Machine
end

