-- ==== Sys2Proof/Machine/Rx.lean ====
section
/-!
DEFINITION. Reception (R135–R140): checks, filters, steering, the completion and the drop; and what an OD message in a
frame becomes (R61–R66, R86).
-/
namespace Sys2Proof.Machine

/-! ## Headers (IEEE 802.3, 802.1Q, IPv4, IPv6 and UDP as the chapter names them; PRESUMED, log entry 20) -/

/-- What of a frame the classifier reads. -/
structure L2 where
  da : Bytes
  tagged : Bool
  tci : Nat
  ethertype : Nat
  /-- offset of what follows the EtherType -/
  off : Nat
  deriving DecidableEq, Repr

def l2Of (b : Bytes) : L2 :=
  if u16 b 12 = 0x8100 then { da := b.take 6, tagged := true, tci := u16 b 14, ethertype := u16 b 16, off := 18 }
  else { da := b.take 6, tagged := false, tci := 0, ethertype := u16 b 12, off := 14 }

/-- An IPv4 address in the form of R501. -/
def mapped (a : Nat) : Nat := 0xFFFF * 2 ^ 32 + a

/-- UDP in a frame: addresses in the form of R501, ports, and the payload. -/
structure Udp where
  src : Nat
  dst : Nat
  sport : Nat
  dport : Nat
  pay : Bytes
  deriving DecidableEq, Repr

def udpAt (b : Bytes) (src dst o : Nat) : Udp :=
  { src := src, dst := dst, sport := u16 b o, dport := u16 b (o + 2), pay := slice b (o + 8) (u16 b (o + 4) - 8) }

def udpOf (b : Bytes) (l : L2) : Option Udp :=
  if l.ethertype = 0x0800 ∧ u8 b l.off / 16 = 4 ∧ u8 b (l.off + 9) = 17 then
    some (udpAt b (mapped (u32 b (l.off + 12))) (mapped (u32 b (l.off + 16))) (l.off + 4 * (u8 b l.off % 16)))
  else if l.ethertype = 0x86DD ∧ u8 b (l.off + 6) = 17 then
    some (udpAt b (beNat (slice b (l.off + 8) 16)) (beNat (slice b (l.off + 24) 16)) (l.off + 40))
  else none

/-! ## Address filter (R136) -/

/-- The hash index of R136. -/
def hashIndex (da : Bytes) : Nat := crc32 da / 2 ^ 20

/-- EXACT of a port, 16 records; entry 0 holds the port's own address until the table is written. -/
def State.exactTable (s : State) (p : Nat) : Bytes :=
  padTo 144 (match kvGet (Od.exact.key + p) s.od.regs.tabs with
    | some b => b
    | none => natBE 8 ((Config.baseMac + p) % 2 ^ 48) ++ natBE 1 1)

/-- The PTP multicast addresses of a domain's profile and transport (R136; IEEE 1588-2019's addresses, PRESUMED log entry 20). -/
def ptpMacs (profile transport : Nat) : List Nat :=
  if profile = 2 then [0x0180C200000E]
  else match transport with
    | 0 => [0x01005E000181, 0x01005E00006B]
    | 1 => [0x333300000181, 0x33330000006B]
    | _ => [0x011B19000000, 0x0180C200000E]

/-- The port's own IPv4 or IPv6 unicast address (R64, R138; free values, log entry 96). -/
def ownIp (port a : Nat) : Bool := a == mapped (Config.ownIpv4 port % 2 ^ 32) || a == Config.ownIpv6 port % 2 ^ 128

/-- Group addresses of a universe's E1.31 packets, IPv4 and IPv6 (R158; the standard's addresses, PRESUMED log entry 20). -/
def sacnGroups (univ : Nat) : List Nat := [mapped (0xEFFF0000 + univ), 0xFF18 * 2 ^ 112 + 0x8300 * 2 ^ 16 + univ]

/-- Flows of VIDEO_FLOWS that a lane may match in the UP role: (place, record). -/
def State.flowsOn (s : State) (p : Nat) : List (Nat × Bytes) :=
  if s.role p = 1 then ((s.tl.cur.recs Od.videoFlows).zipIdx.map fun (r, i) => (i, r)).filter fun ir => u8 ir.2 3 == p else []

/-- SACN_LANES names the lane. -/
def State.sacnLane (s : State) (p : Nat) : Bool := s.role p == 1 && bit (s.cfg Od.sacnLanes) p

/-- Hash indices Cloyr sets by itself on a port: PTP (R136), multicast flows (R151), universes (R158). -/
def State.ownHashes (s : State) (p : Nat) : List Nat :=
  let ptp := ([0, 1] : List Nat).flatMap fun d =>
    if s.reg (Od.ptpEnable.inst d) = 1 ∧ s.reg (Od.ptpPort.inst d) = p then
      ptpMacs (s.reg (Od.ptpProfile.inst d)) (s.reg (Od.ptpTransport.inst d)) else []
  let flows := (s.flowsOn p).filterMap fun ir =>
    let a := beNat (slice ir.2 4 16)
    if isGroupIp a then some (groupMac a) else none
  let univ := if s.sacnLane p then (s.tl.cur.recs Od.sacnIn).flatMap fun r => (sacnGroups (u16 r 0)).map groupMac else []
  (ptp ++ flows ++ univ).map fun m => hashIndex (natBE 6 m)

/-- MCAST_HASH as it reads: the table as written, with the bits Cloyr sets by itself (R136; log entry 52). -/
def State.mcastHash (s : State) (p : Nat) : Bytes :=
  let base := beNat ((padTo 512 (s.regTab Od.mcastHash p)).reverse)
  natLE 512 ((s.ownHashes p).foldl setBit base)

/-- Does a frame pass the address filter, and how: (MATCH_KIND, MATCH_ENTRY) (R136, R140). -/
def State.addrMatch (s : State) (p : Nat) (da : Bytes) : Option (Nat × Nat) :=
  let a := beNat da
  let es := records 9 (s.exactTable p)
  match es.findIdx? (fun e => u64 e 0 % 2 ^ 48 == a && u8 e 8 == 1) with
  | some i => some (0, i)
  | none =>
    if a = 2 ^ 48 - 1 then (if s.reg Od.bcastEn p = 1 then some (2, 0) else if s.reg Od.promisc p = 1 then some (3, 0) else none)
    else if a / 2 ^ 40 % 2 = 1 ∧ bit (u8 (s.mcastHash p) (hashIndex da / 8)) (hashIndex da % 8) then some (1, 0)
    else if s.reg Od.promisc p = 1 then some (3, 0)
    else none

/-! ## Steering (R138) -/

/-- Consumers, and the pounds in which their completions stand (log entry 50). -/
inductive Consumer where
  | time | od (u : Udp) (group : Bool) | link | flow (i : Nat) | sacn | aq | tow
  deriving DecidableEq, Repr

def Consumer.pound (c : Consumer) (port : Nat) : Nat :=
  match c with
  | .time => 234
  | .od _ _ => 235
  | .link => 236 + port
  | .flow i => 260 + i
  | .sacn => 292
  | .aq => 293
  | .tow => 294

/-- The pounds the receive consumers take, with their OWNER codes (R138, R279, R283; log entry 50). -/
def consumerPounds : List (Nat × Nat) :=
  [(234, 3), (235, 3)] ++ (List.range 24).map (fun p => (236 + p, 5)) ++ (List.range 33).map (fun i => (260 + i, 3)) ++ [(293, 8), (294, 3)]

/-- The pounds of the MGMT ports with their owners: their queues, their completions, and the consumers of what they receive. The AO supervisor
keeps them while PD_CORE is off (R144). -/
def State.mgmtPounds (s : State) : List (Nat × Nat) :=
  ([24, 25] : List Nat).flatMap (fun p => (List.range 8).map (fun q => (s.txPound p q, 1)) ++ [(s.reg Od.txComplPound p, 2)]) ++
    [(234, 3), (235, 3), (293, 8), (294, 3)]

/-- The consumer of a good frame, by the first rule that matches (R138, R62). What comes for the port itself has one of its own addresses,
and an E1.31 packet may have the group address of its universe (R64, R158). -/
def State.steer (s : State) (p : Nat) (b : Bytes) (l : L2) : Option Consumer :=
  let u := udpOf b l
  let bound := ([0, 1] : List Nat).any fun d => s.reg (Od.ptpEnable.inst d) == 1 && s.reg (Od.ptpPort.inst d) == p
  let isPtp := l.ethertype == 0x88F7 || (match u with | some x => x.dport == 319 || x.dport == 320 | none => false)
  if isPtp ∧ bound then some .time
  else
    match u with
    | some x =>
      let group := x.dst == mapped (s.reg Od.showGroupV4)
      if x.dport = s.reg Od.odUdpPort ∧ (group ∨ ownIp p x.dst) then some (.od x group)
      else if x.dport = 51121 ∧ s.role p = 2 then some .link
      else
        match (s.flowsOn p).find? (fun ir => beNat (slice ir.2 4 16) == x.dst && u16 ir.2 20 == x.dport &&
            (beNat (slice ir.2 22 16) == 0 || beNat (slice ir.2 22 16) == x.src)) with
        | some (i, _) => some (.flow i)
        | none =>
          if s.sacnLane p ∧ x.dport = 5568 ∧ (ownIp p x.dst ∨ (sacnGroups (x.dst % 65536)).contains x.dst) then some .sacn
          else if s.role p = 2 ∨ ownIp p x.dst = false then none
          else if x.dport = s.reg Od.aqUdpPort then some .aq
          else if x.dport = s.reg Od.towUdpPort then some .tow
          else none
    | none => if l.ethertype = s.reg Od.zhEthertype ∧ s.role p = 2 then some .link else none

/-! ## OD messages (R65, R66, R86) -/

/-- A message from the bytes of a datagram; fewer than 16 bytes are no message. -/
def msgOf (src : Src) (b : Bytes) : Option (Nat × Msg) :=
  if b.length < 16 then none
  else some (u8 b 3 % 128, { src := src, magic := u16 b 0, ver := u8 b 2, reply := bit (u8 b 3) 7, seq := u16 b 4, device := u16 b 6
                             length := u16 b 10, payload := b.drop 16 })

/-- Place of a class in the OD server's input queues: M 0, O 1, P 2. -/
def State.classPlace (s : State) (port : Nat) : Nat := match s.portClass port with | 1 => 0 | 2 => 1 | _ => 2

/-- A message is bridged: it comes from UDP source port AQ_UDP_PORT (R381). -/
def State.bridged (s : State) (src : Src) : Bool := src.port != 26 && src.udp == s.reg Od.aqUdpPort

/-- The command codes of R69 and R432 that a host may send. -/
def cmdDefined (cmd : Nat) : Bool := (decide (1 ≤ cmd) && decide (cmd ≤ 8)) || (decide (0xA ≤ cmd) && decide (cmd ≤ 0xC)) || (decide (0x10 ≤ cmd) && decide (cmd ≤ 0x15))

/-- A source as R68 and R74 tell sources apart: address and port, or the SPI target. -/
def whoOf (x : Src) : Nat × Nat × Nat := if x.port = 26 then (26, 0, 0) else (0, x.addr, x.udp)

/-- The source stands as used last (R68). -/
def OdState.touch (o : OdState) (src : Src) : OdState :=
  { o with dups := (o.dups.filter fun d => whoOf d.src != whoOf src) ++ o.dups.filter fun d => whoOf d.src == whoOf src }

/-- A kept reply goes out once more (R68). -/
def State.resend (s : State) (src : Src) (k : Kept) : State :=
  let t := { s with od := s.od.touch src }
  (t.count Od.dupReplies).reply src k.cmd k.seq k.status (k.payload.getD []) false

/-- The classes that may send a command (R69). -/
def cmdClasses (cmd : Nat) : Nat := if cmd = 7 ∨ cmd = 0xB then 3 else if cmd = 0xC ∨ (0x10 ≤ cmd ∧ cmd ≤ 0x1F) then 1 else 7

/-- A command code that is not defined is answered NO_ENTRY, after the class check of R69 where its row has one; NOTIFY is Cloyr's alone
(R66, R68, R69). -/
def State.refuseCmd (s : State) (cmd : Nat) (m : Msg) : State :=
  match s.od.kept? m.src m.seq with
  | some k => s.resend m.src k
  | none =>
    if cmd = 9 ∨ cmdClasses cmd &&& s.portClass m.src.port = 0 then (s.count Od.noRightCount).reply m.src cmd m.seq stNoRight []
    else s.reply m.src cmd m.seq stNoEntry []

/-- Messages of this port wait in an input queue. -/
def State.waitsOn (s : State) (port : Nat) : Bool :=
  s.od.inQ.any (fun q => q.2.2.src.port == port) || s.aq.serve.any fun q => q.2.2.src.port == port

/-- A message joins the input queue of its class, or is dropped (R86); a bridged one has a queue of its own (R381). One whose code is not
defined is answered as soon as no message of its port stands before it (R66, R67). -/
def State.queueMsg (s : State) (cmd : Nat) (m : Msg) : State :=
  let c := s.classPlace m.src.port
  if cmdDefined cmd = false ∧ s.waitsOn m.src.port = false then s.refuseCmd cmd m
  else if s.bridged m.src then
    if s.aq.serve.length < s.reg Od.aqServe then { s with aq := { s.aq with serve := s.aq.serve ++ [(cmd, c, m)] } }
    else s.count Od.aqServeDrops
  else if ((s.od.inQ.filter fun q => q.1 == c).length < 64) then { s with od := { s.od with inQ := s.od.inQ ++ [(c, cmd, m)] } }
  else s.count Od.queueDrops

/-- Messages of a port whose code is not defined, and which now stand first, are answered (R66, R67). -/
def State.answerUndefined (s : State) (port : Nat) : Nat → State
  | 0 => s
  | n + 1 =>
    match s.od.inQ.find? fun q => q.2.2.src.port == port with
    | some (c, cmd, m) =>
      if cmdDefined cmd then s
      else (({ s with od := { s.od with inQ := s.od.inQ.erase (c, cmd, m) } } : State).refuseCmd cmd m).answerUndefined port n
    | none => s

/-- A datagram for the OD server: discarded on a TILE lane (R62), malformed or misaddressed (R66), or through the group
address without being a group command (R79). -/
def State.takeOd (s : State) (p : Nat) (u : Udp) (group : Bool) : State :=
  if s.role p = 2 then s.count Od.classTDropped
  else
    match msgOf { port := p, addr := u.src, udp := u.sport, group := group } u.pay with
    | none => s.count Od.msgDiscarded
    | some (cmd, m) =>
      if s.discards m then s.count Od.msgDiscarded
      else if group ∧ (¬(cmd = 7 ∨ cmd = 0xB ∨ cmd = 0xC) ∨ m.device % 4096 ≠ 4095 ∨ m.length ≠ 16) then s.count Od.msgDiscarded
      else (s.count Od.rxMsgs).queueMsg cmd m

/-! ## Delivery (R137, R139, R140) -/

/-- Write the frame to the basin and its completion to a pound; false where a credit or a buffer is missing. -/
def State.deliver (s : State) (p pound flags tc : Nat) (b : Bytes) (room capt : Bool) : State × Bool :=
  let x := s.port p
  let seq := (x.rxSeq + 1) % 2 ^ 32
  let o := areaPlace s.net.rxNext b.length
  let addr := rxArea + o
  let flags := flags + (if capt then 2048 + 1024 * s.reg Od.select + 512 * s.trimGen else 0)
  let cap := if capt then captureRec (s.nowPs - s.rxDelayPs p) else List.replicate 12 0#8
  let c := natBE 2 flags ++ natBE 1 p ++ natBE 1 (32 * tc) ++ natBE 6 addr ++ natBE 2 b.length ++ natBE 4 seq ++ cap ++ natBE 4 0
  if room = false then (s, false)
  else
    match s.writePound pound 0 0 c with
    | (s, false) => (s, false)
    | (s, true) =>
      let s := s.setPort p { s.port p with rxSeq := seq }
      ({ s with net := { s.net with basin := memWrite addr b s.net.basin, rxNext := o + b.length } }, true)

/-- A frame dropped for want of room (R139). -/
def State.rxOverflow (s : State) (p tc : Nat) : State :=
  let was := s.reg Od.rxOvf p
  let s := (s.count (Od.rxOvfDropTc tc) 1 p).setReg Od.rxOvf 1 p
  if was = 0 then s.raise 0x2403 (natBE 2 p ++ natBE 1 tc) else s

/-- A good frame, filtered and steered. The OD server and the towpath read their completions as they come; the other consumers' reads are POUND_READ (log
entry 95). -/
def State.acceptFrame (s : State) (p : Nat) (f : RxFrame) (l : L2) (kind entry : Nat) : State :=
  let b := f.bytes.take (f.bytes.length - 4)
  match s.steer p b l with
  | none => s.count Od.rxUnclaimed 1 p
  | some c =>
    let tc := if l.tagged then l.tci / 8192 else 0
    let udpOff := match udpOf b l with | some u => b.length - u.pay.length | none => l.off
    let zhType := u8 b (if (udpOf b l).isSome then udpOff else l.off) % 16
    let capt := s.role p ≠ 2 ∨ (c = .link ∧ zhType = 4)
    match s.deliver p (c.pound p) (256 * b2n l.tagged + 64 * kind + entry) tc f.bytes f.room capt with
    | (s, false) => s.rxOverflow p tc
    | (s, true) =>
      let s := (s.count Od.rxFrames 1 p).count Od.rxBytes f.bytes.length p
      match c with
      | .od u group => ((s.readPound (c.pound p)).1).takeOd p u group
      | .tow =>
        let s := (s.readPound (c.pound p)).1
        (match udpOf b l with | some u => s.towReply { port := p, addr := u.src, udp := u.sport } u.pay | none => s)
      | _ => s

/-- A bad frame (R137): counted once; delivered to BAD_POUND alone where RX_KEEP_BAD is 1. -/
def State.badFrame (s : State) (p : Nat) (f : RxFrame) (fcs runt bigger : Bool) : State :=
  let row := if f.pcsErr then Od.rxPcsErr else if fcs then Od.rxFcsErr else if runt then Od.rxRunt else Od.rxOversize
  let s := s.count row 1 p
  if s.reg Od.rxKeepBad p = 0 then s
  else
    let l := l2Of f.bytes
    let go (s : State) (kind entry : Nat) : State :=
      let flags := 32768 * b2n fcs + 16384 * b2n runt + 8192 * b2n bigger + 4096 * b2n f.pcsErr + 256 * b2n l.tagged + 64 * kind + entry
      let tc := if l.tagged then l.tci / 8192 else 0
      match s.deliver p (s.reg Od.badPound p) flags tc f.bytes f.room (s.role p != 2) with
      | (s, true) => s
      | (s, false) => s.rxOverflow p tc
    if f.bytes.length < 6 then go s 3 0
    else match s.addrMatch p l.da with
      | some (k, e) => go s k e
      | none => s.count Od.rxFiltered 1 p

/-- VLAN_ID of R135 step 4. -/
def State.vlanOk (s : State) (p : Nat) (l : L2) : Bool :=
  let v := s.reg Od.vlanId p
  v == 0 || !l.tagged || l.tci % 4096 == 0 || l.tci % 4096 == v

/-- A received frame in the order of R135. -/
def State.receive (s : State) (p : Nat) (f : RxFrame) : State :=
  let n := f.bytes.length
  if 16383 < n then s.count Od.rxGiant 1 p
  else
    let body := f.bytes.take (n - 4)
    let fcs := decide (n < 4) || f.bytes.drop (n - 4) != natLE 4 (crc32 body)
    let runt := decide (n < 64)
    let bigger := decide (s.reg Od.maxFrame p < n)
    if f.pcsErr ∨ fcs ∨ runt ∨ bigger then s.badFrame p f fcs runt bigger
    else
      let l := l2Of f.bytes
      if l.ethertype = 0x8808 ∧ l.tagged = false then s.macControl p f.bytes
      else if s.vlanOk p l = false then s.count Od.rxFiltered 1 p
      else match s.addrMatch p l.da with
        | none => s.count Od.rxFiltered 1 p
        | some (k, e) => s.acceptFrame p f l k e

/-- FEC_CORRECTED and FEC_UNCORRECTED count codewords on a lane that uses FEC (R119, R146). -/
def State.noteFec (s : State) (p : Nat) (f : RxFrame) : State :=
  if p < 24 ∧ s.reg Od.fec p ≠ 0 then (s.count Od.fecCorrected f.fecCorr p).count Od.fecUncorrected f.fecUncorr p else s

/-- RX_FRAME (R135): nothing is received on a disabled port, in the OFF role or without a link. -/
def execRxFrame (dt port : Nat) (f : RxFrame) (s : State) : Host.Outcome State Fault Refusal :=
  let t := s.advance dt
  finish s (
    if 26 ≤ port ∨ t.portRuns port = false ∨ t.role port = 0 ∨ (t.port port).up = false then t
    else (t.noteFec port f).receive port f)

end Sys2Proof.Machine
end

