-- ==== Sys2Proof/Machine/Link.lean ====
section
/-!
DEFINITION. The Zhoeno link (spec/12): headers and carriage, tiles and their states, ECHO, HELLO, RET and PARAM, seal rolls, the
launch plan, PIX and LATCH.
-/
namespace Sys2Proof.Machine

/-! ## Settings of the link -/

/-- TILE_LINK record of a tile: {TILE, LANE, POSITION, SERIAL, PRESENT_ADJ, reserved} (R309). -/
def tileLinkRec (cfg : Store) (tile : Nat) : Option Bytes := cfg.recOf Od.tileLink tile

def linkLane (r : Bytes) : Nat := u8 r 2

/-- ZH_LANE of a lane: {ENCAP, LATCH_MODE, SEAL, MSS_MAX, LOCAL_IPV4} (R309). -/
def zhLaneRec (cfg : Store) (lane : Nat) : Bytes := cfg.rec1 Od.zhLane lane

/-- The sections a device holds: the first SECTION_COUNT records of SECTION_LIST (R14). -/
def sectionsOf (cfg : Store) : List Bytes := (cfg.recs Od.sectionList).take (cfg.num Od.sectionCount)

/-- The section of a tile (R13, R14). -/
def tileSection (cfg : Store) (tile : Nat) : Option Nat :=
  ((sectionsOf cfg).find? fun r => decide (u16 r 2 ≤ tile) && decide (tile < u16 r 2 + u16 r 4)).map fun r => u16 r 0

/-- The generation of a lane (R285). -/
def State.gen (s : State) (lane : Nat) : Nat := match s.reg Od.rate lane with | 0 => 1 | 1 => 2 | _ => 3

/-- Frames of a lane are sealed (R285). -/
def State.laneSeals (s : State) (cfg : Store) (lane : Nat) : Bool :=
  s.gen lane == 3 || (s.gen lane == 2 && u8 (zhLaneRec cfg lane) 2 == 1)

def State.tile (s : State) (n : Nat) : Tile := kvGetD n {} s.zl.tiles
def State.setTile (s : State) (n : Nat) (t : Tile) : State := { s with zl := { s.zl with tiles := kvSet n t s.zl.tiles } }

/-- The settings the link state follows: those of the newest fixed frame. -/
def State.linkCfg (s : State) : Store := s.tl.newest

/-! ## Frames to tiles (R286–R289) -/

/-- A frame of the link engine. -/
structure ZhOut where
  lane : Nat
  ty : Nat
  sec : Nat := 0xFFFF
  tile : Nat
  mac : Nat := 2 ^ 48 - 1
  ip : Nat := 2 ^ 32 - 1
  seq : Nat := 0
  frame : Nat := 0
  fmt : Nat := 0
  time : Nat := 0
  hold : Bool := false
  pay : Bytes
  sealed : Bool := false
  keyId : Nat := 0
  tc : Nat := 2
  launch : Nat := 0
  tag : Nat := 0
  seg : Bool := false
  mss : Nat := 0
  tsReq : Bool := false
  compl : Bool := false
  deriving DecidableEq, Repr

/-- The Zhoeno header (R287, R288): TEST 0; LAST 1 in every frame that is not PIX (R289). -/
def zhHeader (gen epoch : Nat) (z : ZhOut) : Bytes :=
  let last := z.ty != 0
  if gen = 1 then
    natBE 1 (16 + z.ty) ++ natBE 1 (128 * b2n last + 64 * b2n z.hold) ++ natBE 2 z.tile ++ natBE 2 z.frame ++ natBE 4 0 ++
      natBE 2 z.pay.length ++ natBE 2 z.fmt ++ natBE 2 0
  else
    natBE 1 (16 * gen + z.ty) ++ natBE 1 (128 * b2n last + 64 * b2n z.hold + 32 * b2n z.sealed + z.keyId) ++ natBE 2 z.sec ++
      natBE 2 z.tile ++ natBE 2 z.seq ++ natBE 4 epoch ++ natBE 4 z.frame ++ natBE 4 0 ++ natBE 2 z.pay.length ++ natBE 2 z.fmt ++
      natBE 8 z.time

/-- Ethernet, and under UDP/IPv4 the IP and UDP headers, before the Zhoeno header (R286); `len` counts what follows UDP. -/
def State.zhCarrier (s : State) (cfg : Store) (lane mac ip len : Nat) : Bytes :=
  let r := zhLaneRec cfg lane
  let src := natBE 6 (Config.baseMac + lane)
  if u8 r 0 = 0 then natBE 6 mac ++ src ++ natBE 2 (s.reg Od.zhEthertype)
  else
    let h := natBE 1 0x45 ++ natBE 1 (Config.ipOpen lane 0) ++ natBE 2 (28 + len) ++ natBE 4 (Config.ipOpen lane 1) ++
      natBE 1 (Config.ipOpen lane 2) ++ natBE 1 17 ++ natBE 2 0 ++ slice r 5 4 ++ natBE 4 ip
    natBE 6 mac ++ src ++ natBE 2 0x0800 ++ putAt h 10 (natBE 2 (ipSum h)) ++ natBE 2 51121 ++ natBE 2 51121 ++
      natBE 2 (8 + len) ++ natBE 2 0

/-- Bytes before the payload: Ethernet, carriage and Zhoeno header (R290). -/
def State.zhHdrLen (s : State) (cfg : Store) (lane : Nat) : Nat :=
  (if u8 (zhLaneRec cfg lane) 0 = 0 then 14 else 42) + (if s.gen lane = 1 then 16 else 32)

/-- Give a frame of the link to the lane's MAC. A frame that must be sealed is not sent while its section does not seal
(R307). -/
def State.sendZh (s : State) (cfg : Store) (z : ZhOut) : State :=
  let okSeal := match s.sealOf z.sec with | some x => x.sealing | none => false
  if z.sealed ∧ okSeal = false then s
  else
    let gen := s.gen z.lane
    let zh := zhHeader gen s.tow.epochInUse z
    let car := s.zhCarrier cfg z.lane z.mac z.ip (zh.length + z.pay.length + 8 * b2n z.sealed)
    s.submitTx z.lane
      { tc := z.tc, hdr := car ++ zh, pay := z.pay, launch := z.launch, tag := z.tag, seg := z.seg, mss := z.mss
        l3 := if u8 (zhLaneRec cfg z.lane) 0 = 0 then 0 else 14, zh := car.length, tsReq := z.tsReq, gated := true
        z1 := gen == 1, sealed := z.sealed, compl := z.compl, seqBase := z.seq }

/-- A frame to one tile: its lane, section, addresses and SEQ; SEQ counts every frame sent to the tile (R305). -/
def State.toTile (s : State) (cfg : Store) (n segs : Nat) (plain : Bool) (f : ZhOut → ZhOut) : State :=
  match tileLinkRec cfg n with
  | none => s
  | some r =>
    let t := s.tile n
    let sec := (tileSection cfg n).getD 0xFFFF
    let sealed := s.laneSeals cfg (linkLane r) && !plain
    let keyId := match s.sealOf sec with | some x => x.keyId | none => 0
    let z := f { lane := linkLane r, ty := 0, sec := sec, tile := n, mac := t.mac, ip := t.ipv4, seq := t.seq, pay := []
                 sealed := sealed, keyId := if sealed then keyId else 0 }
    (s.setTile n { t with seq := (t.seq + segs) % 65536 }).sendZh cfg z

/-! ## HELLO (R299–R301) -/

/-- Cloyr's HELLO payload (R300). -/
def helloPay (cfg : Store) (lane serial fmt order : Nat) : Bytes :=
  natBE 8 serial ++ natBE 2 fmt ++ natBE 1 order ++ natBE 1 (u8 (zhLaneRec cfg lane) 1) ++ natBE 6 (Config.baseMac + lane) ++
    (if u8 (zhLaneRec cfg lane) 0 = 0 then natBE 4 0 else slice (zhLaneRec cfg lane) 5 4) ++ natBE 2 (cfg.num Od.retPeriod) ++
    natBE 4 (cfg.num Od.blankAfter) ++ natBE 4 0

/-- HELLO with TILE = 0xFFFF: asks the tiles of a section to announce themselves (R13, R299, R390). Its SEQ is the section's. Serial, format and
order read 0 (log entry 53). -/
def State.helloAll (s : State) (cfg : Store) (lane sec mac ip : Nat) : State :=
  let seq := kvGetD sec 0 s.zl.secSeq
  let s := { s with zl := { s.zl with secSeq := kvSet sec ((seq + 1) % 65536) s.zl.secSeq } }
  s.sendZh cfg { lane := lane, ty := 5, sec := sec, tile := 0xFFFF, mac := mac, ip := ip, seq := seq, pay := helloPay cfg lane 0 0 0 }

/-- The sections whose tiles a lane carries, in order of section number; 0xFFFF alone where it carries none (log entry 53). -/
def laneSections (cfg : Store) (lane : Nat) : List Nat :=
  let l := ((cfg.recs Od.tileLink).filter fun r => linkLane r == lane).filterMap fun r => tileSection cfg (u16 r 0)
  if l.isEmpty then [0xFFFF] else sortBy (fun (a b : Nat) => decide (a ≤ b)) l.eraseDups

/-- Every tile of a lane is asked to announce itself: one HELLO for each of its sections (R13, R390). -/
def State.helloLane (s : State) (cfg : Store) (lane : Nat) : State :=
  (laneSections cfg lane).foldl (fun (s : State) sec => s.helloAll cfg lane sec (2 ^ 48 - 1) (2 ^ 32 - 1)) s

/-- The tile's TILE_COLOUR record. -/
def tileColourRec (cfg : Store) (n : Nat) : Bytes := (cfg.recOf Od.tileColour n).getD []
def tileMapRec (cfg : Store) (n : Nat) : Bytes := (cfg.recOf Od.tileMap n).getD []

/-- FORMATS bit of a pixel format (R300). -/
def formatBit (f : Nat) : Nat := if f = 0x18 then 0 else if f = 0x1E then 1 else if f = 0x24 then 2 else if f = 0x30 then 3 else 4

/-- Bytes of a tile's payload (R290). -/
def tileBytes (cfg : Store) (n : Nat) : Nat :=
  let m := tileMapRec cfg n
  let f := u16 (tileColourRec cfg n) 2
  ceilDiv (u16 m 4 * u16 m 6 * formatQ f * formatChannels f) 8

/-- KEY_OFFER (R303): one PARAM item. -/
def keyOffer (keyId : Nat) (wrap : Bytes) : Bytes := natBE 2 1 ++ natBE 2 44 ++ natBE 1 keyId ++ natBE 3 0 ++ wrap

def isKeyOffer (p : Bytes) : Bool := u16 p 0 == 1 && p.length == 48

/-- Wrap the key of a seal slot under its section's tile master key; each slot is checked as it is used (R421). -/
def State.wrapSeal (s : State) (cfg : Store) (sec slot : Nat) : State × Option Bytes :=
  match tmkSlot cfg sec with
  | none => (s, none)
  | some m =>
    match s.useSlot m with
    | (s, none) => (s, none)
    | (s, some kek) =>
      match s.useSlot slot with
      | (s, none) => (s, none)
      | (s, some k) => (s, some (kwWrap kek k))

/-- Queue a PARAM for a tile. -/
def State.queueParam (s : State) (n frame : Nat) (p : Bytes) : State :=
  let t := s.tile n
  s.setTile n { t with paramQ := t.paramQ ++ [(frame, p)] }

/-- Send a PARAM: a KEY_OFFER alone goes unsealed (R303). -/
def State.sendParam (s : State) (n frame : Nat) (p : Bytes) : State :=
  s.toTile s.linkCfg n 1 (isKeyOffer p) fun z => { z with ty := 2, frame := frame, pay := p }

/-- The next queued PARAM goes out once none waits for its acknowledgement (R303). -/
def State.pumpParam (s : State) (n : Nat) : State :=
  let t := s.tile n
  match t.param, t.paramQ with
  | none, (frame, p) :: rest =>
    (s.setTile n { t with param := some (t.seq, frame, p, s.reg Od.currentFrame), paramQ := rest }).sendParam n frame p
  | _, _ => s

/-- Offer a section's key to one tile. -/
def State.offerTo (s : State) (cfg : Store) (n keyId : Nat) (slot : Option Nat) (sec : Nat) : State :=
  match slot with
  | none => s
  | some i =>
    match s.wrapSeal cfg sec i with
    | (s, some w) => (s.queueParam n (s.reg Od.currentFrame) (keyOffer keyId w)).pumpParam n
    | (s, none) => s

/-- PARAM_RESEND (R303): at most once per 4 frames. -/
def execParamResend (tile : Nat) (s : State) : Host.Outcome State Fault Refusal :=
  let t := s.tile tile
  finish s (match t.param with
    | some (seq, frame, p, last) =>
      let now := s.reg Od.currentFrame
      if s.alive = false ∨ (now + 2 ^ 32 - last) % 2 ^ 32 < 4 then s
      else (s.setTile tile { t with param := some (seq, frame, p, now) }).sendParam tile frame p
    | none => s)

/-! ## Seal rolls (R306) -/

def State.tilesOf (s : State) (cfg : Store) (sec : Nat) : List Nat := (s.zl.tiles.map (·.1)).filter fun n => tileSection cfg n == some sec

/-- Draw the next key of a rolling section and offer it to its tiles (R306 step 1). -/
def State.offerRoll (s : State) (cfg : Store) (sec frame : Nat) : State :=
  match s.sealOf sec, tmkSlot cfg sec with
  | some x, some m =>
    if x.rolling = false ∨ x.next.isSome then s
    else
      match s.offerSeal x m frame with
      | (s, false) => s
      | (s, true) =>
        let next := match s.sealOf sec with | some y => y.next | none => none
        (s.tilesOf cfg sec).foldl (fun s n =>
          let st := (s.tile n).state
          if st = 1 ∨ st = 2 ∨ st = 3 then s.offerTo cfg n ((x.keyId + 1) % 16) next sec else s) s
  | _, _ => s

/-- Start a roll; a trigger during a roll joins it (R306). -/
def State.startRoll (s : State) (cfg : Store) (sec frame : Nat) : State :=
  match s.sealOf sec with
  | none => s
  | some x => if x.rolling then s else (s.setSeal { x with rolling := true, fullSaid := false }).offerRoll cfg sec frame

/-- The switch to the next key (R306 steps 2 and 3). -/
def State.switchKey (s : State) (cfg : Store) (sec frame : Nat) (x : Seal) : State :=
  let id := (x.keyId + 1) % 16
  let s := s.freeSlot x.prev
  let s := s.setSeal { x with keyId := id, cur := x.next, next := none, prev := x.cur, since := frame, prevUntil := frame + s.reg Od.rollGrace
                              rolling := false, underKey := 0, lastFrame := none, guarded := false, limited := false }
  let s := (s.count Od.sealRolls).raise 0x5007 (natBE 2 sec ++ natBE 1 id)
  (s.tilesOf cfg sec).foldl (fun s n =>
    let t := s.tile n
    if t.state = 2 then
      (if t.keyReady ∧ t.keyReadyId = id then s.setTile n { t with keyHeld := some id }
       else (s.setTile n { t with state := 1, accepted := 0 }).offerTo cfg n id x.next sec)
    else if t.keyReady ∧ t.keyReadyId = id then s.setTile n { t with keyHeld := some id } else s) s

/-- A rolling section may switch at the close of `frame` (R306). -/
def State.mayswitch (s : State) (cfg : Store) (sec frame : Nat) (x : Seal) : Bool :=
  let id := (x.keyId + 1) % 16
  x.rolling && x.next.isSome &&
    ((s.tilesOf cfg sec).all (fun n => let t := s.tile n; t.state != 2 || (t.keyReady && t.keyReadyId == id)) ||
      decide (x.rollFrame + s.reg Od.rollGrace ≤ frame) || decide (1073741824 ≤ x.underKey))

/-- One section at the close of a frame: switch, offer, trigger, and whether it seals (R302, R306–R308). -/
def State.closeSeal (s : State) (cfg : Store) (frame sec : Nat) : State :=
  let s := match s.sealOf sec with
    | some x => if s.mayswitch cfg sec frame x then s.switchKey cfg sec frame x else s
    | none => s
  let s := match s.sealOf sec with
    | some x => if x.prev.isSome ∧ x.prevUntil ≤ frame then (s.freeSlot x.prev).setSeal { x with prev := none } else s
    | none => s
  let s := match s.sealOf sec with
    | some x => if x.rolling = false ∧ (s.reg Od.sealRoll ≤ x.underKey ∨ x.cur = none) then s.startRoll cfg sec frame else s.offerRoll cfg sec frame
    | none => s
  s.sealCheck cfg sec

/-- The seals at the close of the frame at place `frame`; the epoch in force takes effect (R308). -/
def State.closeSeals (s : State) (cfg : Store) (frame : Nat) : State :=
  let s := ({ s with zl := { s.zl with lastOrd := frame } } : State).sealSections cfg
  let s := if s.tow.epochInUse = s.nv.epoch then s
    else
      { s with tow := { s.tow with epochInUse := s.nv.epoch }
               zl := { s.zl with seals := s.zl.seals.map fun x => { x with lastFrame := none, lastEpoch := s.nv.epoch, guarded := false } } }
  s.zl.seals.foldl (fun s x => s.closeSeal cfg frame x.secNo) s

/-- R305: after a timeline restart, sections whose next frame is not later than the last one sealed stop sealing and roll. -/
def State.nonceGuard (s : State) (cfg : Store) (next : Nat) : State :=
  s.zl.seals.foldl (fun s x =>
    match x.lastFrame with
    | some f =>
      if x.lastEpoch = s.tow.epochInUse ∧ frameLater (frameNo next) f = false then
        let s := (s.setSeal { x with guarded := true, sealing := false }).count Od.nonceGuards
        (s.raise 0x5009 (natBE 2 x.secNo ++ natBE 1 0)).startRoll cfg x.secNo s.zl.lastOrd
      else s
    | none => s) s

/-- ORPHAN_GRACE_EXPIRE (R422, R307): at the (ORPHAN_GRACE + 1)-th tick after the invalidation. -/
def execOrphanGraceExpire (slot : Nat) (s : State) : Host.Outcome State Fault Refusal :=
  finish s (match s.keys.graces.find? (fun g => g.slot == slot) with
    | some g =>
      let t := s.goTo (tickTime g.rate g.endTick)
      let t := t.endGrace g
      t.zl.seals.foldl (fun t x => t.sealCheck t.linkCfg x.secNo) t
    | none => s)

/-! ## Tile states (R299) -/

/-- A tile whose δ is valid and that holds the current key runs (R298, R299). -/
def State.tileReady (s : State) (n : Nat) : State :=
  let t := s.tile n
  let cfg := s.linkCfg
  match tileLinkRec cfg n with
  | none => s
  | some r =>
    let sec := (tileSection cfg n).getD 0xFFFF
    let keyed := !s.laneSeals cfg (linkLane r) ||
      (match s.sealOf sec with | some x => x.cur.isSome && t.keyHeld == some x.keyId | none => false)
    if t.state = 1 ∧ 4 ≤ t.accepted ∧ keyed then
      (s.setTile n { t with state := 2, lastHeard := s.now }).raise 0x5002 (natBE 2 n ++ natBE 4 (ofS 32 t.delta))
    else s

/-- A verified RET or ECHO reply is heard (R299). -/
def State.hearTile (s : State) (n : Nat) : State :=
  let t := s.tile n
  let s := s.setTile n { t with lastHeard := s.now, state := if t.state = 3 then 2 else t.state }
  if t.state = 3 then s.raise 0x5002 (natBE 2 n ++ natBE 4 (ofS 32 t.delta)) else s

/-- TILE_TIMEOUT (R299). -/
def execTileTimeout (tile : Nat) (s : State) : Host.Outcome State Fault Refusal :=
  let t := s.tile tile
  finish s (
    if t.state ≠ 2 ∨ s.alive = false then s
    else
      let u := s.goTo (t.lastHeard + s.reg Od.tileTimeout * 1000000)
      ((u.setTile tile { t with state := 3 }).count Od.tileLosses).raise 0x5003 (natBE 2 tile))

/-- The link runs on a lane: its role is TILE and the port runs. -/
def State.tileLane (s : State) (lane : Nat) : Bool := decide (lane < 24) && s.role lane == 2 && s.portRuns lane

/-- The record a HELLO matches (R301). -/
def helloMatch (cfg : Store) (lane serial : Nat) : Option Bytes :=
  let mine := (cfg.recs Od.tileLink).filter fun r => linkLane r == lane
  match mine.find? (fun r => u64 r 4 == serial) with
  | some r => some r
  | none =>
    match mine.filter (fun r => u64 r 4 == 0) with
    | [r] => some r
    | _ => none

/-- The condition of R299 that a HELLO fails: 0 generation, 1 format, 2 broadcast, 3 payload. -/
def State.helloFault (s : State) (cfg : Store) (lane n : Nat) (p : Bytes) : Option Nat :=
  if bit (u8 p 12) (s.gen lane - 1) = false then some 0
  else if bit (u16 p 14) (formatBit (u16 (tileColourRec cfg n) 2)) = false then some 1
  else if u8 (zhLaneRec cfg lane) 1 = 1 ∧ bit (u8 p 13) 0 = false then some 2
  else if u32 p 20 < tileBytes cfg n then some 3
  else none

/-- The assigning HELLO (R300). -/
def State.assignHello (s : State) (cfg : Store) (lane n : Nat) (serial : Nat) : State :=
  let c := tileColourRec cfg n
  s.toTile cfg n 1 true fun z => { z with ty := 5, pay := helloPay cfg lane serial (u16 c 2) (u8 c 4) }

/-- A matching HELLO that passes: the tile is assigned, its key offered where it lacks it (R299, R306). A tile that comes back is measured
afresh and keeps its last δ meanwhile. -/
def State.assignTile (s : State) (cfg : Store) (lane n : Nat) (f : ZhFrame) (p : Bytes) : State :=
  let t := s.tile n
  let again := t.state == 1
  let sec := (tileSection cfg n).getD 0xFFFF
  let held := if bit (u8 p 29) 0 then some (u8 p 28 / 16) else none
  let s := s.setTile n { t with state := 1, mac := f.mac, ipv4 := f.ip, presentLat := u32 p 16, nextEcho := s.now, echoes := []
                                accepted := if again then t.accepted else 0, keyHeld := held
                                window := if again then t.window else [], jumps := if again then t.jumps else []
                                keyReady := bit (u8 p 29) 1, keyReadyId := u8 p 28 % 16, lastHeard := s.now }
  let s := if again then s else s.raise 0x5001 (natBE 2 n ++ natBE 1 lane)
  let s := s.assignHello cfg lane n (u64 p 4)
  match s.sealOf sec with
  | some x =>
    if s.laneSeals cfg lane = false then s
    else
      let s := if held = some x.keyId ∧ x.cur.isSome then s else s.offerTo cfg n x.keyId x.cur sec
      if x.rolling then s.offerTo cfg n ((x.keyId + 1) % 16) x.next sec else s
  | none => s

/-- HELLO_RX (R300, R301). -/
def State.takeHello (s : State) (lane : Nat) (f : ZhFrame) : State :=
  let cfg := s.linkCfg
  let gen := s.gen lane
  let p := f.bytes.drop (if gen = 1 then 16 else 32)
  if u8 f.bytes 0 ≠ 16 * gen + 5 ∨ p.length < 32 then s
  else
    let s := s.count Od.helloRx
    match helloMatch cfg lane (u64 p 4) with
    | none =>
      let s := s.count Od.helloUnmatched
      let recent := match kvGet lane s.zl.unmatched with | some t => decide (s.now < t + 1000000000) | none => false
      if recent then s
      else ({ s with zl := { s.zl with unmatched := kvSet lane s.now s.zl.unmatched } }).raise 0x5005 (natBE 2 lane ++ slice p 8 4)
    | some r =>
      let n := u16 r 0
      match s.helloFault cfg lane n p with
      | none => s.assignTile cfg lane n f p
      | some c => if (s.tile n).state = 0 then (s.setTile n { s.tile n with state := 4, mac := f.mac, ipv4 := f.ip }).raise 0x5004 (natBE 2 n ++ natBE 1 c) else s

def execHelloRx (dt lane : Nat) (f : ZhFrame) (s : State) : Host.Outcome State Fault Refusal :=
  let t := s.advance dt
  finish s (if t.tileLane lane then t.takeHello lane f else t)

/-- Cloyr's HELLO to a tile whose address it knows, to ask it to announce itself (R299): `cfg` names its lane and section. -/
def State.askTile (s : State) (cfg : Store) (n : Nat) (t : Tile) : State :=
  match tileLinkRec cfg n with
  | some r =>
    if t.mac ≠ 0 ∧ s.tileLane (linkLane r) then s.helloAll cfg (linkLane r) ((tileSection cfg n).getD 0xFFFF) t.mac t.ipv4 else s
  | none => s

/-- A tile returns to ABSENT; Cloyr sends its HELLO once where it knows the tile (R299). -/
def State.absentTile (s : State) (cfg : Store) (n : Nat) (hello : Bool) : State :=
  let t := s.tile n
  let s := s.setTile n { ({} : Tile) with mac := t.mac, ipv4 := t.ipv4, seq := t.seq, delta := t.delta }
  if hello then s.askTile cfg n t else s

/-- PARAM items of the link settings that a commit changed: BLANK_AFTER and RET_PERIOD (R303). -/
def linkParams (old new : Store) : Bytes :=
  let item (pid : Nat) (r : OdRow) : Bytes := if old.num r = new.num r then [] else natBE 2 pid ++ natBE 2 4 ++ natBE 4 (new.num r)
  item 2 Od.blankAfter ++ item 3 Od.retPeriod

/-- Changed link settings go in one PARAM, which applies at frame `k`, to every tile that has been assigned with the old ones (R303). -/
def State.paramTiles (s : State) (old new : Store) (k : Nat) : State :=
  let p := linkParams old new
  let on := (s.zl.tiles.filter fun t => t.2.state == 1 || t.2.state == 2 || t.2.state == 3).map (·.1)
  if p.isEmpty then s else on.foldl (fun (s : State) n => (s.queueParam n (frameNo k) p).pumpParam n) s

/-- New settings are fixed for frame `k`: tiles follow the TILE_LINK records (R299), and the rest learn of changed link settings (R303). A
tile whose record is removed is asked once to announce itself, on its old lane. -/
def State.bindTiles (s : State) (old new : Store) (k : Nat) : State :=
  let recs := new.recs Od.tileLink
  let gone := s.zl.tiles.filter fun p => (tileLinkRec new p.1).isNone
  let s := gone.foldl (fun (s : State) p => s.askTile old p.1 p.2) s
  let s := { s with zl := { s.zl with tiles := s.zl.tiles.filter fun p => (tileLinkRec new p.1).isSome } }
  let s := s.paramTiles old new k
  recs.foldl (fun s r =>
    let n := u16 r 0
    match kvGet n s.zl.tiles with
    | none => s.setTile n {}
    | some _ =>
      let moved : Bool := match tileLinkRec old n with | some o => linkLane o != linkLane r | none => false
      if moved ∨ u16 (tileColourRec old n) 2 ≠ u16 (tileColourRec new n) 2 then s.absentTile new n true else s) s

/-- Tiles of a lane in TILE_LINK POSITION order, with their records. -/
def laneTiles (cfg : Store) (lane : Nat) : List Bytes :=
  let rs := (cfg.recs Od.tileLink).filter fun r => linkLane r == lane
  sortBy (fun a b => decide (u8 a 3 ≤ u8 b 3)) rs

/-! ## ECHO (R296–R298) -/

/-- The next ECHO of a RUNNING or LOST tile: at its own phase of the period, by its place among the lane's tiles, so that they are spread evenly
(R296). -/
def State.nextEchoAt (s : State) (tile lane period : Nat) : Nat :=
  let ns := (laneTiles s.linkCfg lane).map fun r => u16 r 0
  let phase := ns.findIdx (· == tile) * period / max ns.length 1
  s.now + period - (s.now + period - phase % max period 1) % max period 1

/-- ECHO_SEND (R296). -/
def execEchoSend (tile : Nat) (s : State) : Host.Outcome State Fault Refusal :=
  let t := s.tile tile
  finish s (
    match tileLinkRec s.linkCfg tile with
    | none => s
    | some r =>
      if ¬(t.state = 1 ∨ t.state = 2 ∨ t.state = 3) ∨ s.tileLane (linkLane r) = false then s
      else
        let u := s.goTo t.nextEcho
        let id := u.zl.echoNext
        let next := if t.state = 1 then u.now + 1000000 else u.nextEchoAt tile (linkLane r) (u.reg Od.echoPeriod * 1000000)
        let u := { u with zl := { u.zl with echoNext := (id + 1) % 4096 } }
        let u := u.setTile tile { t with echoes := t.echoes ++ [(id, u.now, none)], nextEcho := next }
        let k := u.reg Od.currentFrame
        u.toTile u.linkCfg tile 1 false fun z => { z with ty := 4, frame := k, pay := natBE 2 id ++ List.replicate 14 0#8, tag := id, tsReq := true })

/-- The mean of measurements, rounded half up (R298). -/
def meanNs (l : List Int) : Int := divRound (l.foldl (· + ·) 0) (max l.length 1)

/-- A new window of `n` more accepted measurements: δ follows it once it is valid (R298, R299). -/
def Tile.takeWindow (t : Tile) (w : List Int) (n : Nat) : Tile :=
  { t with window := w, jumps := [], accepted := t.accepted + n, delta := if 4 ≤ t.accepted + n then meanNs w else t.delta }

/-- An accepted or jumping measurement (R298). -/
def Tile.measure (t : Tile) (m : Int) (jump : Nat) : Tile :=
  let near (a b : Int) : Bool := decide (a ≤ b + jump) && decide (b ≤ a + jump)
  if t.window.isEmpty ∨ near m (meanNs t.window) then t.takeWindow (pushLast 8 t.window m) 1
  else
    let js := pushLast 3 t.jumps m
    if js.length = 3 ∧ js.all (fun a => js.all (near a)) then t.takeWindow js 3 else { t with jumps := js }

/-- The tile a frame names, on its lane. -/
def State.tileOfFrame (s : State) (lane : Nat) (b : Bytes) : Option Nat :=
  let n := if s.gen lane = 1 then u16 b 2 else u16 b 4
  match tileLinkRec s.linkCfg n with
  | some r => if linkLane r = lane ∧ (s.tile n).state ≠ 0 ∧ (s.tile n).state ≠ 4 then some n else none
  | none => none

/-- The seal of a frame from a tile: none needed, verified under a KEYID, or failed (R302, R304). -/
def State.verifyTile (s : State) (lane : Nat) (f : ZhFrame) : State × Bool :=
  if s.laneSeals s.linkCfg lane = false then (s, true)
  else
    match s.sealOf (u16 f.bytes 2) with
    | none => (s, false)
    | some x =>
      match x.slotOf (u8 f.bytes 1 % 16) with
      | none => (s, false)
      | some i =>
        match s.useSlot i with
        | (s, none) => (s, false)
        | (s, some k) => (s, sealTag k f.bytes (f.bytes.drop 32) true == f.tag)

/-- ECHO_REPLY_RX (R297); a verified reply too late to measure is still heard (R299). -/
def State.takeEcho (s : State) (lane : Nat) (f : ZhFrame) : State :=
  let gen := s.gen lane
  let p := f.bytes.drop (if gen = 1 then 16 else 32)
  match s.tileOfFrame lane f.bytes with
  | none => s
  | some n =>
    if u8 f.bytes 0 ≠ 16 * gen + 4 then s
    else
      match (s.tile n).echoes.find? (fun e => e.1 == u16 p 0) with
      | none =>
        match s.verifyTile lane f with
        | (s, true) => s.hearTile n
        | (s, false) => s
      | some (id, sent, cap) =>
        let t := s.tile n
        let s := s.setTile n { t with echoes := t.echoes.filter (fun e => e.1 != id) }
        match s.verifyTile lane f with
        | (s, false) => s.count Od.echoDiscarded
        | (s, true) =>
          let s := s.hearTile n
          match cap with
          | none => s.count Od.echoDiscarded
          | some (t1, g) =>
            if g ≠ s.trimGen ∨ sent + 10000000 < s.now then s.count Od.echoDiscarded
            else
              let r : Nat := u32 p 4 * 65536 + u16 p 8
              let m := divRound (((f.capture * 65536 + f.frac : Nat) : Int) - (t1 : Int) - (r : Int)) 131072
              (s.setTile n ((s.tile n).measure m (s.reg Od.echoJump))).tileReady n

def execEchoReplyRx (dt lane : Nat) (f : ZhFrame) (s : State) : Host.Outcome State Fault Refusal :=
  let t := s.advance dt
  finish s (if t.tileLane lane then t.takeEcho lane f else t)

/-- ECHO_TIMEOUT (R297): no reply within 10 ms. -/
def execEchoTimeout (tile : Nat) (s : State) : Host.Outcome State Fault Refusal :=
  let t := s.tile tile
  finish s (match t.echoes with
    | (_, sent, _) :: rest =>
      if s.alive = false then s
      else ((s.goTo (sent + 10000000)).setTile tile { t with echoes := rest }).count Od.echoDiscarded
    | [] => s)

/-- A transmit capture reaches the link engine (R107, R297). -/
def State.echoCapture (s : State) (lane tag : Nat) (e : Bytes) : State :=
  let cap := captureNs (slice e 4 12) * 65536 + u16 e 14
  let gen := u8 e 2 / 32 % 2
  let hit := (s.zl.tiles.find? fun p => (match tileLinkRec s.linkCfg p.1 with | some r => linkLane r == lane | none => false) &&
    p.2.echoes.any fun x => x.1 == tag)
  match hit with
  | some (n, t) => s.setTile n { t with echoes := t.echoes.map fun x => if x.1 = tag then (x.1, x.2.1, some (cap, gen)) else x }
  | none => s

/-! ## RET (R302, R308, R400) -/

/-- What the towpath does with an EPOCH_FENCED condition (R400). While the one advance is being written, a report below the
new epoch belongs to the same condition (DEDUCED, log entry 54). -/
def State.fencedBy (s : State) (sec high : Nat) : State :=
  if s.tow.state ≠ 3 then s
  else if s.tow.advanced = false ∧ s.now ≤ s.tow.gateOpenedAt + s.reg Od.fenceGrace * 1000000 then
    { s with tow := { s.tow with advanced := true, epochWrite := some ((high + 1) % 2 ^ 32) } }
  else if (match s.tow.epochWrite with | some e => decide (high < e) | none => false) then s
  else
    let t := s.towRelease 5 4
    (t.count Od.fences).raise 0xD004 (natBE 2 sec ++ natBE 4 high)

/-- R308: a tile reports an epoch above Cloyr's own while the gate is open. -/
def State.epochFenced (s : State) (sec n high : Nat) : State :=
  if s.gate = false ∨ high ≤ s.nv.epoch then s
  else
    let recent := match kvGet sec s.zl.fenced with | some t => decide (s.now < t + 1000000000) | none => false
    let s := s.count Od.epochFencedCount
    let s := if recent then s
      else ({ s with zl := { s.zl with fenced := kvSet sec s.now s.zl.fenced } }).raise 0x500A (natBE 2 sec ++ natBE 2 n ++ natBE 4 high)
    s.fencedBy sec high

/-- A verified RET (R302): TILE_STATUS, temperature, PARAM acknowledgement, key readiness, epochs. Answers the SEQ of a PARAM
it acknowledges. -/
def State.takeRet (s : State) (lane : Nat) (f : ZhFrame) (n : Nat) : State × Option Nat :=
  let gen := s.gen lane
  let p := f.bytes.drop (if gen = 1 then 16 else 32)
  let s := (s.count Od.retRx).hearTile n
  let t := s.tile n
  let st := u8 p 2
  let sec := (tileSection s.linkCfg n).getD 0xFFFF
  let cur := match s.sealOf sec with | some x => if gen ≠ 1 ∧ u8 f.bytes 1 % 16 = x.keyId then some x.keyId else t.keyHeld | none => t.keyHeld
  let ready := bit st 5
  let acked := match t.param with
    | some (seq, _, _, _) => if 0 ≤ seqDiff16 (u16 p 20) seq then some seq else none
    | none => none
  let keyHeld := match s.sealOf sec with
    | some x => if ready ∧ st % 16 = x.keyId then some x.keyId else cur
    | none => cur
  let t := { t with lastRetFrame := (if gen = 1 then u16 f.bytes 4 else u32 f.bytes 12), epochHigh := u32 p 4, cause := u8 p 3
                    keyReady := ready, keyReadyId := st % 16, keyHeld := keyHeld, paramSeq := u16 p 20
                    param := if acked.isSome then none else t.param }
  let s := s.setTile n t
  let s := if u16 p 0 = 0x8000 then s
    else { s with col := { s.col with temps := kvSet n (s16 p 0, s.now) s.col.temps, stale := s.col.stale.filter (· != n) } }
  let s := if gen = 1 then s else { s with nv := { s.nv with highest := max s.nv.highest (u32 p 4) } }
  let s := (s.pumpParam n).tileReady n
  (if gen = 1 then s else s.epochFenced sec n (u32 p 4), acked)

/-- A RET as it arrives (R302): dropped unsealed on a sealing lane, refused where its seal fails. -/
def State.retFrame (s : State) (lane : Nat) (f : ZhFrame) : State × Option (Nat × Nat) :=
  match s.tileOfFrame lane f.bytes with
  | none => (s, none)
  | some n =>
    if u8 f.bytes 0 ≠ 16 * s.gen lane + 3 then (s, none)
    else if s.laneSeals s.linkCfg lane ∧ bit (u8 f.bytes 1) 5 = false then (s.count Od.unsealedDrops, none)
    else
      match s.verifyTile lane f with
      | (s, false) => (s.count Od.retSealFail, none)
      | (s, true) =>
        match s.takeRet lane f n with
        | (s, some q) => (s, some (n, q))
        | (s, none) => (s, none)

/-! ## The launch plan (R290–R292) -/

/-- Bytes of a pixel group of a format (R290). -/
def formatGroup (f : Nat) : Nat := if f = 0x30 then 6 else if f = 0x24 then 9 else if f = 0x1E then 15 else if f = 0x18 then 3 else 8

/-- MSS of a tile (R290). -/
def State.tileMss (s : State) (cfg : Store) (lane n : Nat) : Nat :=
  let g := formatGroup (u16 (tileColourRec cfg n) 2)
  min ((s.reg Od.maxFrame lane - s.zhHdrLen cfg lane - 8 * b2n (s.laneSeals cfg lane) - 4) / g * g) (u16 (zhLaneRec cfg lane) 3)

/-- σ of a tile: the line time of its PIX segments, rounded up to a whole ns (R291). -/
def State.tileSigma (s : State) (cfg : Store) (lane n : Nat) : Nat :=
  let mss := s.tileMss cfg lane n
  let len := tileBytes cfg n
  let extra := s.zhHdrLen cfg lane + 8 * b2n (s.laneSeals cfg lane)
  let full := if mss = 0 then 0 else len / mss
  let rest := if mss = 0 then len else len % mss
  let bytes := full * (frameLen (extra + mss) + 20) + (if rest = 0 then 0 else frameLen (extra + rest) + 20)
  ceilDiv (bytes * 8 * 1000) (s.portMbps lane)

/-- The plan of one lane for frame `j` of tick grid `rate`, D ticks to presentation (R291). RUNNING and LOST tiles enter it
(R292, R299). -/
def State.planLane (s : State) (cfg : Store) (rate j d lane : Nat) : LanePlan :=
  let rs := (laneTiles cfg lane).filter fun r => let st := (s.tile (u16 r 0)).state; st == 2 || st == 3
  let broadcast := u8 (zhLaneRec cfg lane) 1 == 1
  let secs := sortBy (fun (a b : Nat) => decide (a ≤ b)) (rs.map fun r => (tileSection cfg (u16 r 0)).getD 0xFFFF).eraseDups
  let qOf (i : Nat) (r : Bytes) : Nat := if broadcast then (secs.findIdx? (· == (tileSection cfg (u16 r 0)).getD 0xFFFF)).getD 0 else i
  let largest := if broadcast then
      (secs.map fun x => (rs.filter fun r => (tileSection cfg (u16 r 0)).getD 0xFFFF == x).length).foldl max 0
    else 1
  let tau := lineNs (s.portMbps lane) (frameLen (s.zhHdrLen cfg lane + 4 * largest + 8 * b2n (s.laneSeals cfg lane)))
  let a (r : Bytes) : Int := let t := s.tile (u16 r 0); (t.delta : Int) + t.presentLat + s16 r 12
  let lead : Int := match rs.zipIdx.map fun ri => a ri.1 + (qOf ri.2 ri.1 * tau : Nat) with
    | [] => 0
    | x :: t => t.foldl max x
  let aLane : Int := -(-lead / 4) * 4
  let present := tickTime rate (j + d)
  let sig := rs.map fun r => s.tileSigma cfg lane (u16 r 0)
  let tiles := rs.zipIdx.map fun (r, i) =>
    let q := qOf i r
    let w := (aLane - a r - (q * tau : Nat) + 2) / 4
    ({ tile := u16 r 0, sec := (tileSection cfg (u16 r 0)).getD 0xFFFF, a := a r, q := q, sigma := sig.getD i 0
       wait := w.toNat, lam := aLane + (cfg.num Od.latchGap + (sig.drop i).foldl (· + ·) 0 : Nat) } : PlanTile)
  { frame := j, ord := s.zl.lastOrd, lane := lane, present := present, aLane := aLane, sLane := ((present : Int) - aLane).toNat, tau := tau, tiles := tiles }

/-- R292: a wait above 32,767 is capped, counted and reported at most once per tick per lane. -/
def State.capWaits (s : State) (l : LanePlan) : State × LanePlan :=
  let far := l.tiles.filter fun t => decide (32767 < t.wait)
  match far with
  | [] => (s, l)
  | t :: _ =>
    ((s.count Od.latchSpreadCount far.length).raiseOnce 0x5006 l.lane (natBE 2 l.lane ++ natBE 2 t.tile),
      { l with tiles := l.tiles.map fun t => { t with wait := min t.wait 32767 } })

/-- Fix the launch plans of frame `j` at its close (R292). -/
def State.closePlans (s : State) (cfg : Store) (rate j d : Nat) : State :=
  let s := { s with zl := { s.zl with plans := s.zl.plans.filter fun l => decide (s.now < l.present + 8000000) } }
  ((List.range 24).filter s.tileLane).foldl (fun s lane =>
    let (s, l) := s.capWaits (s.planLane cfg rate j d lane)
    { s with zl := { s.zl with plans := s.zl.plans.filter (fun m => !(m.lane == lane && m.frame == j)) ++ [l] } }) s

/-- The plan entry of a tile in a frame. -/
def State.planOf (s : State) (j n : Nat) : Option (LanePlan × Nat × PlanTile) :=
  s.zl.plans.findSome? fun l =>
    if l.frame = j then (l.tiles.findIdx? (fun t => t.tile == n)).bind fun i => (l.tiles[i]?).map fun t => (l, i, t) else none

/-- A tile can launch: it is in the plan, and where its lane seals its section seals (R292, R307). -/
def State.tileCanLaunch (s : State) (cfg : Store) (j n : Nat) : Bool :=
  match s.planOf j n with
  | none => false
  | some (l, _, t) =>
    !s.laneSeals cfg l.lane || (match s.sealOf t.sec with | some x => x.sealing | none => false)

/-- Launch a tile's PIX: one large send at L_i, TC 5, SEG 1 (R290, R291); the MAC refuses it with ERR_DESC where its MSS is 0 (R130). -/
def State.launchTile (s : State) (cfg : Store) (j n : Nat) (data : Bytes) : State :=
  match s.planOf j n with
  | none => s
  | some (l, i, t) =>
    let mss := s.tileMss cfg l.lane n
    let segs := if mss = 0 then 1 else max 1 (ceilDiv data.length mss)
    let launch := ((l.present : Int) - t.lam).toNat
    let keyId := match s.sealOf t.sec with | some x => x.keyFor l.ord | none => 0
    s.toTile cfg n segs false fun z =>
      { z with ty := 0, keyId := if z.sealed then keyId else 0, frame := frameNo j, fmt := u16 (tileColourRec cfg n) 2, time := launch % 2 ^ 64, pay := data, tc := 5
               launch := launch, seg := true, mss := mss, tag := pixTag j i, compl := true }

/-- A tile's LATCH record (R293). -/
def PlanTile.record (t : PlanTile) : Bytes := natBE 2 t.tile ++ natBE 2 (32768 * b2n t.hold + t.wait)

/-- Send the LATCH frames of a lane (R289, R291, R293). -/
def State.sendLatches (s : State) (cfg : Store) (l : LanePlan) : State :=
  let frame := frameNo l.frame
  if u8 (zhLaneRec cfg l.lane) 1 = 1 then
    let qs := (l.tiles.map fun t => (t.q, t.sec)).eraseDups
    qs.foldl (fun s (q, sec) =>
      let served := sortBy (fun a b => decide (a.tile ≤ b.tile)) (l.tiles.filter fun t => t.q == q)
      let seq := kvGetD sec 0 s.zl.secSeq
      let s := { s with zl := { s.zl with secSeq := kvSet sec ((seq + 1) % 65536) s.zl.secSeq } }
      let sealed := s.laneSeals cfg l.lane
      let keyId := match s.sealOf sec with | some x => x.keyFor l.ord | none => 0
      s.sendZh cfg { lane := l.lane, ty := 1, sec := sec, tile := 0xFFFF, seq := seq, frame := frame, time := l.present % 2 ^ 64
                     pay := served.flatMap PlanTile.record, sealed := sealed, keyId := if sealed then keyId else 0, tc := 7
                     launch := l.sLane + q * l.tau, tag := latchTag l.frame q, compl := true }) s
  else
    l.tiles.foldl (fun s t =>
      let keyId := match s.sealOf t.sec with | some x => x.keyFor l.ord | none => 0
      s.toTile cfg t.tile 1 false fun z =>
        { z with ty := 1, keyId := if z.sealed then keyId else 0, frame := frame, time := l.present % 2 ^ 64, hold := t.hold, pay := t.record, tc := 7
                 launch := l.sLane + t.q * l.tau, tag := latchTag l.frame t.q, compl := true }) s

/-- LATCH_FIXUP (R294): at LATCH_GAP / 2 before s_lane. -/
def execLatchFixup (lane : Nat) (s : State) : Host.Outcome State Fault Refusal :=
  finish s (
    match s.zl.plans.find? (fun l => l.lane == lane && !l.fixed) with
    | none => s
    | some l =>
      let cfg := match s.tl.frames.find? (fun f => f.k == l.frame) with | some f => f.cfg | none => s.linkCfg
      let t := s.goTo (l.sLane - cfg.num Od.latchGap / 2)
      let bad := (l.tiles.filter fun x => !x.hold && x.pix != 0 && x.pix != 2)
      let t := t.linkHold lane l.frame (fun x => !x.hold && x.pix != 0 && x.pix != 2) ((bad.map PlanTile.pix).headD 255)
      match t.zl.plans.find? (fun m => m.lane == lane && m.frame == l.frame) with
      | none => t
      | some l =>
        let mark (m : LanePlan) : LanePlan := if m.lane = lane ∧ m.frame = l.frame then { m with fixed := true } else m
        let t := { t with zl := { t.zl with plans := t.zl.plans.map mark } }
        t.sendLatches cfg l)

/-- TSQ_ENTRY_DELIVER's share for the link engines is `echoCapture`; Time.lean has the command. -/
def isEchoTag (tag : Nat) : Bool := decide (tag < 4096)

/-! ## Readings (R310) -/

/-- TILE_STATUS. -/
def State.tileStatus (s : State) : Bytes :=
  (List.range 1024).flatMap fun n =>
    let t := s.tile n
    let p := (s.zl.plans.reverse.findSome? fun l => l.tiles.find? fun x => x.tile == n)
    let keyId := t.keyHeld.getD 0
    natBE 1 t.state ++ natBE 1 keyId ++ natBE 4 (ofS 32 t.delta) ++ natBE 4 t.presentLat ++ natBE 2 ((p.map PlanTile.wait).getD 0) ++
      natBE 4 (ofS 32 ((p.map PlanTile.lam).getD 0)) ++ natBE 4 t.lastRetFrame ++ natBE 4 t.epochHigh ++ natBE 1 t.cause

/-- SEAL_STATUS: a record for each section that seals, the rest empty. -/
def State.sealStatus (s : State) : Bytes :=
  padTo 144 ((s.zl.seals.take 16).flatMap fun x =>
    natBE 2 x.secNo ++ natBE 1 x.keyId ++ natBE 1 (b2n x.rolling) ++ natBE 4 x.underKey ++ natBE 1 (b2n x.sealing))

end Sys2Proof.Machine
end

