-- ==== Sys2Proof/Machine/Shift.lean ====
section
/-!
DEFINITION. What a step of device time does to the durations that run (R97, R98). Device time carries every instant the model holds; a
duration (a timeout, a rest, an interval, a rate limit) is one of the clock and not of PTP time, so a step moves the instants it is counted
from with it (DEDUCED, log entry 141). Instants that the manual names as device times (SWITCH_AT, APPLY_AT, ticks, the first UPDATE_OPEN of a session, records
already written) stay.
-/
namespace Sys2Proof.Machine

/-- A domain's instants and captures. A request whose capture is not in yet is given up. -/
def PtpDomain.shift (f : Nat → Nat) (x : PtpDomain) : PtpDomain :=
  { x with
    lastSync := f x.lastSync, lastAnnounce := f x.lastAnnounce, holdSince := f x.holdSince, nextReq := f x.nextReq
    masters := x.masters.map fun m => { m with seen := f m.seen }
    reqTime := x.reqTime.map f, reqOpen := x.reqOpen && x.reqTime.isSome
    lastOrigin := x.lastOrigin.map fun p => (p.1, f p.2)
    lastPeer := x.lastPeer.map fun p => (p.1, f p.2) }

def OdState.shift (f : Nat → Nat) (x : OdState) : OdState :=
  { x with
    pend := x.pend.map fun p => (p.1, p.2.1, f p.2.2)
    journalQ := x.journalQ.map fun p => (p.1, p.2.1, f p.2.2)
    bulks := x.bulks.map fun b => { b with lastSeen := f b.lastSeen }
    subs := x.subs.map fun p => (p.1, { p.2 with expires := f p.2.expires })
    irqAt := x.irqAt.map fun p => (p.1, f p.2) }

def PartSt.shift (f : Nat → Nat) (x : PartSt) : PartSt :=
  { x with
    seen := x.seen.map fun p => (p.1, p.2.1.map f, p.2.2.map f)
    lastAccept := x.lastAccept.map f, behindSince := x.behindSince.map f
    paths := x.paths.map fun p => { p with lastRx := p.lastRx.map f } }

def IntakeState.shift (f : Nat → Nat) (x : IntakeState) : IntakeState :=
  { x with
    streams := x.streams.map fun y => { y with lastAccept := y.lastAccept.map f, parts := y.parts.map (PartSt.shift f) }
    univs := x.univs.map fun u => (u.1, { u.2 with sources := u.2.sources.map fun y => { y with syncSince := f y.syncSince, lastRx := f y.lastRx } })
    syncAt := x.syncAt.map fun p => (p.1, f p.2) }

def NetState.shift (f : Nat → Nat) (x : NetState) : NetState :=
  { x with
    ports := x.ports.map fun p => { p with pause := p.pause.map (fun q => (q.1, f q.2.1, f q.2.2)), ignoreUntil := p.ignoreUntil.map f }
    sluices := x.sluices.map fun y => { y with since := f y.since } }

def LockState.shift (f : Nat → Nat) (x : LockState) : LockState :=
  { x with
    cells := x.cells.map fun c => { c with startedAt := f c.startedAt, faults := c.faults.map f }
    barges := x.barges.map fun b => { b with readyAt := f b.readyAt }
    periodStart := f x.periodStart }

def TowState.shift (f : Nat → Nat) (x : TowState) : TowState :=
  { x with
    peerSince := f x.peerSince, claimAt := f x.claimAt, backoffUntil := x.backoffUntil.map f, holdoffUntil := x.holdoffUntil.map f
    gateOpenedAt := f x.gateOpenedAt, lastBeacon := x.lastBeacon.map fun p => (p.1, f p.2), lastSmall := x.lastSmall.map f
    linkSince := f x.linkSince, nextBeacon := f x.nextBeacon, nextSmall := f x.nextSmall
    parts := x.parts.map fun p => { p with first := f p.first }
    nextLedger := f x.nextLedger }

def PowerState.shift (f : Nat → Nat) (x : PowerState) : PowerState :=
  { x with wdStarts := x.wdStarts.map f, coolSince := x.coolSince.map f, onAt := x.onAt.map f, nextDie := f x.nextDie }

def ColourState.shift (f : Nat → Nat) (x : ColourState) : ColourState :=
  { x with temps := x.temps.map fun t => (t.1, t.2.1, f t.2.2), nextJournal := f x.nextJournal, nextAge := f x.nextAge }

def LinkState.shift (f : Nat → Nat) (x : LinkState) : LinkState :=
  { x with
    tiles := x.tiles.map fun t => (t.1, { t.2 with
      lastHeard := f t.2.lastHeard, nextEcho := f t.2.nextEcho
      echoes := t.2.echoes.map fun e => (e.1, f e.2.1, e.2.2.map fun c => (f (c.1 / 65536) * 65536 + c.1 % 65536, c.2)) })
    unmatched := x.unmatched.map fun p => (p.1, f p.2), fenced := x.fenced.map fun p => (p.1, f p.2) }

/-- Scans and periods go on from the tick grid as device time now lies on it. -/
def LampState.shift (f : Nat → Nat) (x : LampState) : LampState :=
  { x with
    ports := x.ports.map fun p => { p with busyEnd := f p.busyEnd, window := p.window.map f, nextDisc := f p.nextDisc, openedAt := f p.openedAt }
    groups := x.groups.map fun g => { g with nextAt := f g.nextAt, after := 0 } }

def StringsState.shift (f : Nat → Nat) (x : StringsState) : StringsState :=
  { x with
    ctl := x.ctl.map fun c => { c with
      rise := f c.rise, rise2 := f c.rise2, retryAt := f c.retryAt, after := 0, donTick := none,
      measure := c.measure.map fun m => { m with edge := f m.edge, last := m.last.map fun l => (f l.1, l.2) } }
    groups := x.groups.map fun g => { g with burstEnd := f g.burstEnd } }

def RasterState.shift (f : Nat → Nat) (x : RasterState) : RasterState :=
  { x with after := 0, frameStart := f x.frameStart, nextAt := f x.nextAt, relock := x.relock.map f }

def AqState.shift (f : Nat → Nat) (x : AqState) : AqState :=
  { x with peers := x.peers.map fun p => (p.1, { p.2 with deadline := f p.2.deadline }) }

def KeyState.shift (f : Nat → Nat) (x : KeyState) : KeyState :=
  { x with seededAt := f x.seededAt, retryAt := x.retryAt.map f, challenges := x.challenges.map f }

def UpdateState.shift (f : Nat → Nat) (x : UpdateState) : UpdateState :=
  { x with
    tryStart := x.tryStart.map f, calmSince := x.calmSince.map f, restarting := x.restarting.map f, suspendUntil := x.suspendUntil.map f }

def TrimState.shift (f : Nat → Nat) (x : TrimState) : TrimState :=
  { x with
    aRun := x.aRun.map fun p => (p.1, f p.2.1, p.2.2)
    nextSecond := f x.nextSecond, nextLedger := f x.nextLedger, nextDdr := f x.nextDdr }

/-- Every duration that runs, at a step of device time by `f`. -/
def State.shiftTimers (s : State) (f : Nat → Nat) : State :=
  { s with
    od := s.od.shift f, intake := s.intake.shift f, net := s.net.shift f, lk := s.lk.shift f, tow := s.tow.shift f, pwr := s.pwr.shift f
    col := s.col.shift f, zl := s.zl.shift f, lamp := s.lamp.shift f, strs := s.strs.shift f, ras := s.ras.shift f, aq := s.aq.shift f
    keys := s.keys.shift f, upd := s.upd.shift f, trim := s.trim.shift f
    weir := { s.weir with lastDrop := s.weir.lastDrop.map f, lastRaise := s.weir.lastRaise.map f }
    tl := { s.tl with tickOutEnd := f s.tl.tickOutEnd }
    tm := { s.tm with ppsOutEnd := f s.tm.ppsOutEnd, doms := s.tm.doms.map (PtpDomain.shift f) } }

end Sys2Proof.Machine
end

