-- ==== Sys2Proof/Machine/Time.lean ====
section
/-!
DEFINITION. The time engine (spec/04): the two PTP domains, device time, switching and slewing, timestamp delivery, PPS.
A domain's estimate of its grandmaster's time is device time plus `offNow`; the selected domain's is device time itself but for a switch
slew under way (R94).
-/
namespace Sys2Proof.Machine

def State.dom (s : State) (d : Nat) : PtpDomain := s.tm.doms.getD d {}

def State.sel (s : State) : Nat := s.reg Od.select

/-- The selected domain counts as locked while LOCKED or HOLDOVER (R95). -/
def State.timeLocked (s : State) : Bool := let st := (s.dom s.sel).state; st == 3 || st == 4

/-! ## Estimates and slewing (R94, R97, R100) -/

/-- FREQ_ADJ of a domain, ppb. -/
def State.freq (s : State) (d : Nat) : Int := toS 32 (s.reg (Od.ptpFreqAdj.inst d))

/-- The offset a slew still has to move device time by (the sign is DEDUCED, log entry 55). -/
def State.slewLeft (s : State) : Int :=
  match s.tm.slew with
  | none => 0
  | some (start, d) =>
    let moved : Int := ((s.now - start) * s.tm.slewRate / 1000000 : Nat)
    if 0 ≤ d then max 0 (d - moved) else min 0 (d + moved)

/-- What the slew has moved device time so far. -/
def State.slewMoved (s : State) : Int := match s.tm.slew with | none => 0 | some (_, d) => d - s.slewLeft

/-- How far the estimate of a domain that is not selected has run from device time since `offAt`: each runs at its own frequency, and
device time at the selected domain's from the instant of a switch on (R94, R100). -/
def State.drift (s : State) (d : Nat) : Int :=
  if d = s.sel then 0 else ((s.now : Int) - s.tm.offAt) * (s.freq d - s.freq s.sel) / (1000000000 + s.freq s.sel)

/-- A domain's estimate minus device time, now. A correcting slew moves the selected domain's estimate with device time. -/
def State.offNow (s : State) (d : Nat) : Int :=
  (s.dom d).off + s.drift d - (if s.tm.correcting ∧ d = s.sel then 0 else s.slewMoved)

/-- The offsets of all domains taken from device time as it stands, with any slew settled. -/
def State.settleSlew (s : State) : State :=
  let off (i : Nat) : Int := s.offNow i
  { s with tm := { s.tm with slew := none, correcting := false, offAt := s.now
                             doms := s.tm.doms.zipIdx.map fun (x, i) => { x with off := off i } } }

/-- A slew of device time by `d` starts at SWITCH_SLEW (R97, R100). -/
def State.startSlew (s : State) (d : Int) (correcting : Bool) : State :=
  if d = 0 then s
  else { s with tm := { s.tm with slew := some (s.now, d), slewRate := s.reg Od.switchSlew, correcting := correcting } }

/-- A slew goes on from what it has left, at SWITCH_SLEW as it now stands: the rate changes, or the frequencies do (R100). -/
def State.resumeSlew (s : State) : State := s.settleSlew.startSlew s.slewLeft s.tm.correcting

/-- A domain's frequency changes: the estimates are settled first, since they ran at the old one (R94). -/
def State.setFreq (s : State) (d : Nat) (f : Int) : State :=
  let left := s.slewLeft
  let rate := s.tm.slewRate
  let kind := s.tm.correcting
  let t := s.settleSlew.setReg (Od.ptpFreqAdj.inst d) (satS 32 (clampI (-200000) 200000 f))
  if left = 0 then t else { t with tm := { t.tm with slew := some (t.now, left), slewRate := rate, correcting := kind } }

/-! ## Domain states (R94) -/

/-- TICK_OUT and PPS_OUT are high-impedance while disabled and low while the selected domain is not locked (R45, R95, R114). -/
def State.timePins (s : State) : State :=
  let lvl (en : Bool) (now : Nat) : Nat := if !en then 2 else if !s.timeLocked then 0 else if now = 2 then 0 else now
  { s with tl := { s.tl with tickOut := lvl (s.reg Od.tickOutEn == 1) s.tl.tickOut }
           tm := { s.tm with ppsOut := lvl (s.reg Od.ppsOutEn == 1) s.tm.ppsOut } }

/-- OFFSET_AB (R101). -/
def State.offsetAb (s : State) : State :=
  let ok (d : Nat) : Bool := let st := (s.dom d).state; st == 3 || st == 4
  s.setReg Od.offsetAb (if ok 0 && ok 1 then satS 32 (clampI (-2147483647) 2147483647 (s.offNow 0 - s.offNow 1)) else 0)

def State.setDom (s : State) (d : Nat) (x : PtpDomain) : State :=
  let was := (s.dom d).state
  let s := { s with tm := { s.tm with doms := setAt s.tm.doms d x } }
  let s := (s.setReg (Od.ptpState.inst d) x.state)
  let s := if (x.state = 3 ∨ x.state = 4) ∨ was = x.state then s else s.setReg Od.offsetAb 0
  s.timePins

/-- Enter LOCKED (R94, R118). -/
def State.lockDom (s : State) (d : Nat) : State :=
  (s.setDom d { s.dom d with state := 3, good := 0, bad := 0, regained := 0 }).raise 0x2001
    (natBE 2 d ++ natBE 6 (s.reg (Od.ptpMasterId.inst d)))

/-- Leave LOCKED for state `st` (R94). -/
def State.unlockDom (s : State) (d st : Nat) : State :=
  let s := s.setDom d { s.dom d with state := st, good := 0, bad := 0, regained := 0, holdSince := s.now, holdFreq := s.freq d }
  (s.count (Od.ptpLockLosses.inst d)).raise 0x2002 (natBE 2 d ++ natBE 1 st)

/-! ## Timeline restarts and steps of device time (R43, R97, R98, R111) -/

/-- Every frame in flight is abandoned: plans, canvas slots, graphs; barges of frames are retired, running ones finish unused. -/
def State.dropFrames (s : State) : State :=
  let keep (b : Barge) : Bool := b.firmware || b.place == 3 || b.place == 4
  let retire (b : Barge) : Barge := if b.firmware || b.place != 3 then b else { b with place := 4 }
  let barges := (s.lk.barges.filter keep).map retire
  let ids := barges.map Barge.id
  let on (l : List Nat) : List Nat := l.filter ids.contains
  { s with
    tl := { s.tl with frames := [], awaitAck := none }
    zl := { s.zl with plans := [] }
    intake := { s.intake with streams := s.intake.streams.map fun x => { x with slots := [] } }
    lk := { s.lk with barges := barges, ready := s.lk.ready.map on, graphs := [], held := s.lk.held.filter (fun h => h.frame == 0)
                      counters := s.lk.counters.map (fun c => (c.1, { c.2 with parked := on c.2.parked }))
                      flights := s.lk.flights.map (fun f => (f.1, { f.2 with parked := on f.2.parked })) } }

/-- The tick generator goes on from the first tick after device time, and intake with the first frame whose cut-off lies
after it (R43, R44). -/
def State.retick (s : State) : State :=
  let next := tickFrom s.tl.rate (s.now + 1)
  let s := s.reindex s.tl.rate s.tl.nextTick next
  { s with tl := { s.tl with nextTick := next, oldGrids := []
                             nextCut := tickFrom s.tl.rate (s.now + s.reg Od.commitCutoff * 1000 + 1) } }

/-- A timeline restart (R43, R220, R222, R305). The outputs hold until the first frame after it; no frame is presented in the meantime, so
HOLDS, HELD_LAST and 0x1410, which tell of outputs held in a frame, take none of it (DESIGN CHOICE, log entry 140). -/
def State.restartTimeline (s : State) : State :=
  let s := s.dropFrames.retick
  let feeds := s.weir.feeds.map fun (x : Nat × FeedState) => (x.1, ({ x.2 with prevFrame := none } : FeedState))
  let s := { s with tl := { s.tl with anyShown := false, first := s.tl.nextCut }, weir := { s.weir with h := [], feeds := feeds } }
  let s := if s.reg Od.timelineState = 1 then s.count Od.timelineRestarts else s
  (s.raise 0x1412).nonceGuard s.linkCfg s.tl.nextCut

/-- Device time steps to a domain's estimate (R97, R98). Durations that run go on (`State.shiftTimers`); the fraction of a nanosecond
that the step leaves is free. -/
def State.stepTo (s : State) (d : Nat) (delta : Int) : State :=
  let was := s.reg Od.timeSet
  let s := s.settleSlew
  let shift (t : Nat) : Nat := ((t : Int) + delta).toNat
  let fix (i : Nat) (x : PtpDomain) : PtpDomain := { x with off := if i = d then 0 else x.off - delta }
  let s := s.shiftTimers shift
  let s := { s with tm := { s.tm with
    now := shift s.now, offAt := shift s.now, frac := Config.stepFrac s.fresh % 65536
    doms := s.tm.doms.zipIdx.map fun (x, i) => fix i x } }
  let s := s.draw
  let s := ((s.setReg Od.timeSet 1).count Od.timeSteps).raise 0x2005 (natBE 2 d ++ natBE 4 (satS 32 delta))
  let s := s.flushTimed
  if was = 1 then s.restartTimeline else s.retick

/-! ## Switching (R99, R100) -/

/-- The other domain becomes selected: by a step before TIME_SET, else by a slew (R99, R100). -/
def State.switchTo (s : State) (d : Nat) : State :=
  let s := s.settleSlew
  let s := (s.setReg Od.select d).noteJournal Od.select.key (.num d)
  let s := (s.count Od.switches).raise 0x2004 (natBE 2 d ++ natBE 4 (s.reg Od.offsetAb))
  let off := (s.dom d).off
  let s := if s.reg Od.timeSet = 0 then s.stepTo d off
    else s.startSlew off false
  s.timePins

/-- A manual or scheduled switch: refused unless the target is LOCKED (R99). -/
def State.trySwitch (s : State) (d : Nat) : State :=
  if d = s.sel then s
  else if (s.dom d).state = 3 then s.switchTo d
  else s.raise 0x200A (natBE 2 d ++ natBE 1 (s.dom d).state)

/-- The automatic switch (R99). -/
def State.autoSwitch (s : State) : State :=
  if s.reg Od.autoSwitch = 1 ∧ (s.dom s.sel).state ≠ 3 ∧ (s.dom (1 - s.sel)).state = 3 then s.switchTo (1 - s.sel) else s

/-- A switch asked for by SELECT takes place at a tick (R99). -/
def State.selectAtTick (s : State) : State :=
  match s.tm.selectReq with
  | none => s
  | some d => ({ s with tm := { s.tm with selectReq := none } }).trySwitch d

/-- SCHEDULED_SWITCH (R99). -/
def execScheduledSwitch (s : State) : Host.Outcome State Fault Refusal :=
  let at_ := s.reg Od.switchAt
  finish s (
    if at_ = 0 ∨ s.alive = false then s
    else ((s.goTo (nsOfTime at_)).setReg Od.switchAt 0).trySwitch (1 - s.sel))

/-- SLEW_DONE (R100): at the instant the slew has moved device time by all of the offset. -/
def execSlewDone (s : State) : Host.Outcome State Fault Refusal :=
  finish s (match s.tm.slew with
    | none => s
    | some (start, d) =>
      if s.alive = false then s
      else
        (s.goTo (start + ceilDiv (d.natAbs * 1000000) s.tm.slewRate)).settleSlew.offsetAb)

/-- A write of SWITCH_AT (R99). -/
def State.writeSwitchAt (s : State) (time : Nat) : Eff :=
  let t := nsOfTime time
  if time = 0 then effOk (s.setReg Od.switchAt 0)
  else if t < s.now ∨ s.now + 86400000000000 < t then effNo s stRange
  else effOk (s.setReg Od.switchAt time)

/-- SELECT as written: the switch waits for the next tick (R99). -/
def State.writeSelect (s : State) (d : Nat) : State :=
  { s with tm := { s.tm with selectReq := if d = s.sel then none else some d } }

/-! ## Ports of the domains (R92, R115, R116) -/

/-- The port of a domain may carry PTP: a MGMT port, or a lane in the UP or PEER role (R92). -/
def State.ptpPortFits (s : State) (d : Nat) : Bool :=
  let p := s.reg (Od.ptpPort.inst d)
  p == 24 || p == 25 || s.role p == 1 || s.role p == 3

/-- The port of a domain is not usable (R92, R115): its lane has another role, or, outside mooring and starts, its network domain is off
or at fault. While a start or mooring keeps it off, R116 applies in place of this. -/
def State.ptpPortLost (s : State) (d : Nat) : Bool :=
  let p := s.reg (Od.ptpPort.inst d)
  let st := s.pwr.doms.getD (portDomain p) 0
  !s.ptpPortFits d || (decide (p < 24) && s.pwr.state == 2 && (st == 0 || st == 3))

/-- Enable, role or power changed: OFF, with 0x2009 as the port becomes unusable, or LISTENING once it is usable (R92, R94, R115). The
estimate runs on. -/
def State.ptpCheck (s : State) (d : Nat) : State :=
  let x := s.dom d
  let p := s.reg (Od.ptpPort.inst d)
  let off : PtpDomain := { ({} : PtpDomain) with off := x.off }
  if s.reg (Od.ptpEnable.inst d) = 0 then (if x.state = 0 ∧ x.refused = false then s else (s.setDom d off).autoSwitch)
  else if s.ptpPortLost d then
    if x.refused then s
    else ((s.setDom d { off with refused := true }).raise 0x2009 (natBE 2 d ++ natBE 1 p)).autoSwitch
  else if x.state = 0 ∧ s.domOn (portDomain p) then s.setDom d { off with state := 1 }
  else if x.refused then s.setDom d { x with refused := false }
  else s

/-- Both domains, domain A first. -/
def State.ptpChecks (s : State) : State := (s.ptpCheck 0).ptpCheck 1

/-- R92: both domains on one port need different domain numbers. -/
def ptpClash (pa pb na nb : Nat) : Bool := pa == pb && na == nb

/-- TRANSPORT suits PROFILE (R89, R92). -/
def ptpTransportOk (profile transport : Nat) : Bool :=
  match profile with
  | 0 => decide (transport ≤ 2)
  | 1 => decide (transport ≤ 1)
  | _ => transport == 2

/-- The domains bound to a port that may take its messages. -/
def State.domsOn (s : State) (p : Nat) : List Nat :=
  ([0, 1] : List Nat).filter fun d => s.reg (Od.ptpEnable.inst d) == 1 && s.reg (Od.ptpPort.inst d) == p && (s.dom d).state != 0

/-- The domain of a message; a message of another domainNumber is discarded and counted (R90). -/
def State.ptpFor (s : State) (p num : Nat) : State × Option Nat :=
  let ds := s.domsOn p
  match ds.find? (fun d => s.reg (Od.ptpDomainNumber.inst d) == num) with
  | some d => (s, some d)
  | none => match ds with
    | d :: _ => (s.count (Od.ptpRxDiscarded.inst d), none)
    | [] => (s, none)

/-! ## Announce (R90, R93, R94) -/

/-- Announce receipt timeout of a master, ns (R94). -/
def State.announceTimeout (s : State) (d : Nat) (log : Int) : Nat :=
  let n := s.reg (Od.ptpAnnounceReceiptTimeout.inst d)
  if 0 ≤ log then n * 2 ^ log.toNat * 1000000000 else n * 1000000000 / 2 ^ (-log).toNat

/-- The first difference decides; equal keys are no better. -/
def lexLess : List Nat → List Nat → Bool
  | x :: t, y :: u => if x = y then lexLess t u else decide (x < y)
  | _, _ => false

/-- The data set comparison of the best master clock algorithm (R90; IEEE 1588-2019's order, PRESUMED log entry 20): a is better. -/
def annBetter (a b : Announce) : Bool :=
  lexLess [a.priority1, a.clockClass, a.accuracy, a.variance, a.priority2, a.gm, a.stepsRemoved, a.sender, a.senderPort]
    [b.priority1, b.clockClass, b.accuracy, b.variance, b.priority2, b.gm, b.stepsRemoved, b.sender, b.senderPort]

/-- Choose the best of the masters heard (R90, R93). -/
def bestMaster (ms : List Master) : Option Announce :=
  match ms with
  | [] => none
  | m :: t => some (t.foldl (fun a x => if annBetter x.ann a then x.ann else a) m.ann)

def sameMaster (a b : Announce) : Bool := a.gm == b.gm && a.sender == b.sender && a.senderPort == b.senderPort

/-- An Announce arrives at a domain (R93, R94). -/
def State.takeAnnounce (s : State) (d : Nat) (a : Announce) : State :=
  let ok := records 8 (s.regTab (Od.ptpAcceptableMasters.inst d))
  if ok ≠ [] ∧ ok.all (fun r => u64 r 0 != a.gm) then s.count (Od.ptpRxDiscarded.inst d)
  else
    let x := s.dom d
    let live := x.masters.filter fun m => !(m.ann.sender == a.sender && m.ann.senderPort == a.senderPort) &&
      decide (s.now < m.seen + s.announceTimeout d m.ann.logInterval)
    let ms := live ++ [{ ann := a, seen := s.now }]
    let best := bestMaster ms
    let changed : Bool := match x.chosen, best with | some c, some b => !sameMaster c b | _, _ => true
    let mine : Bool := match best with | some b => sameMaster b a | none => false
    let y : PtpDomain := { x with masters := ms, chosen := best, lastAnnounce := if mine then s.now else x.lastAnnounce }
    let y : PtpDomain := if changed then { y with delay := none, lastOrigin := none, lastPeer := none, reqTime := none, reqOpen := false
                                                  logDelayReq := none, nextReq := s.now } else y
    let s := s.setDom d y
    let s := match best with
      | some b => (s.setReg (Od.ptpMasterId.inst d) b.gm).setReg (Od.ptpUtcOffset.inst d) (ofS 16 b.utcOffset)
      | none => s
    if changed ∧ x.chosen.isSome ∧ x.state = 3 then (s.unlockDom d 2).autoSwitch else s

/-- PTP_ANNOUNCE_RX (R90, R93). -/
def execPtpAnnounceRx (dt port : Nat) (a : Announce) (s : State) : Host.Outcome State Fault Refusal :=
  let t := s.advance dt
  finish s (
    if t.domOn (portDomain port) = false then t
    else match t.ptpFor port a.domainNumber with
      | (t, some d) => t.takeAnnounce d a
      | (t, none) => t)

/-! ## Sync (R94, R97, R98) -/

def syncNs (log : Int) : Nat := if 0 ≤ log then 2 ^ log.toNat * 1000000000 else 1000000000 / 2 ^ (-log).toNat

/-- The state of a domain after an offset (R94). -/
def State.syncState (s : State) (d : Nat) (offset : Int) : State :=
  let x := s.dom d
  let within := decide (offset.natAbs ≤ s.reg (Od.ptpLockThreshold.inst d))
  let far := decide (s.reg (Od.ptpUnlockThreshold.inst d) < offset.natAbs)
  let x := if x.state = 1 then { x with state := 2, good := 0 } else x
  let s := s.setDom d x
  if x.state = 2 then
    let n := if within then x.good + 1 else 0
    if n = 16 then s.lockDom d else s.setDom d { x with good := n }
  else if x.state = 3 then
    let n := if far then x.bad + 1 else 0
    if n = 4 then s.unlockDom d 2 else s.setDom d { x with bad := n }
  else if x.state = 4 then
    if far then s.setDom d { x with state := 2, good := 0, regained := 0 }
    else if x.regained = 3 then s.lockDom d
    else s.setDom d { x with regained := x.regained + 1 }
  else s

/-- What the selected domain does to device time at an offset (R97, R98): a step; where NO_STEP_RUNNING bars it, a slew that goes on from
each new offset until the offset is gone; else rate alone. -/
def State.syncDevice (s : State) (d : Nat) (offset : Int) : State :=
  let x := s.dom d
  if d = s.sel ∧ s.reg Od.timeSet = 0 then s.stepTo d (s.offNow d + offset)
  else if d = s.sel ∧ x.state = 2 ∧ s.reg Od.stepThreshold < offset.natAbs then
    if s.reg Od.timelineState = 0 ∨ s.reg Od.noStepRunning = 0 then
      (s.setDom d { x with good := 0 }).stepTo d (s.offNow d + offset)
    else s.settleSlew.startSlew (s.offNow d + offset) true
  else if d = s.sel ∧ s.tm.correcting then s.settleSlew.startSlew offset true
  else
    let bw := s.reg (Od.ptpServoBw.inst d)
    let s := s.setFreq d (Config.servoFreq offset bw (s.freq d))
    if d = s.sel then s else s.setDom d { s.dom d with off := (s.dom d).off + Config.servoStep offset bw }

/-- A Sync of the chosen master whose offset can be computed (R94). A domain that it takes out of LOCKED while the other is LOCKED is left
by the automatic switch at once, before anything is done to device time (R99). -/
def State.useSync (s : State) (d : Nat) (m : SyncMsg) (delay : Nat) : State :=
  let x := s.dom d
  let s := s.setDom d { x with lastSync := s.now, logSync := m.logInterval }
  let s := s.count (Od.ptpSyncRx.inst d)
  let master : Int := (m.origin : Int) + m.correction + delay + toS 32 (s.reg (Od.ptpDelayAsym.inst d))
  let offset := master - ((m.capture : Int) + s.offNow d)
  let s := s.setReg (Od.ptpOffset.inst d) (satS 32 offset)
  (((s.syncState d offset).autoSwitch).syncDevice d offset).offsetAb

/-- PTP_SYNC_RX (R90, R94): the TLVs that the profile reads, then the offset once there is a path delay. -/
def State.takeSync (s : State) (d : Nat) (m : SyncMsg) : State :=
  let x := s.dom d
  if m.supported = false ∨ m.logInterval < -7 ∨ 1 < m.logInterval then s.count (Od.ptpRxDiscarded.inst d)
  else
    match x.chosen with
    | none => s
    | some c =>
      if c.sender ≠ m.sender ∨ c.senderPort ≠ m.senderPort then s
      else
        let x := { x with lastOrigin := some (((m.origin : Int) + m.correction).toNat, m.capture) }
        let x := if s.reg (Od.ptpProfile.inst d) = 2 ∧ m.infoTlv.isSome then { x with gmRate := m.infoTlv } else x
        let s := s.setDom d x
        let s := match m.smTlv with
          | some v => if s.reg (Od.ptpProfile.inst d) = 1 then s.setReg (Od.ptpUtcOffset.inst d) (ofS 16 v) else s
          | none => s
        match x.delay with
        | none => s
        | some delay => s.useSync d m delay

def execPtpSyncRx (dt port : Nat) (m : SyncMsg) (s : State) : Host.Outcome State Fault Refusal :=
  let t := s.advance dt
  finish s (
    if t.domOn (portDomain port) = false then t
    else match t.ptpFor port m.domainNumber with
      | (t, some d) => t.takeSync d m
      | (t, none) => t)

/-! ## Path delay (R90, R94) -/

/-- PTP messages Cloyr sends (R90): Ethernet or UDP carriage of a profile's transport, and the message. The layouts are IEEE
1588-2019's and 802.1AS-2020's (PRESUMED, log entry 20). -/
def clockIdentity : Nat := Config.baseMac / 2 ^ 24 % 2 ^ 24 * 2 ^ 40 + 0xFFFE * 2 ^ 24 + Config.baseMac % 2 ^ 24

def ptpMsg (ty num seq : Nat) (control : Nat) (log : Int) (body : Bytes) : Bytes :=
  natBE 1 ty ++ natBE 1 2 ++ natBE 2 (34 + body.length) ++ natBE 1 num ++ natBE 1 0 ++ natBE 2 0 ++ natBE 8 0 ++ natBE 4 0 ++
    natBE 8 clockIdentity ++ natBE 2 1 ++ natBE 2 seq ++ natBE 1 control ++ natBE 1 (ofS 8 log) ++ body

/-- Send a PTP message untimed on TC 7 of the domain's port (R90). Destination: the group address of profile and transport;
event messages go to UDP port 319, others to 320. -/
def State.sendPtp (s : State) (d : Nat) (event : Bool) (tag : Nat) (m : Bytes) : State :=
  let p := s.reg (Od.ptpPort.inst d)
  let profile := s.reg (Od.ptpProfile.inst d)
  let tr := s.reg (Od.ptpTransport.inst d)
  let mac := natBE 6 ((ptpMacs profile tr).headD 0) ++ natBE 6 (Config.baseMac + p)
  let port := if event then 319 else 320
  let udp := natBE 2 port ++ natBE 2 port ++ natBE 2 (8 + m.length) ++ natBE 2 0
  let hdr :=
    if profile = 2 ∨ tr = 2 then mac ++ natBE 2 0x88F7
    else if tr = 0 then
      let h := natBE 1 0x45 ++ natBE 1 (Config.ipOpen p 0) ++ natBE 2 (28 + m.length) ++ natBE 4 (Config.ipOpen p 1) ++
        natBE 1 (Config.ipOpen p 2) ++ natBE 1 17 ++ natBE 2 0 ++ natBE 4 (Config.ownIpv4 p) ++ natBE 4 0xE0000181
      mac ++ natBE 2 0x0800 ++ putAt h 10 (natBE 2 (ipSum h)) ++ udp
    else
      mac ++ natBE 2 0x86DD ++ natBE 1 0x60 ++ natBE 3 (Config.ipOpen p 3) ++ natBE 2 (8 + m.length) ++ natBE 1 17 ++
        natBE 1 (Config.ipOpen p 2) ++ natBE 16 (Config.ownIpv6 p) ++ natBE 16 (0xFF0E * 2 ^ 112 + 0x181) ++ udp
  s.submitTx p { tc := 7, hdr := hdr, pay := m, tag := tag, tsReq := event }

/-- The interval to the next request, ns (R90): one second under 802.1AS and until the first Delay_Resp of the chosen master, else a
random one about the master's mean (its law is IEEE 1588-2019's: any value from 0 to twice the mean). -/
def State.reqInterval (s : State) (x : PtpDomain) (peer : Bool) : Nat :=
  match x.logDelayReq, peer with
  | some log, false => Config.reqWait s.fresh % (2 * syncNs log + 1)
  | _, _ => 1000000000

/-- DELAY_REQ_SEND (R90): Delay_Req, or Pdelay_Req under 802.1AS, once its interval has expired. -/
def execDelayReqSend (dt domain : Nat) (s : State) : Host.Outcome State Fault Refusal :=
  let t := s.advance dt
  let x := t.dom domain
  finish s (
    if 1 < domain ∨ x.state = 0 ∨ t.domOn (portDomain (t.reg (Od.ptpPort.inst domain))) = false then t
    else
      let peer := t.reg (Od.ptpProfile.inst domain) == 2
      if (peer = false ∧ x.chosen.isNone) ∨ t.now < x.nextReq then t
      else
        let seq := t.tm.ptpSeq
        let t := { t with tm := { t.tm with ptpSeq := (seq + 1) % 65536 } }
        let t := t.setDom domain { x with reqSeq := seq, reqTime := none, reqOpen := true, nextReq := t.now + t.reqInterval x peer }
        let t := t.draw
        let num := t.reg (Od.ptpDomainNumber.inst domain)
        let m := if peer then ptpMsg 0x12 num seq 5 0 (natBE 20 0) else ptpMsg 1 num seq 1 127 (natBE 10 0)
        t.sendPtp domain true (0xF000 + domain) m)

/-- A measured path delay (R94). -/
def State.setDelay (s : State) (d : Nat) (v : Int) : State :=
  (s.setDom d { s.dom d with delay := some v.toNat }).setReg (Od.ptpMeanPathDelay.inst d) (min v.toNat (2 ^ 32 - 1))

/-- PTP_DELAY_RESP_RX (R90, R94): the end-to-end exchange completes. Under 802.1AS its kind is not supported. -/
def State.takeDelayResp (s : State) (d : Nat) (r : DelayResp) : State :=
  let x := s.dom d
  if s.reg (Od.ptpProfile.inst d) = 2 then s.count (Od.ptpRxDiscarded.inst d) else
  match x.chosen, x.reqTime, x.lastOrigin with
  | some c, some t3, some (t1, t2) =>
    if c.sender ≠ r.sender ∨ c.senderPort ≠ r.senderPort ∨ x.reqSeq ≠ r.seq then s
    else
      let s := s.setDom d { x with logDelayReq := some r.logInterval, reqTime := none, reqOpen := false }
      s.setDelay d (divRound (((t2 : Int) - t1) + ((r.t4 : Int) - r.correction - t3)) 2)
  | _, _, _ => s

def execPtpDelayRespRx (dt port : Nat) (m : DelayResp) (s : State) : Host.Outcome State Fault Refusal :=
  let t := s.advance dt
  finish s (
    if t.domOn (portDomain port) = false then t
    else match t.ptpFor port m.domainNumber with
      | (t, some d) => t.takeDelayResp d m
      | (t, none) => t)

/-- PTP_PDELAY_RESP_RX (R90): the peer delay and the neighbour's rate. Under the end-to-end mechanism its kind is not supported. -/
def State.takePdelayResp (s : State) (d : Nat) (r : DelayResp) : State :=
  let x := s.dom d
  if s.reg (Od.ptpProfile.inst d) ≠ 2 then s.count (Od.ptpRxDiscarded.inst d) else
  match x.reqTime with
  | some t1 =>
    if x.reqSeq ≠ r.seq then s
    else
      let ratio := match x.lastPeer with
        | some (t3, cap) => if cap < r.capture then some (((r.t3 : Int) - t3 - ((r.capture : Int) - cap)) * 1000000000 / ((r.capture : Int) - cap)) else x.rateRatio
        | none => x.rateRatio
      let s := s.setDom d { x with reqTime := none, reqOpen := false, lastPeer := some (r.t3, r.capture), rateRatio := ratio }
      s.setDelay d (divRound (((r.capture : Int) - t1) - ((r.t3 : Int) - r.t4) - r.correction) 2)
  | none => s

def execPtpPdelayRespRx (dt port : Nat) (m : DelayResp) (s : State) : Host.Outcome State Fault Refusal :=
  let t := s.advance dt
  finish s (
    if t.domOn (portDomain port) = false then t
    else match t.ptpFor port m.domainNumber with
      | (t, some d) => t.takePdelayResp d m
      | (t, none) => t)

/-- PTP_PDELAY_REQ_RX (R90): answered under 802.1AS, with a Follow_Up once its transmit capture is in. -/
def execPtpPdelayReqRx (dt port domainNumber sender seq : Nat) (s : State) : Host.Outcome State Fault Refusal :=
  let t := s.advance dt
  finish s (
    if t.domOn (portDomain port) = false then t
    else match t.ptpFor port domainNumber with
      | (t, some d) =>
        if t.reg (Od.ptpProfile.inst d) ≠ 2 then t.count (Od.ptpRxDiscarded.inst d)
        else
          let t := t.setDom d { t.dom d with respTo := some (sender, seq) }
          let ns := t.now - t.rxDelayPs port / 1000
          t.sendPtp d true (0xF010 + d) (ptpMsg 0x13 domainNumber seq 5 127
            (natBE 6 (ns / 1000000000) ++ natBE 4 (ns % 1000000000) ++ natBE 8 sender ++ natBE 2 1))
      | (t, none) => t)

/-- TSQ_ENTRY_DELIVER (R107): the oldest entry of a port's queue reaches the block that asked. -/
def execTsqEntryDeliver (dt port : Nat) (s : State) : Host.Outcome State Fault Refusal :=
  let t := s.advance dt
  finish s (
    if 26 ≤ port ∨ t.alive = false then t
    else match t.tsq port with
    | [] => t
    | e :: rest =>
      let t := t.setTsq port rest
      let tag := u16 e 0
      let cap := captureNs (slice e 4 12)
      if isEchoTag tag then t.echoCapture port tag e
      else if tag = 0xF000 ∨ tag = 0xF001 then
        let x := t.dom (tag - 0xF000)
        if x.reqOpen then t.setDom (tag - 0xF000) { x with reqTime := some cap } else t
      else if tag = 0xF010 ∨ tag = 0xF011 then
        let d := tag - 0xF010
        match (t.dom d).respTo with
        | some (sender, seq) =>
          let t := t.setDom d { t.dom d with respTo := none }
          t.sendPtp d false 0 (ptpMsg 0x1A (t.reg (Od.ptpDomainNumber.inst d)) seq 5 127
            (natBE 6 (cap / 1000000000) ++ natBE 4 (cap % 1000000000) ++ natBE 8 sender ++ natBE 2 1))
        | none => t
      else t)

/-! ## Timeouts (R94) -/

/-- ANNOUNCE_RECEIPT_TIMEOUT: none runs for a domain that is OFF or LISTENING. -/
def execAnnounceReceiptTimeout (domain : Nat) (s : State) : Host.Outcome State Fault Refusal :=
  let x := s.dom domain
  finish s (
    if 1 < domain ∨ s.alive = false ∨ x.state ≤ 1 then s
    else match x.chosen with
    | none => s
    | some c =>
      let t := s.goTo (x.lastAnnounce + s.announceTimeout domain c.logInterval)
      let t := t.setDom domain { x with chosen := none, masters := x.masters.filter fun m => !sameMaster m.ann c }
      if x.state = 2 then ((t.setDom domain { t.dom domain with state := 1 }).count (Od.ptpAnnounceTimeouts.inst domain)).autoSwitch
      else if x.state = 3 then ((t.unlockDom domain 4).count (Od.ptpAnnounceTimeouts.inst domain)).autoSwitch
      else t)

/-- SYNC_TIMEOUT: no Sync for 4 sync intervals moves LOCKED to HOLDOVER. -/
def execSyncTimeout (domain : Nat) (s : State) : Host.Outcome State Fault Refusal :=
  let x := s.dom domain
  finish s (
    if 1 < domain ∨ s.alive = false ∨ x.state ≠ 3 then s
    else ((s.goTo (x.lastSync + 4 * syncNs x.logSync)).unlockDom domain 4).autoSwitch)

/-- HOLDOVER_EXPIRED. -/
def execHoldoverExpired (domain : Nat) (s : State) : Host.Outcome State Fault Refusal :=
  let x := s.dom domain
  finish s (
    if 1 < domain ∨ s.alive = false ∨ x.state ≠ 4 then s
    else
      let t := s.goTo (x.holdSince + s.reg (Od.ptpHoldoverLimit.inst domain) * 1000000000)
      ((t.setDom domain { x with state := 1, chosen := none }).raise 0x2003 (natBE 2 domain)).autoSwitch)

/-! ## PPS (R113, R114) -/

/-- PPS_IN_EDGE (R113). HOLDOVER_ASSIST steers the rate alone, against the offset and never further than SWITCH_SLEW from the frequency
HOLDOVER was entered with; the steering law is open (log entry 32). -/
def execPpsInEdge (dt : Nat) (s : State) : Host.Outcome State Fault Refusal :=
  let t := s.advance dt
  finish s (
    if t.reg Od.ppsInMode = 0 ∨ t.alive = false then t
    else
      let t := t.count Od.ppsInEdges
      let cap : Int := (t.now : Int) - (t.reg Od.ppsInDelay : Nat)
      let off := cap - divRound cap 1000000000 * 1000000000
      if 1000000 < off.natAbs then (t.count Od.ppsInFarCount).raise 0x2008 (natBE 4 (t.reg Od.ppsInOffset))
      else
        let t := t.setReg Od.ppsInOffset (satS 32 off)
        if t.reg Od.ppsInMode = 2 ∧ (t.dom t.sel).state = 4 then
          let lim : Int := (t.reg Od.switchSlew * 1000 : Nat)
          let hold := (t.dom t.sel).holdFreq
          t.setFreq t.sel (clampI (hold - lim) (hold + lim) (Config.servoFreq (-off) (t.reg (Od.ptpServoBw.inst t.sel)) (t.freq t.sel)))
        else t)

/-- PPS_OUT_RISE (R114): at the next whole second of device time. -/
def execPpsOutRise (s : State) : Host.Outcome State Fault Refusal :=
  finish s (
    if s.reg Od.ppsOutEn = 0 ∨ s.alive = false then s
    else
      let t := s.goTo (ceilDiv s.now 1000000000 * 1000000000)
      if t.timeLocked then { t with tm := { t.tm with ppsOut := 1, ppsOutEnd := t.now + t.reg Od.ppsOutWidth * 1000 } } else t.timePins)

/-- PPS_OUT_FALL (R114). -/
def execPpsOutFall (s : State) : Host.Outcome State Fault Refusal :=
  finish s (
    if s.tm.ppsOut ≠ 1 ∨ s.alive = false then s
    else
      let t := s.goTo s.tm.ppsOutEnd
      { t with tm := { t.tm with ppsOut := 0 } })

/-- SLEW_REMAINING as it reads (R100). -/
def State.slewRemaining (s : State) : Nat := satS 32 s.slewLeft

end Sys2Proof.Machine
end

