-- ==== Sys2Proof/Machine/Plan.lean ====
section
/-!
DEFINITION. What a configuration asks of a frame: its output units and outputs (R29, R188), the division into blocks (R183), the
tap rate (R184), and the frame job graph (R258).
-/
namespace Sys2Proof.Machine

/-! ## Units -/

/-- Key of a unit: kind 0 tile, 1 fixture endpoint, 3 the raster (R241, R261; log entry 58). -/
def unitKey (kind n : Nat) : Nat := kind * 65536 + n
def rasterUnit : Nat := unitKey 3 0

/-- ENDPOINT_PACK record of an endpoint (R210). -/
def packRec (cfg : Store) (ep : Nat) : Bytes := (cfg.recOf Od.endpointPack ep).getD []

def epKind (p : Bytes) : Nat := u8 p 2
def epChannels (p : Bytes) : Nat := u8 p 3
def epTarget (p : Bytes) : Nat := u16 p 4
def epStart (p : Bytes) : Nat := u16 p 6
def epBits (p : Bytes) : Nat := u8 p 9
def epDither (p : Bytes) : Bool := bit (u8 p 11) 0
def epXfer (p : Bytes) : Nat := u8 p 11 / 16

/-- SACN_OUT record by index (R208). -/
def sacnOutRec (cfg : Store) (i : Nat) : Bytes := ((cfg.recs Od.sacnOut)[i]?).getD []

/-- STRING_GROUP record of a group (R343). -/
def groupRec (cfg : Store) (g : Nat) : Bytes := ((cfg.recs Od.stringGroup)[g]?).getD []

/-- The controllers bound to a group's channels, in R, G, B, W order (R343). -/
def groupStrings (cfg : Store) (g : Nat) : List Nat := (List.range (u8 (groupRec cfg g) 0)).map fun c => u8 (groupRec cfg g) (1 + c)

/-- The outputs an endpoint packs into (R29, R208): one, but for a string group, whose channels each drive a controller of
their own (log entry 57). -/
def epOuts (cfg : Store) (p : Bytes) : List Out :=
  match epKind p with
  | 0 => [.chain (epTarget p)]
  | 1 => [.dmx (epTarget p)]
  | 2 => [.sacn (u16 (sacnOutRec cfg (epTarget p)) 0)]
  | 3 => [.matrix (epTarget p)]
  | _ => (groupStrings cfg (epTarget p)).map Out.str

/-- UNIT_MODEL record of a unit (R216). -/
def modelRec (cfg : Store) (unit : Nat) : Option Bytes := (cfg.recs Od.unitModel).find? fun r => unitKey (u8 r 0) (u16 r 2) == unit

/-- The feed of a unit (R216). -/
def unitFeed (cfg : Store) (unit : Nat) : Option Nat :=
  match modelRec cfg unit with
  | some r => if u16 r 4 = 0xFFFF then none else some (u16 r 4)
  | none => none

def pIdle (r : Bytes) : Nat := u32 r 8

/-- FEEDS record of a feed (R219). -/
def feedRec (cfg : Store) (f : Nat) : Bytes := (cfg.recOf Od.feeds f).getD []

/-- Priority of a unit: UNIT_PRIO, or else PRIO_BY_KIND (R258, R261). -/
def unitPrio (cfg : Store) (unit dflt : Nat) : Nat :=
  match (cfg.recs Od.unitPrio).find? fun r => unitKey (u8 r 0) (u16 r 1) == unit with
  | some r => u8 r 3
  | none => u8 (cfg.tab Od.prioByKind) dflt

/-- One output unit of a configuration. -/
structure UnitDef where
  unit : Nat
  px : Nat
  /-- taps of one pixel (R184) -/
  taps : Nat
  prio : Nat
  feed : Option Nat
  outs : List Out
  /-- place of the unit among those that pack into one output (R258) -/
  start : Nat
  /-- pack strips: first pixel or sample, and count (R258) -/
  strips : List (Nat × Nat)
  deriving DecidableEq, Repr

/-- Pack strips of `rows` rows of a w × h unit (R258). -/
def rowStrips (rows w h : Nat) : List (Nat × Nat) :=
  (List.range (ceilDiv h (max rows 1))).map fun i => (i * rows * w, min rows (h - i * rows) * w)

/-- Runs of 256 samples (R183, R258). -/
def runs256 (count : Nat) : List (Nat × Nat) :=
  (List.range (ceilDiv count 256)).map fun i => (i * 256, min 256 (count - i * 256))

def tileUnit (cfg : Store) (m : Bytes) : UnitDef :=
  let u := unitKey 0 (u16 m 0)
  { unit := u, px := u16 m 4 * u16 m 6, taps := tapCount (u8 m 3) (u16 m 48) (u16 m 50), prio := unitPrio cfg u 0
    feed := unitFeed cfg u, outs := [.tile (u16 m 0)], start := 0, strips := rowStrips (cfg.num Od.packRows) (u16 m 4) (u16 m 6) }

def endpointUnit (cfg : Store) (m : Bytes) : UnitDef :=
  let u := unitKey 1 (u16 m 0)
  let p := packRec cfg (u16 m 0)
  { unit := u, px := u32 m 8, taps := if u8 m 2 = 2 then 0 else tapCount (u8 m 3) (u16 m 12) (u16 m 14)
    prio := unitPrio cfg u (if epKind p = 2 then 2 else 1), feed := unitFeed cfg u, outs := epOuts cfg p, start := epStart p
    strips := runs256 (u32 m 8) }

def rasterUnitDef (cfg : Store) (m : Bytes) : UnitDef :=
  { unit := rasterUnit, px := u16 m 4 * u16 m 6, taps := tapCount (u8 m 3) (u16 m 48) (u16 m 50), prio := unitPrio cfg rasterUnit 3
    feed := none, outs := [.raster 0], start := 0, strips := rowStrips (cfg.num Od.packRows) (u16 m 4) (u16 m 6) }

/-- The units of a configuration, in TILE_MAP order, ENDPOINT_MAP order, then the raster (R258, R259, R369). -/
def unitsOf (cfg : Store) : List UnitDef :=
  (cfg.recs Od.tileMap).map (tileUnit cfg) ++ (cfg.recs Od.endpointMap).map (endpointUnit cfg) ++
    (cfg.recs Od.rasterMap).map (rasterUnitDef cfg)

def unitOf (cfg : Store) (unit : Nat) : Option UnitDef := (unitsOf cfg).find? fun u => u.unit == unit

/-- DMX ports that a universe route of the aqueduct fills (R374, R376). -/
def routedDmx (cfg : Store) : List Out :=
  (cfg.recs Od.aqRoutes).filterMap fun r => if u8 r 0 = 1 ∧ u8 r 1 = 2 then some (.dmx (u16 r 8)) else none

/-- The outputs of a configuration (R29): those units pack into, every SACN_OUT record, and DMX ports that routes fill. -/
def outputsOf (cfg : Store) : List Out :=
  (((unitsOf cfg).flatMap UnitDef.outs) ++ ((cfg.recs Od.sacnOut).map fun r => Out.sacn (u16 r 0)) ++ routedDmx cfg).eraseDups

/-- The feeds of a configuration that have units, ascending in order of first use (R219). -/
def feedsOf (cfg : Store) : List Nat := ((unitsOf cfg).filterMap UnitDef.feed).eraseDups

/-! ## Blocks (R183) -/

/-- Size of a block's region, clipped to the canvas: the box around pixel positions `ps`, the filter's reach, and 1 px. -/
def regionSize (w h : Nat) (mode rx ry : Nat) (ps : List (Int × Int)) : Nat :=
  match ps with
  | [] => 0
  | p :: t =>
    let xs := (p :: t).map fun q => q.1 / 65536
    let ys := (p :: t).map fun q => q.2 / 65536
    let lo (l : List Int) : Int := l.foldl min (l.headD 0)
    let hi (l : List Int) : Int := l.foldl max (l.headD 0)
    let ((ax, bx), (ay, by')) := reach mode rx ry
    let x0 := max 0 (lo xs - (ax : Int) - 1)
    let x1 := min ((w : Int) - 1) (hi xs + (bx : Int) + 1)
    let y0 := max 0 (lo ys - (ay : Int) - 1)
    let y1 := min ((h : Int) - 1) (hi ys + (by' : Int) + 1)
    (x1 - x0 + 1).toNat * (y1 - y0 + 1).toNat

/-- Blocks of a tile below one block of `w` × `h` at (u, v), halved until the region fits (R183). -/
def splitBlock (region : Nat → Nat → Nat → Nat → Nat) : Nat → Nat → Nat → Nat → Nat → List (Nat × Nat × Nat × Nat)
  | 0, u, v, w, h => [(u, v, w, h)]
  | fuel + 1, u, v, w, h =>
    if region u v w h ≤ 8192 ∨ w * h ≤ 1 then [(u, v, w, h)]
    else if h ≤ w then splitBlock region fuel u v (w / 2) h ++ splitBlock region fuel (u + w / 2) v (w - w / 2) h
    else splitBlock region fuel u v w (h / 2) ++ splitBlock region fuel u (v + h / 2) w (h - h / 2)

/-- Blocks of a TILE_MAP record, row by row (R183, R259). -/
def tileBlocks (cfg : Store) (m : Bytes) : List (Nat × Nat × Nat × Nat) :=
  let tw := u16 m 4
  let th := u16 m 6
  let i := u8 m 2
  let region (u v w h : Nat) : Nat :=
    regionSize (cfg.num (Od.strWidth.inst i)) (cfg.num (Od.strHeight.inst i)) (u8 m 3) (u16 m 48) (u16 m 50)
      (([(u, v), (u + w - 1, v), (u, v + h - 1), (u + w - 1, v + h - 1)] : List (Nat × Nat)).map fun c => (tilePos m c.1 c.2).2)
  (List.range (ceilDiv th 32)).flatMap fun b => (List.range (ceilDiv tw 32)).flatMap fun a =>
    splitBlock region 10 (32 * a) (32 * b) (min 32 (tw - 32 * a)) (min 32 (th - 32 * b))

/-- Runs below one run of samples, halved until the region fits (R183). -/
def splitRun (region : Nat → Nat → Nat) : Nat → Nat → Nat → List (Nat × Nat)
  | 0, i, n => [(i, n)]
  | fuel + 1, i, n =>
    if region i n ≤ 8192 ∨ n ≤ 1 then [(i, n)] else splitRun region fuel i (n / 2) ++ splitRun region fuel (i + n / 2) (n - n / 2)

/-- Runs of an ENDPOINT_MAP record (R183). -/
def endpointRuns (cfg : Store) (m : Bytes) : List (Nat × Nat) :=
  if u8 m 2 = 2 then runs256 (u32 m 8)
  else
    let i := u8 m 2
    let region (a n : Nat) : Nat :=
      regionSize (cfg.num (Od.strWidth.inst i)) (cfg.num (Od.strHeight.inst i)) (u8 m 3) (u16 m 12) (u16 m 14)
        ((List.range n).map fun (k : Nat) => (s32 (pointRec cfg (u32 m 4 + a + k)) 0, s32 (pointRec cfg (u32 m 4 + a + k)) 4))
    (runs256 (u32 m 8)).flatMap fun r => splitRun region 8 r.1 r.2

/-- ARG bits of a block: U0, V0, W, H (R241). -/
def blockArg (b : Nat × Nat × Nat × Nat) : Nat := b.1 * 2 ^ 36 + b.2.1 * 2 ^ 24 + b.2.2.1 * 2 ^ 12 + b.2.2.2

/-- Sample barges of every unit: unit, ARG [63:0], pixels (R183, R241), in placement order (R259). -/
def sampleBlocks (cfg : Store) : List (Nat × Nat × Nat) :=
  let plane (u : Nat) (m : Bytes) : List (Nat × Nat × Nat) := (tileBlocks cfg m).map fun b => (u, blockArg b, b.2.2.1 * b.2.2.2)
  (cfg.recs Od.tileMap).flatMap (fun m => plane (unitKey 0 (u16 m 0)) m) ++
    (cfg.recs Od.endpointMap).flatMap (fun m => (endpointRuns cfg m).map fun r => (unitKey 1 (u16 m 0), r.1 * 2 ^ 24 + r.2, r.2)) ++
    (cfg.recs Od.rasterMap).flatMap (plane rasterUnit)

/-! ## Work buffers (R241): frame j uses the half j mod 2 of the work area; 16 bytes a pixel, units in their order (log entry 51) -/

/-- The buffer of a unit for frame `k`. -/
def workAddr (cfg : Store) (k unit : Nat) : Nat :=
  workArea + k % 2 * 2 ^ 28 + 16 * (((unitsOf cfg).takeWhile fun u => u.unit != unit).foldl (fun a u => a + u.px) 0)

/-- The unit list of a feed for frame `k`: 4 bytes a unit, feeds in their order. -/
def feedListAddr (cfg : Store) (k feed : Nat) : Nat :=
  listArea + k % 2 * 2 ^ 20 +
    4 * (((feedsOf cfg).takeWhile fun g => g != feed).foldl (fun a g => a + ((unitsOf cfg).filter fun u => u.feed == some g).length) 0)

/-- KIND and UNIT of a barge that works on a unit (R241). The raster is no tile and no endpoint and has no KIND: its barges carry KIND 0
with UNIT 0x3FFF, which no tile has (log entry 58). -/
def bargeUnit (unit : Nat) : Nat × Nat := if unit = rasterUnit then (0, 0x3FFF) else (unit / 65536, unit % 65536)

/-- The unit that KIND and UNIT name. -/
def unitNamed (kind n : Nat) : Nat := if kind = 0 ∧ n = 0x3FFF then rasterUnit else unitKey kind n

/-! ## Figures of a configuration -/

/-- Output pixels (R4). -/
def outputPixels (cfg : Store) : Nat := (unitsOf cfg).foldl (fun a u => a + u.px) 0

/-- Taps of one frame (R184). -/
def tapsPerFrame (cfg : Store) : Nat := (unitsOf cfg).foldl (fun a u => a + u.px * u.taps) 0

/-- TAP_RATE: the tap rate, rounded down (R184). -/
def tapRate (cfg : Store) : Nat := tapsPerFrame cfg * (rateOf (cfg.num Od.frameRate)).1 / (rateOf (cfg.num Od.frameRate)).2

/-- A position lies outside its canvas (R186). -/
def offCanvas (cfg : Store) (stream : Nat) (p : Int × Int) : Bool :=
  let i := (p.1 + 32768) / 65536
  let j := (p.2 + 32768) / 65536
  !(decide (0 ≤ i) && decide (i < (cfg.num (Od.strWidth.inst stream) : Int)) && decide (0 ≤ j) &&
    decide (j < (cfg.num (Od.strHeight.inst stream) : Int)))

/-- Positions of a tile and of an endpoint that lie outside (R186). -/
def tileOff (cfg : Store) (m : Bytes) : Nat :=
  ((List.range (u16 m 4 * u16 m 6)).filter fun n => offCanvas cfg (u8 m 2) (tilePos m (n % max (u16 m 4) 1) (n / max (u16 m 4) 1)).2).length

def endpointOff (cfg : Store) (m : Bytes) : Nat :=
  if u8 m 2 = 2 then 0
  else ((List.range (u32 m 8)).filter fun k =>
    offCanvas cfg (u8 m 2) (s32 (pointRec cfg (u32 m 4 + k)) 0, s32 (pointRec cfg (u32 m 4 + k)) 4)).length

/-- OFF_CANVAS_PX (R185, R186). -/
def offCanvasPx (cfg : Store) : Nat :=
  ((cfg.recs Od.tileMap) ++ cfg.recs Od.rasterMap).foldl (fun a m => a + tileOff cfg m) 0 +
    (cfg.recs Od.endpointMap).foldl (fun a m => a + endpointOff cfg m) 0

/-! ## The job graph (R258) -/

/-- A barge of a graph before release. Counters are places in the bank, counted from 1; 0 is none. -/
structure GBarge where
  ty : Nat
  unit : Nat
  prio : Nat
  energy : Nat
  wait : Nat
  done : Nat
  /-- place of its output among the outputs, from 1, where it has a flight; and its SEQ from the range's start -/
  flight : Nat := 0
  seq : Nat := 0
  /-- ARG [63:0] -/
  arg : Nat
  deriving DecidableEq, Repr

/-- A compiled graph: barges with the sample barges first, the value each counter is armed with, and where the counters of
units, feeds and outputs stand. -/
structure Graph where
  barges : List GBarge
  arm : List Nat
  unitCtr : List (Nat × Nat)
  feedCtr : List (Nat × Nat × Nat)
  outCtr : List (Out × Nat)
  /-- outputs with a flight, and their pack barges -/
  flights : List (Out × Nat)
  deriving DecidableEq, Repr

/-- ENERGY of a barge (R258): `k` is the record of BARGE_ENERGY, 0 SAMPLE to 3 PACK. -/
def bargeEnergy (cfg : Store) (k px taps : Nat) : Nat :=
  let r := slice (cfg.tab Od.bargeEnergy) (6 * k) 6
  min 65535 (u16 r 0 + ceilDiv (px * u16 r 2 + taps * u16 r 4) 100000)

/-- The pack strips into one output, in payload order (R258): unit and strip. -/
def packsInto (us : List UnitDef) (o : Out) : List (UnitDef × Nat × Nat) :=
  let mine := us.filter fun u => u.outs.contains o
  (sortBy (fun a b => decide (a.start ≤ b.start)) mine).flatMap fun u => u.strips.map fun s => (u, s.1, s.2)

/-- The graph of a configuration (R258). -/
def graphOf (cfg : Store) : Graph :=
  let us := unitsOf cfg
  let outs := (us.flatMap UnitDef.outs).eraseDups
  let feeds := feedsOf cfg
  let blocks := sampleBlocks cfg
  let nu := us.length
  let nf := feeds.length
  let uctr (u : Nat) : Nat := 1 + (us.findIdx fun d => d.unit == u)
  let fctr (f : Nat) : Nat := 1 + nu + 2 * (feeds.findIdx fun g => g == f)
  let octr (i : Nat) : Nat := 1 + nu + 2 * nf + i
  let samples := blocks.map fun b =>
    let d := us.find? fun d => d.unit == b.1
    ({ ty := 1, unit := b.1, prio := (d.map UnitDef.prio).getD 0, wait := 0, done := uctr b.1, arg := b.2.1
       energy := bargeEnergy cfg 0 b.2.2 (b.2.2 * (d.map UnitDef.taps).getD 0) } : GBarge)
  let tallies := us.filterMap fun d => d.feed.map fun f =>
    ({ ty := 2, unit := d.unit, prio := d.prio, wait := uctr d.unit, done := fctr f, arg := 0, energy := bargeEnergy cfg 1 d.px 0 } : GBarge)
  let weirs := feeds.map fun f =>
    let mine := us.filter fun d => d.feed == some f
    ({ ty := 3, unit := 0, prio := mine.foldl (fun a d => min a d.prio) 7, wait := fctr f, done := fctr f + 1, arg := f * 2 ^ 52
       energy := bargeEnergy cfg 2 0 0 } : GBarge)
  let packs := outs.zipIdx.flatMap fun (o, i) =>
    let ss := packsInto us o
    ss.zipIdx.map fun ((d, first, count), q) =>
      ({ ty := 4, unit := d.unit, prio := d.prio, wait := match d.feed with | some f => fctr f + 1 | none => uctr d.unit
         done := octr i, flight := if ss.length = 1 then 0 else i + 1, seq := q, arg := first * 2 ^ 24 + count
         energy := bargeEnergy cfg 3 count 0 } : GBarge)
  { barges := samples ++ tallies ++ weirs ++ packs
    arm := us.map (fun d => (blocks.filter fun b => b.1 == d.unit).length) ++
      feeds.flatMap (fun f => [(us.filter fun d => d.feed == some f).length, 1]) ++ outs.map (fun o => (packsInto us o).length)
    unitCtr := us.map fun d => (d.unit, uctr d.unit)
    feedCtr := feeds.map fun f => (f, fctr f, fctr f + 1)
    outCtr := outs.zipIdx.map fun (o, i) => (o, octr i)
    flights := (outs.map fun o => (o, (packsInto us o).length)).filter fun p => p.2 != 1 }

/-- GRAPH_SIZE figures: barges, counters, flights, delay entries (R262). -/
def Graph.size (g : Graph) : Nat × Nat × Nat × Nat := (g.barges.length, g.arm.length, g.flights.length, g.feedCtr.length)

/-- The limits of R258. -/
def Graph.fits (g : Graph) : Bool :=
  let (b, c, f, d) := g.size
  decide (b ≤ 57344) && decide (c ≤ 30720) && decide (f ≤ 3583) && decide (d ≤ 4096)

end Sys2Proof.Machine
end

