-- ==== Sys2Proof/Machine/Cells.lean ====
section
/-!
DEFINITION. What the barges of a frame compute (spec/07 to spec/09): sample values, tallies, feed scales and packed codes.
-/
namespace Sys2Proof.Machine

/-- The frame in flight with an index. -/
def State.frame? (s : State) (k : Nat) : Option Frame := s.tl.frames.find? fun f => f.k == k

def State.setFrame (s : State) (f : Frame) : State :=
  { s with tl := { s.tl with frames := s.tl.frames.map fun g => if g.k = f.k then f else g } }

/-! ## SAMPLE: steps 1 to 5 of R188 -/

/-- Step 5 value of one raster pixel: identity record, no thermal matrix, no ageing or seam gain (R369). -/
def rasterPixel (cfg : Store) (canvas : Option Slot) (m c : Bytes) (u v : Nat) : List Nat :=
  let (_, x, y) := tilePos m u v
  let l := filterAt cfg canvas (u8 m 3) (u16 m 48) (u16 m 50) x y
  gainsAndClamp cfg (u8 c 5) 32768 [32768, 32768, 32768] 0 (pixelMatrix identityRecord l)

/-- The pixels of a block and their places (R175, R183). -/
def blockPixels (tw arg : Nat) : List (Nat × Nat × Nat) :=
  let u0 := bits arg 47 36
  let v0 := bits arg 35 24
  let w := bits arg 23 12
  let h := bits arg 11 0
  (List.range h).flatMap fun dv => (List.range w).map fun du => ((v0 + dv) * tw + u0 + du, u0 + du, v0 + dv)

/-- The values a SAMPLE barge writes to its unit's work buffer (R241). -/
def sampleValues (f : Frame) (unit arg : Nat) : List (Nat × List Nat) :=
  let n := unit % 65536
  match unit / 65536 with
  | 0 =>
    match f.cfg.recOf Od.tileMap n with
    | none => []
    | some m =>
      let c := (f.cfg.recOf Od.tileColour n).getD []
      (blockPixels (u16 m 4) arg).map fun p =>
        (p.1, tilePixel f.cfg (f.canvas.getD (u8 m 2) none) f.gains (kvGet n f.temps) m c p.2.1 p.2.2)
  | 1 =>
    match f.cfg.recOf Od.endpointMap n with
    | none => []
    | some m =>
      let p := packRec f.cfg n
      (List.range (bits arg 23 0)).map fun i =>
        let i := bits arg 47 24 + i
        (i, endpointSample f.cfg f.canvas f.univ f.gains m p i)
  | _ =>
    let m := f.cfg.rec1 Od.rasterMap
    (blockPixels (u16 m 4) arg).map fun p =>
      (p.1, rasterPixel f.cfg (f.canvas.getD (u8 m 2) none) m (f.cfg.rec1 Od.rasterColour) p.2.1 p.2.2)

/-- The frame with those values in the unit's work buffer. -/
def Frame.takeSamples (f : Frame) (unit : Nat) (vs : List (Nat × List Nat)) : Frame :=
  { f with work := kvMod unit [] (fun l => vs.foldl (fun a v => kvSet v.1 v.2 a) l) f.work }

/-! ## TALLY (R217) -/

/-- Channels of a unit (R205, R210). -/
def unitChannels (cfg : Store) (unit : Nat) : Nat :=
  match unit / 65536 with
  | 0 => formatChannels (u16 ((cfg.recOf Od.tileColour (unit % 65536)).getD []) 2)
  | 1 => epChannels (packRec cfg (unit % 65536))
  | _ => 3

/-- n_u of a unit for a frame (R217); `loop` holds the sensor gains by string group. -/
def unitTally (f : Frame) (loop : List (List Nat)) (unit : Nat) : Nat :=
  let ch := unitChannels f.cfg unit
  let work := kvGetD unit [] f.work
  let sums := (List.range ch).map (channelSum work)
  let p := packRec f.cfg (unit % 65536)
  let sums := if unit / 65536 = 1 ∧ epKind p = 4 then stringSums sums (loop.getD (epTarget p) []) (tickPeriod f.rate) else sums
  match modelRec f.cfg unit with
  | some r => tallyPower r ch sums
  | none => 0

/-! ## WEIR (R221–R223) -/

/-- Units of a feed in a configuration. -/
def feedUnits (cfg : Store) (feed : Nat) : List UnitDef := (unitsOf cfg).filter fun u => u.feed == some feed

/-- Σ P_IDLE of a feed, µW. -/
def feedIdle (cfg : Store) (feed : Nat) : Nat :=
  (feedUnits cfg feed).foldl (fun a u => a + match modelRec cfg u.unit with | some r => pIdle r | none => 0) 0

/-- The units as the weir job sees them (R221). -/
def State.weirUnits (s : State) (f : Frame) (feed : Nat) : List FeedUnit :=
  (feedUnits f.cfg feed).map fun u =>
    { n := if f.forced.contains u.unit then none else kvGet u.unit f.tally, h := kvGetD u.unit 0 s.weir.h }

def State.feedState (s : State) (feed : Nat) : FeedState := kvGetD feed {} s.weir.feeds
def State.setFeedState (s : State) (feed : Nat) (x : FeedState) : State :=
  { s with weir := { s.weir with feeds := kvSet feed x s.weir.feeds } }

/-- PREDICTED_IN of a feed (R225): n_u of every unit whose tally joined, h_u of every other. -/
def predictedMw (us : List FeedUnit) (idle eta : Nat) : Nat :=
  inputMw (us.foldl (fun a u => a + (match u.n with | some n => n | none => u.h)) idle) eta

/-- The weir job of a feed for a frame: the scale is published (R221–R223); PREDICTED_IN shows with the frame's PRESENTED_IN (R225). -/
def State.weirJob (s : State) (f : Frame) (feed : Nat) : State :=
  let r := feedRec f.cfg feed
  let x := s.feedState feed
  let us := s.weirUnits f feed
  let idle := feedIdle f.cfg feed
  let fit := feedFit (bit (u8 r 10) 0) us ((feedBudget r : Int) - (idle : Int))
  let sFit := fit.getD 0
  let prev := if x.prevFrame = some (f.k - 1) ∧ 0 < f.k then x.prev else 32768
  let sc := min sFit (min (prev + u16 r 8) 32768)
  let pred := predictedMw us idle (u16 r 6)
  let s := s.setFeedState feed { x with scale := sc, prevFrame := some f.k, prev := sc
                                        limited := if sc < 32768 then (x.limited + 1) % 2 ^ 32 else x.limited }
  let s := s.setFrame { f with scale := kvSet feed sc f.scale, predicted := kvSet feed pred f.predicted
                               overCounted := if fit.isNone then feed :: f.overCounted else f.overCounted }
  let s := if sc < sFit then s.count Od.releaseLimited else s
  match fit with
  | some _ => s
  | none => (s.count Od.holdOver).raise 0x7003 (natBE 2 feed ++ natBE 4 x.presented)

/-- The scale of a unit's feed in a frame (R201). -/
def Frame.unitScale (f : Frame) (unit : Nat) : Nat :=
  match unitFeed f.cfg unit with
  | some g => kvGetD g 32768 f.scale
  | none => 32768

/-! ## PACK: steps 7 to 10 of R188 -/

/-- A reset of a unit's residuals holds for the frame and no launched frame has followed it (R204). -/
def State.residualsGone (s : State) (f : Frame) (unit : Nat) : Bool := s.col.resetFrom.any fun p => p.1 == unit && decide (p.2 ≤ f.ord)

/-- The residuals of a pixel: those of the last launched frame, 128 where reset or never written (R203, R204). -/
def State.rho (s : State) (f : Frame) (unit n : Nat) : List Nat :=
  let l := if s.residualsGone f unit then [] else kvGetD unit [] s.col.residuals
  (List.range 4).map fun c => kvGetD (4 * n + c) 128 l

/-- Codes of one pixel by logical channel, and its new residuals (R201–R203). `qs`: bits of each channel. -/
def State.packPixel (s : State) (f : Frame) (unit n xfer : Nat) (qs : List Nat) (dither : Bool) : List Nat × List Nat :=
  let v := kvGetD n [] (kvGetD unit [] f.work)
  let rho := if dither then s.rho f unit n else [128, 128, 128, 128]
  let sc := f.unitScale unit
  (qs.zipIdx.map fun (q, c) => quantise q (transfer f.cfg xfer ((nth v c * sc + 16384) / 32768)) (rho.getD c 128)).unzip

/-- How a unit is packed: bits by channel, XFER, ORDER and dither. -/
structure PackHow where
  qs : List Nat
  xfer : Nat
  order : Nat
  dither : Bool
  deriving DecidableEq, Repr

def packHow (cfg : Store) (unit : Nat) : PackHow :=
  match unit / 65536 with
  | 0 =>
    let c := (cfg.recOf Od.tileColour (unit % 65536)).getD []
    { qs := List.replicate (formatChannels (u16 c 2)) (formatQ (u16 c 2)), xfer := u8 c 7 % 16, order := u8 c 4, dither := bit (u8 c 6) 0 }
  | 1 =>
    let p := packRec cfg (unit % 65536)
    { qs := List.replicate (epChannels p) (if epKind p = 4 then 16 else epBits p), xfer := epXfer p, order := u8 p 8, dither := epDither p }
  | _ =>
    let c := cfg.rec1 Od.rasterColour
    { qs := rasterWidths (u16 c 2), xfer := u8 c 7 % 16, order := 0, dither := bit (u8 c 6) 0 }

/-- The bytes or codes of one pixel at their places in the output (R206–R208): tiles and matrices keep two bytes a code. -/
def packedAt (cfg : Store) (unit : Nat) (o : Out) (n : Nat) (how : PackHow) (codes : List Nat) : List (Nat × Bytes) :=
  let wire := wireOrder how.order how.qs.length codes
  let p := packRec cfg (unit % 65536)
  let two := wire.flatMap (natBE 2)
  let sized := if epBits p = 16 then two else wire.flatMap (natBE 1)
  match unit / 65536 with
  | 0 => [(n, two)]
  | 1 =>
    match epKind p with
    | 0 => [(epStart p + n, sized)]
    | 3 => [(epStart p + n, two)]
    | 4 =>
      match o with
      | .str k => [(0, natBE 2 (nth codes ((groupStrings cfg (epTarget p)).findIdx fun x => x == k)))]
      | _ => []
    | _ => sized.zipIdx.map fun (b, i) => (epStart p + n * sized.length + i, [b])
  | _ => [(n, rasterPack (u16 (cfg.rec1 Od.rasterColour) 2) codes)]

/-- A PACK barge's work: packed data of output `o` and new residuals (R201–R208). -/
def State.packStrip (s : State) (f : Frame) (unit : Nat) (o : Out) (first count : Nat) : Frame :=
  let how := packHow f.cfg unit
  (List.range count).foldl (fun (g : Frame) i =>
    let n := first + i
    let (codes, rho) := s.packPixel f unit n how.xfer how.qs how.dither
    let old := ((g.packed.find? fun p => p.1 == o).map (·.2)).getD []
    let new := (packedAt f.cfg unit o n how codes).foldl (fun l e => kvSet e.1 e.2 l) old
    let res := if how.dither then kvMod unit [] (fun l => rho.zipIdx.foldl (fun l (r, c) => kvSet (4 * n + c) r l) l) g.residuals else g.residuals
    { g with packed := (g.packed.filter fun p => p.1 != o) ++ [(o, new)], residuals := res }) f

/-- What the frame holds for an output. -/
def Frame.data (f : Frame) (o : Out) : List (Nat × Bytes) := ((f.packed.find? fun p => p.1 == o).map (·.2)).getD []

/-- A tile's payload: every pixel's codes as one bit stream (R207). -/
def tilePayload (q : Nat) (data : List (Nat × Bytes)) : Bytes :=
  packBits q (data.flatMap fun e => (records 2 e.2).map fun c => u16 c 0)

end Sys2Proof.Machine
end

