-- ==== Sys2Proof/Machine/Trim.lean ====
section
/-!
DEFINITION. Trim and the lengthsman (spec/20).
-/
namespace Sys2Proof.Machine

/-! ## The replace request (R456–R458) -/

/-- Spare cells of a quadrant (R233, R456). -/
def State.sparesIn (s : State) (q : Nat) : Nat := (((s.lk.cells.drop (34 * q)).take 34).filter (fun c => c.state == 1)).length

/-- ENVM_WEAR in U1.15: the share of the rating of 10⁹ writes (R456, R459), rounded half up (R10). -/
def State.envmWear (s : State) : Nat := min ((s.trim.wear * 32768 + 500000000) / 1000000000) 65535

/-- REPLACE_CAUSE (R457). -/
def State.replaceCause (s : State) : Nat :=
  b2n (([0, 1, 2, 3] : List Nat).any fun q => s.sparesIn q == 0) + 2 * b2n s.trim.sramCause + 4 * b2n s.trim.ddrCause +
    8 * b2n (s.trim.causeT || !s.trim.endA.isEmpty) + 16 * b2n (decide (s.reg Od.envmWearLimit < s.envmWear)) +
    32 * b2n s.trim.lifeCause

/-- Raise REPLACE_REQUESTED when a cause joins (R457). -/
def State.replaceCheck (s : State) : State :=
  let c := s.replaceCause
  let s' := { s with trim := { s.trim with reported := c } }
  let s' := (s'.setReg Od.replaceCause c).setReg Od.replaceRequest (b2n (c != 0))
  if (c &&& s.trim.reported) = c then s' else s'.raise 0x8401 (natBE 1 c)

/-- SERVICE_N is driven low while REPLACE_REQUEST is 1, and in recovery (R457). -/
def State.serviceLow (s : State) : Bool := (s.replaceCause != 0 || s.pwr.state == 7) && s.alive

/-! ## Class T (R447–R451) -/

/-- The domain a timed path needs (R448). -/
def pathDomain (p : Nat) : Nat :=
  if p < 24 then portDomain p else if p < 48 then portDomain (p - 24) else if p < 52 then 0
  else if p < 148 then 10 else if p < 150 then 11 else 0

/-- Start a class T run; a trigger during a run starts one further run (R449). -/
def State.startTrim (s : State) : State :=
  if s.trim.running then { s with trim := { s.trim with again := true } } else { s with trim := { s.trim with running := true } }

/-- The figures of a run over every powered path (R447): taps and residuals are the silicon's (log entry 31). -/
def State.trimRun (s : State) (run : Nat) : List (Nat × Nat × Int) :=
  ((List.range 152).filter fun p => s.domOn (pathDomain p)).map fun p =>
    (p, Config.trimTap run p % 128, Config.trimResidual run p)

/-- A class T run completes: its result waits for step 2; paths at an end are reported, and the cause clears where the run finds none (R450,
R451). A path whose domain is off keeps its bit. -/
def State.trimDone (s : State) : State :=
  let run := s.trim.runs
  let figs := s.trimRun run
  let ends := (figs.filter fun f => f.2.1 == 0 || f.2.1 == 127).map (·.1)
  let kept := s.trim.endT.filter fun p => !s.domOn (pathDomain p)
  let s := { s with trim := { s.trim with
    running := s.trim.again, again := false, runs := run + 1, waiting := some run, next := figs
    endT := kept ++ ends, causeT := !ends.isEmpty
    lastTj := s.weir.tjHottest, lastTime := s.now } }
  (ends.foldl (fun s p => s.raise 0x8002 (natBE 1 0 ++ natBE 2 p)) s).replaceCheck

def execTrimTRunDone (dt : Nat) (s : State) : Host.Outcome State Fault Refusal :=
  let t := s.advance dt
  finish s (if t.trim.running ∧ t.domOn 1 then t.trimDone else t)

/-- d_tx and d_rx in force of a lane: the delay its taps give, with the fixed latency of its rate and FEC mode (R103). -/
def State.setPathDelays (s : State) (p : Nat) : State :=
  let tap (q : Nat) : Nat := match kvGet q s.trim.taps with | some (t, _) => t | none => 0
  let rate := s.reg Od.rate p
  let fec := s.reg Od.fec p
  (s.setReg Od.txPathDelay (Config.pathDelay p (tap p) rate fec % 2 ^ 32) p).setReg Od.rxPathDelay
    (Config.pathDelay (24 + p) (tap (24 + p)) rate fec % 2 ^ 32) p

/-- Step 2 of a tick: the waiting result changes d_rx and d_tx on every lane and port at once (R104, R450), and stands in eNVM (R7). -/
def State.applyTrim (s : State) : State :=
  match s.trim.waiting with
  | none => s
  | some _ =>
    let taps := s.trim.next.foldl (fun l f => kvSet f.1 f.2 l) s.trim.taps
    let s := { s with trim := { s.trim with waiting := none, taps := taps } }
    let s := s.count Od.trimGeneration
    let gen := s.reg Od.trimGeneration
    let s := ((List.range 24).foldl State.setPathDelays s).envmWrite
    let entry := natBE 10 (timeOfNs s.now) ++ natBE 2 (ofS 16 s.trim.lastTj) ++ natBE 2 gen ++ natBE 1 (min s.trim.endT.length 255)
    { s with trim := { s.trim with log := pushLast 32 s.trim.log entry } }

/-! ## Class A (R452, R453) -/

/-- A string controller is enabled, or a light-sensor or thermistor sample is due: thermistors are sampled at 1 kS/s while
PD_LAMP is on, so a sample is due within any run unless PD_LAMP is off or the model counts the converter as idle; the test
here is the string controllers, the sensor bursts and a run under way (DEDUCED, log entry 46). -/
def State.trimABusy (s : State) : Bool :=
  s.trim.aRun.isSome || (List.range 16).any (fun n => u8 (stringCfg s.tl.cur n) 0 == 1) ||
    s.strs.groups.any (fun g => g.burst.isSome)

/-- TRIM_A_RUN (R452): refused with BUSY, or RANGE where REFIN is off; otherwise the reply waits for the store. -/
def State.trimARun (s : State) (tag : Nat) (req : Req) : Eff :=
  if s.trimABusy then effNo s stBusy
  else if Config.trimAField s.trim.aRuns 0 % 2 = 1 then effNo { s with trim := { s.trim with aRuns := s.trim.aRuns + 1 } } stRange
  else ({ s with trim := { s.trim with aRun := some (tag, s.now, req) } }, stOk, some 4)

/-- The masks of four segments out of eight (R452). -/
def segmentMasks : List Nat := (List.range 256).filter fun m => ((List.range 8).filter fun i => bit m i).length == 4

/-- One converter's record of a run (R452, R454): segments, bank, gain, offset, END. -/
def trimARecord (run conv : Nat) : Bytes :=
  let f (i : Nat) : Nat := Config.trimAField run (1 + conv * 5 + i)
  natBE 1 (segmentMasks.getD (f 0 % 70) 0) ++ natBE 1 (f 1 % 2) ++ natBE 2 (f 2) ++ natBE 2 (f 3) ++ natBE 1 (f 4 % 2)

/-- A class A run finishes: stored in eNVM, then the reply (R452, R453). -/
def State.trimADone (s : State) : State :=
  match s.trim.aRun with
  | none => s
  | some (tag, _, _) =>
    let run := s.trim.aRuns
    let gen := s.trim.aGen + 1
    let convs := ([0, 1, 2, 3] : List Nat).map (trimARecord run)
    let stored := natBE 10 (timeOfNs s.now) ++ padTo 16 (s.regTab Od.trimAStation) ++ natBE 4 tag ++
      natBE 2 (Config.trimAField run 30) ++ natBE 2 (ofS 16 s.weir.tjHottest) ++ natBE 4 gen ++ convs.flatten
    let ends := (convs.zipIdx.filter fun (c, _) => u8 c 6 == 1).map (·.2)
    let s := { s with trim := { s.trim with aRun := none, aRuns := run + 1, aGen := gen, aStored := stored, aState := 1
                                            endA := ends }
                      nv := { s.nv with trimA := s.nv.trimA.write stored } }.envmWrite
    let s := ends.foldl (fun s c => s.raise 0x8002 (natBE 1 1 ++ natBE 2 c)) s
    ((s.raise 0x8003 (natBE 4 gen)).settleOwed 4).replaceCheck

def execTrimARunDone (dt : Nat) (s : State) : Host.Outcome State Fault Refusal :=
  let t := s.advance dt
  finish s (if t.domOn 1 then t.trimADone else t)

/-- TRIM_A_APPLY_AT: one waiting application; 0 s 0 ns cancels (R453, R454). -/
def State.writeApplyAt (s : State) (v : Nat) : State :=
  { s with trim := { s.trim with aApplyAt := if v = 0 then none else some (nsOfTime v) } }

/-- Step 2: a stored class A result takes effect at the first tick at or after TRIM_A_APPLY_AT (R453). -/
def State.applyTrimA (s : State) (tick : Nat) : State :=
  match s.trim.aApplyAt with
  | some t =>
    if t ≤ tick ∧ s.trim.aState = 1 then
      { s with trim := { s.trim with aApplyAt := none, aForce := s.trim.aStored, aState := 2 } }
    else s
  | none => s

/-! ## The lengthsman (R449, R455, R456) -/

/-- The TJ_HISTORY bin of a temperature in 1/16 °C (R459). -/
def tjBin (t : Int) : Nat := if t < -640 then 0 else if 2880 ≤ t then 23 else (1 + (t + 640) / 160).toNat

/-- LIFE_USED (R455). -/
def State.lifeUsed (s : State) : Nat := s.trim.life / 2 ^ 32

/-- Tj of a second: the mean of the hottest die sensor over it, in 1/16 °C, half upwards; the last reading where none was taken
(R455; log entry 120). -/
def State.secondTj (s : State) : Int := if s.trim.secN = 0 then s.weir.tjHottest else divRound s.trim.secSum s.trim.secN

/-- LENGTHSMAN_SECOND (R449, R455–R457). -/
def execLengthsmanSecond (s : State) : Host.Outcome State Fault Refusal :=
  finish s (
    if s.alive = false then s
    else
      let s := s.goTo s.trim.nextSecond
      let tj := s.secondTj
      let old := s.lifeUsed
      let t := s.trim
      let b := tjBin tj
      let t := { t with
        life := t.life + Config.lifeStep tj, seconds := t.seconds + 1, hist := modAt t.hist b (· + 1)
        tjMax := some (match t.tjMax with | some m => max m tj | none => tj)
        secSum := 0, secN := 0, nextSecond := t.nextSecond + 1000000000 }
      let s := { s with trim := t }
      let s := if old / 100000 < s.lifeUsed / 100000 then s.raise 0x8402 (natBE 4 (s.lifeUsed / 100000)) else s
      let s := if 900000 < s.lifeUsed then { s with trim := { s.trim with lifeCause := true } } else s
      let moved := decide ((s.reg Od.trimTDelta * 16 : Nat) < (s.weir.tjHottest - s.trim.lastTj).natAbs)
      (if moved ∧ s.domOn 1 then s.startTrim else s).replaceCheck)

/-- The ledgers go to eNVM (R455). -/
def State.saveLedgers (s : State) : State :=
  let t := s.trim
  { s with trim := { t with lifeSaved := t.life, secondsSaved := t.seconds, histSaved := t.hist, tjMaxSaved := t.tjMax } }.envmWrite

/-- LIFE_LEDGER_WRITE (R455): every 600 s. -/
def execLifeLedgerWrite (s : State) : Host.Outcome State Fault Refusal :=
  finish s (
    if s.alive = false then s
    else
      let s := (s.goTo s.trim.nextLedger).saveLedgers
      { s with trim := { s.trim with nextLedger := s.trim.nextLedger + 600000000000 } })

/-- DDR_CE_STEP (R456): corrected errors of the last 60 s, none while the basin is off; DDR_CE_HOUR is the sum over 3,600 s. The ledger is
AO's and counts on in mooring. -/
def execDdrCeStep (corrected : Nat) (s : State) : Host.Outcome State Fault Refusal :=
  finish s (
    if s.alive = false then s
    else
      let s := s.goTo s.trim.nextDdr
      let l := pushLast 60 s.trim.ddr (if s.domOn 4 then corrected else 0)
      let sum := l.foldl (· + ·) 0
      let s := { s with trim := { s.trim with ddr := l, nextDdr := s.trim.nextDdr + 60000000000
                                              ddrCause := s.trim.ddrCause || decide (s.reg Od.ddrCeLimit < sum) } }
      (s.setReg Od.ddrCeHour (min sum (2 ^ 32 - 1))).replaceCheck)

/-! ## Readings (R454, R459) -/

def State.trimTStatus (s : State) : Bytes :=
  natBE 10 (timeOfNs s.trim.lastTime) ++ natBE 2 (ofS 16 s.trim.lastTj) ++ natBE 4 (s.trim.runs - s.trim.runsBase) ++
    natBE 1 (b2n (s.trim.waiting.isSome || s.trim.running))

def State.trimTTaps (s : State) : Bytes :=
  (List.range 160).flatMap fun p =>
    match kvGet p s.trim.taps with
    | some (t, r) => natBE 1 p ++ natBE 1 t ++ natBE 4 (ofS 32 r) ++ natBE 1 (b2n (t == 0 || t == 127))
    | none => natBE 1 p ++ natBE 6 0

def State.capacity (s : State) (pxBudget : Nat) : Bytes :=
  natBE 1 ((s.lk.cells.filter (fun c => c.state == 0)).length) ++ natBE 4 pxBudget ++
    (List.range 20).flatMap (fun i => natBE 1 ((List.range 8).foldl (fun a b => a + 2 ^ b * b2n (s.trim.endT.contains (8 * i + b))) 0)) ++
    natBE 1 (([0, 1, 2, 3] : List Nat).foldl (fun a b => a + 2 ^ b * b2n (s.trim.endA.contains b)) 0) ++ natBE 1 (min s.trim.sramLost 255)

/-- SRAM_REPAIR: 64 records; the spare rows of a macro that no test has reported are the silicon's (log entry 121). -/
def State.sramRepair (s : State) : Bytes :=
  (List.range 64).flatMap fun i =>
    let r := s.trim.sramRepair.getD i (i, 0, Config.spareRows i)
    natBE 1 r.1 ++ natBE 1 r.2.1 ++ natBE 1 r.2.2

/-- TRIM_A_RECORD: of the wafer test until the first run is stored (R452, R454; log entry 121). -/
def State.trimARecordRead (s : State) : Bytes :=
  if s.trim.aStored.isEmpty then
    let f (i : Nat) : Nat := Config.waferField i
    natBE 10 (f 30) ++ natBE 16 (f 31) ++ natBE 4 (f 32) ++ natBE 2 (f 33) ++ natBE 2 (f 34) ++ natBE 4 s.trim.aGen ++
      ([0, 1, 2, 3] : List Nat).flatMap fun c =>
        natBE 1 (segmentMasks.getD (f (5 * c) % 70) 0) ++ natBE 1 (f (5 * c + 1) % 2) ++ natBE 2 (f (5 * c + 2)) ++ natBE 2 (f (5 * c + 3)) ++ natBE 1 (f (5 * c + 4) % 2)
  else s.trim.aStored

def State.tjHistory (s : State) : Bytes := s.trim.hist.flatMap (natBE 8)

end Sys2Proof.Machine
end

