-- ==== Sys2Proof/Machine/Lock.lean ====
section
/-!
DEFINITION. The lock-keeper (spec/10): barges, ready lists, counters, flights, delay lists, cells and the graph release.
-/
namespace Sys2Proof.Machine

/-! ## The fields of a barge (R240) -/

def bNum (b : Bytes) : Nat := beNat b
def bType (b : Bytes) : Nat := bits (bNum b) 255 248
def bFlight (b : Bytes) : Nat := bits (bNum b) 247 236
def bSeq (b : Bytes) : Nat := bits (bNum b) 235 216
def bWait (b : Bytes) : Nat := bits (bNum b) 215 200
def bDone0 (b : Bytes) : Nat := bits (bNum b) 199 184
def bDone1 (b : Bytes) : Nat := bits (bNum b) 183 168
def bPrio (b : Bytes) : Nat := bits (bNum b) 167 165
def bClass (b : Bytes) : Nat := bits (bNum b) 164 163
def bEnergy (b : Bytes) : Nat := bits (bNum b) 162 147
def bDeadline (b : Bytes) : Nat := bits (bNum b) 146 131
def bPointer (b : Bytes) : Nat := bits (bNum b) 127 80
def bKind (b : Bytes) : Nat := bits (bNum b) 79 78
def bUnit (b : Bytes) : Nat := bits (bNum b) 77 64
def bArg (b : Bytes) : Nat := bits (bNum b) 63 0
def bFeed (b : Bytes) : Nat := bits (bNum b) 63 52

/-- A barge's 32 bytes (R240). -/
def bargeBytes (ty flight seq wait done0 prio energy deadline ptr kind unit arg : Nat) : Bytes :=
  natBE 32 (ty * 2 ^ 248 + flight * 2 ^ 236 + seq * 2 ^ 216 + wait * 2 ^ 200 + done0 * 2 ^ 184 + prio * 2 ^ 165 + energy * 2 ^ 147 +
    deadline * 2 ^ 131 + ptr * 2 ^ 80 + kind * 2 ^ 78 + unit * 2 ^ 64 + arg)

/-- TYPE is defined (R241). -/
def typeDefined (t : Nat) : Bool := (decide (1 ≤ t) && decide (t ≤ 5)) || (decide (0x10 ≤ t) && decide (t ≤ 0x7F))

/-! ## The store -/

def State.setLk (s : State) (l : LockState) : State := { s with lk := l }

def State.barge? (s : State) (id : Nat) : Option Barge := s.lk.barges.find? fun b => b.id == id

def State.setBarge (s : State) (b : Barge) : State :=
  s.setLk { s.lk with barges := s.lk.barges.map fun c => if c.id = b.id then b else c }

/-- A barge leaves the store. -/
def State.dropBarge (s : State) (id : Nat) : State :=
  s.setLk { s.lk with barges := s.lk.barges.filter fun b => b.id != id, ready := s.lk.ready.map (·.filter (· != id)) }

/-- A barge enters its ready list, at the tail or the head (R246, R248). -/
def State.makeReady (s : State) (id : Nat) (head : Bool := false) : State :=
  match s.barge? id with
  | none => s
  | some b =>
    let p := bPrio b.bytes
    let s := s.setBarge { b with place := 0, readyAt := s.now }
    let l := s.lk.ready.getD p []
    let l := if head then id :: l else l ++ [id]
    s.setLk { s.lk with ready := setAt s.lk.ready p l, readyMax := modAt s.lk.readyMax p (max l.length) }

/-! ## Counters (R247–R249) -/

def State.counter (s : State) (c : Nat) : Counter := kvGetD c {} s.lk.counters
def State.setCounter (s : State) (c : Nat) (x : Counter) : State := s.setLk { s.lk with counters := kvSet c x s.lk.counters }

/-- Release the barges parked on a counter, in order (R248). -/
def State.releaseParked (s : State) (c : Nat) : State :=
  let ids := (s.counter c).parked
  ids.foldl (fun s id => s.makeReady id) (s.setCounter c { s.counter c with parked := [] })

/-- DEC (R248, R249). -/
def State.decCounter (s : State) (c : Nat) : State :=
  let x := s.counter c
  if c = 0 ∨ x.forced then s
  else if x.value = 0 then (s.count Od.ctrUnderflow).raise 0x4001 (natBE 2 c)
  else
    let s := s.setCounter c { x with value := x.value - 1 }
    if x.value = 1 then s.releaseParked c else s

/-- ARM (R248). -/
def State.armCounter (s : State) (c n : Nat) : State :=
  if c = 0 then s
  else
    let s := s.setCounter c { s.counter c with value := n, forced := false }
    if n = 0 then s.releaseParked c else s

/-- The frame and feed a tally counter belongs to, in the graph that armed its bank last. -/
def State.feedOfCounter (s : State) (c : Nat) : Option (Nat × Nat) :=
  s.lk.graphs.reverse.findSome? fun g => (g.2.feedCtr.find? fun f => f.2.1 == c).map fun f => (g.1, f.1)

/-- FORCE (R248): the weir job's late units are forced to hold (R224). The second result counts them and names their frame. -/
def State.forceCounter (s : State) (c : Nat) : State × Nat × Nat :=
  if c = 0 then (s, 0, 0)
  else
    let x := s.counter c
    let (s, n) : State × Nat × Nat := match s.feedOfCounter c with
      | some (k, feed) =>
        match s.frame? k with
        | some f =>
          let late := if x.value = 0 then [] else
            ((feedUnits f.cfg feed).map UnitDef.unit).filter fun u => (kvGet u f.tally).isNone && !f.forced.contains u
          ((s.setFrame { f with forced := f.forced ++ late }).count Od.tallyLate late.length, late.length, k)
        | none => (s, 0, 0)
      | none => (s, 0, 0)
    ((s.setCounter c { s.counter c with value := 0, forced := true }).releaseParked c, n)

/-! ## Flights (R250–R253) -/

def State.flight (s : State) (f : Nat) : Flight := kvGetD f {} s.lk.flights
def State.setFlight (s : State) (f : Nat) (x : Flight) : State := s.setLk { s.lk with flights := kvSet f x s.lk.flights }

/-- d of R251. -/
def seqAhead (seq next : Nat) : Nat := (seq + 2 ^ 20 - next) % 2 ^ 20

/-- Parked barges of a flight whose d has come below 256 re-enter their lists (R251). -/
def State.unparkFlight (s : State) (f : Nat) : State :=
  let x := s.flight f
  let go (id : Nat) : Bool := match s.barge? id with | some b => decide (seqAhead (bSeq b.bytes) x.next < 256) | none => false
  (x.parked.filter go).foldl (fun s id => s.makeReady id) (s.setFlight f { x with parked := x.parked.filter fun id => !go id })

/-- Write entries in order while credit lasts: the state, and what is left (R252, R265). -/
def State.writeEntries (s : State) (p slot prio : Nat) : List Bytes → State × List Bytes
  | [] => (s, [])
  | e :: t =>
    if 0 < (s.pound p).credits.getD slot 0 then (s.writePound p slot prio e).1.writeEntries p slot prio t else (s, e :: t)

/-- Release a flight: completed yields at NEXT go into the target pound in order (R252). -/
def State.releaseFlight (f : Nat) : Nat → State → State
  | 0, s => s
  | fuel + 1, s =>
    let x := s.flight f
    match x.yields.find? fun y => y.1 == x.next with
    | none => s
    | some y =>
      let (s, rest) := s.writeEntries x.target 0 0 y.2
      let x := s.flight f
      let again := x.waiting && rest.length == y.2.length
      if rest.isEmpty then
        let s := s.setFlight f { x with next := (x.next + 1) % 2 ^ 20, yields := x.yields.filter (fun z => z.1 != y.1), waiting := false }
        State.releaseFlight f fuel (s.unparkFlight f)
      else
        let s := if again then s else s.count Od.creditWaits
        s.setFlight f { x with yields := x.yields.map fun z => if z.1 = y.1 then (z.1, rest) else z, waiting := true }

def State.runFlight (s : State) (f : Nat) : State := State.releaseFlight f 257 s

/-- A frame's SEQ range of a flight is given up (R253). -/
def State.giveUp (s : State) (f first len : Nat) : State :=
  let x := s.flight f
  let end_ := (first + len) % 2 ^ 20
  let mine (q : Nat) : Bool := decide (seqAhead q first < len)
  let late := x.yields.filter fun y => mine y.1
  if seqAhead end_ x.next < 2 ^ 19 then
    let s := s.setFlight f { x with next := end_, yields := x.yields.filter (fun y => !mine y.1), waiting := false
                                    givenUp := pushLast 16 x.givenUp (first, len) }
    ((s.count Od.lateYields late.length).unparkFlight f).runFlight f
  else s

/-! ## Completion (R245) -/

/-- Steps 2 and 3 of R245. -/
def State.decDone (s : State) (c0 c1 : Nat) : State := (s.decCounter c0).decCounter c1

/-- A barge completes with its yield: into its flight, or straight into the target pound, or held until credit returns
(R245). Direct yields use producer slot 1 (log entry 47). -/
def State.completeBarge (s : State) (b : Barge) (target : Nat) (entries : List Bytes) : State :=
  let f := bFlight b.bytes
  let q := bSeq b.bytes
  let c0 := bDone0 b.bytes
  let c1 := bDone1 b.bytes
  if f ≠ 0 then
    let x := s.flight f
    let s := s.setFlight f { x with inFlight := x.inFlight - 1 }
    if 2 ^ 19 ≤ seqAhead q x.next then (s.count Od.staleCompletions).decDone c0 c1
    else
      let x := s.flight f
      ((s.setFlight f { x with yields := x.yields ++ [(q, entries)] }).runFlight f).decDone c0 c1
  else
    let (s, rest) := s.writeEntries target 1 (bPrio b.bytes) entries
    if rest.isEmpty then s.decDone c0 c1
    else s.setLk { s.lk with held := s.lk.held ++ [{ entries := rest, target := target, prio := bPrio b.bytes, ctr0 := c0, ctr1 := c1, frame := b.frame }] }

/-! ## Submission (R242) -/

/-- Refuse a barge with a reason (R242). -/
def State.refuseBarge (s : State) (reason : Nat) (b : Bytes) : State :=
  (s.count Od.badBarges).raise 0x4002 (natBE 1 reason ++ natBE 1 (bType b) ++ natBE 2 (bFlight b))

/-- The first free place of the barge store from one on, in turn (R242; log entry 123). -/
def State.freePlace (s : State) : Nat → Nat → Nat
  | 0, i => i
  | fuel + 1, i => if (s.barge? i).isSome then State.freePlace s fuel ((i + 1) % 131072) else i

/-- A barge enters the store, parked or ready (R248). -/
def State.storeBarge (s : State) (b : Bytes) (firmware : Bool) (frame : Nat) : State :=
  let id := s.freePlace (s.lk.barges.length + 1) (s.lk.nextId % 131072)
  let s := s.setLk { s.lk with barges := s.lk.barges ++ [{ id := id, bytes := b, firmware := firmware, frame := frame, place := 1 }], nextId := id + 1 }
  let c := bWait b
  if c ≠ 0 ∧ (s.counter c).value ≠ 0 then s.setCounter c { s.counter c with parked := (s.counter c).parked ++ [id] }
  else s.makeReady id

/-- The unit key a frame barge works on. -/
def Barge.unit (b : Barge) : Nat := unitNamed (bKind b.bytes) (bUnit b.bytes)

/-- The frame a barge works for: that of its graph, or, for one that firmware submitted, the newest released one whose work buffer or
unit list its POINTER names (R241). -/
def State.frameOf (s : State) (b : Barge) : Option Frame :=
  if !b.firmware then s.frame? b.frame
  else s.tl.frames.reverse.find? fun f => f.closed && (kvGet f.k s.lk.graphs).isSome &&
    bPointer b.bytes == (if bType b.bytes = 3 then feedListAddr f.cfg f.k (bFeed b.bytes) else workAddr f.cfg f.k b.unit)

/-- One more slot of a flight is in use (R251, R262). -/
def State.occupy (s : State) (f : Nat) : State :=
  if f = 0 then s
  else
    let y := s.flight f
    s.setFlight f { y with inFlight := y.inFlight + 1, maxOcc := max y.maxOcc (y.inFlight + 1 + y.yields.length) }

/-- A dispatched barge of a flight is gone without a yield. -/
def State.vacate (s : State) (f : Nat) : State := if f = 0 then s else s.setFlight f { s.flight f with inFlight := (s.flight f).inFlight - 1 }

/-- Lists that count as empty under TJ_CRIT (R227, R244). -/
def State.listOpen (s : State) (p : Nat) : Bool := !(s.weir.crit && decide (s.reg Od.critPrio < p))

/-- What the head of a ready list becomes without a cell: a MARK completes, a barge too far ahead of its flight is parked, the
pack of a unit forced to hold is discarded (R244, R251, R260). -/
def State.settleHead (s : State) (p : Nat) : Option State :=
  match s.lk.ready.getD p [] with
  | [] => none
  | id :: _ =>
    match s.barge? id with
    | none => some (s.dropBarge id)
    | some b =>
      let f := bFlight b.bytes
      let forced := bType b.bytes == 4 && (match s.frameOf b with | some fr => fr.forced.contains b.unit | none => false)
      let d := seqAhead (bSeq b.bytes) (s.flight f).next
      if forced then some (s.dropBarge id)
      else if f ≠ 0 ∧ 256 ≤ d ∧ d < 2 ^ 19 then
        let s := (s.setBarge { b with place := 2 }).setLk { s.lk with
          barges := s.lk.barges.map (fun c => if c.id = id then { b with place := 2 } else c)
          ready := s.lk.ready.map (·.filter (· != id)) }
        let x := s.flight f
        some ((s.setFlight f { x with parked := x.parked ++ [id] }).count Od.windowParks)
      else if bType b.bytes = 5 then
        some (((s.dropBarge id).occupy f).completeBarge b 0 [])
      else none

/-- Settle the heads of the lists that may dispatch, highest first, until none changes. -/
def State.settleLists : Nat → State → State
  | 0, s => s
  | fuel + 1, s =>
    match ((List.range 8).filter s.listOpen).findSome? s.settleHead with
    | some s => State.settleLists fuel s
    | none => s

def State.settle (s : State) : State := State.settleLists (s.lk.barges.length + 1) s

/-- A firmware submission (R242). -/
def State.submitFirmware (s : State) (b : Bytes) : State :=
  let t := bType b
  let f := bFlight b
  if typeDefined t = false then s.refuseBarge 1 b
  else if 2 ≤ bClass b ∨ (t ≤ 4 ∧ 2 ≤ bKind b) then s.refuseBarge 2 b
  else if f ≠ 0 ∧ 2 ^ 19 ≤ seqAhead (bSeq b) (s.flight f).next then s.refuseBarge 3 b
  else if 16384 ≤ (s.lk.barges.filter Barge.firmware).length then s.refuseBarge 4 b
  else (s.storeBarge b true 0).settle

/-- ARM by the control processor: counters and their values, in turn (R248). -/
def State.armAll (s : State) (arms : List (Nat × Nat)) : State :=
  arms.foldl (fun (s : State) a => if a.1 < 65536 then s.armCounter a.1 (a.2 % 65536) else s) s

/-- BARGE_SUBMIT (R242): the control processor arms the counters it names (R248; log entry 124) and submits a barge. -/
def execBargeSubmit (dt : Nat) (sub : Submission) (s : State) : Host.Outcome State Fault Refusal :=
  let t := s.advance dt
  finish s (if t.domOn 1 then (t.armAll sub.arms).submitFirmware (padTo 32 sub.bytes) else t)

/-! ## Cells and dispatch (R229, R233, R243, R244) -/

def State.cell (s : State) (c : Nat) : Cell := s.lk.cells.getD c {}
def State.setCell (s : State) (c : Nat) (x : Cell) : State := s.setLk { s.lk with cells := setAt s.lk.cells c x }

/-- A cell exists and can run: powered, in service or a spare, not in reset and without a barge. -/
def State.cellIdle (s : State) (c : Nat) : Bool :=
  decide (c < 136) && s.domOn (cellDomain c) && s.domOn 1 && decide ((s.cell c).state ≤ 1) && !(s.cell c).resetting &&
    (s.cell c).running.isNone

/-- Corrected SRAM errors of a cell: CELL_ECC_CORR counts each (R236). -/
def State.noteEcc (s : State) (cell corrected : Nat) : State :=
  if cell < 136 ∧ s.domOn (cellDomain cell) then s.count Od.cellEccCorr corrected else s

/-- ASK (R243). -/
def execAsk (dt cell corrected : Nat) (s : State) : Host.Outcome State Fault Refusal :=
  let t := (s.advance dt).noteEcc cell corrected
  finish s (
    if t.cellIdle cell ∧ (t.cell cell).asking.isNone then
      let n := t.lk.askOrder
      ((t.setCell cell { t.cell cell with asking := some n }).setLk { t.lk with
        cells := setAt t.lk.cells cell { t.cell cell with asking := some n }, askOrder := n + 1 }).settle
    else t)

/-- The barge may be charged (R229). -/
def State.canCharge (s : State) (b : Bytes) : Bool :=
  let e := bEnergy b
  let a := s.weir.allowance
  let left := s.weir.remaining - e
  (if a < e then s.weir.remaining == a else decide (e ≤ s.weir.remaining)) &&
    (bPrio b == 0 || decide (s.reg Od.p0Reserve * a ≤ left * 32768))

/-- The cell a candidate goes to: the oldest ASK, or under AFFINE the cell that last completed a barge of its flight (R244). -/
def State.cellFor (s : State) (b : Bytes) : Option Nat :=
  let asking := s.weir.mask.filter fun c => (s.cell c).asking.isSome
  let affine := if bClass b = 1 ∧ bFlight b ≠ 0 then asking.find? fun c => (s.flight (bFlight b)).lastCell == some c else none
  match affine with
  | some c => some c
  | none => asking.foldl (fun (a : Option Nat) c => match a with
      | some d => if (s.cell c).asking.getD 0 < (s.cell d).asking.getD 0 then some c else a
      | none => some c) none

/-- Bin of WAIT_HIST for a wait in ns (R262). -/
def waitBin (ns : Nat) : Nat :=
  let us := ns / 1000
  if us < 1 then 0 else if us < 2 then 1 else if us < 4 then 2 else if us < 8 then 3 else if us < 16 then 4
  else if us < 32 then 5 else if us < 64 then 6 else 7

/-- The candidate is charged and given to a cell (R244). -/
def State.give (s : State) (b : Barge) (c : Nat) : State :=
  let p := bPrio b.bytes
  let e := min (bEnergy b.bytes) s.weir.remaining
  let h := 8 * p + waitBin (s.now - b.readyAt)
  let f := bFlight b.bytes
  let x := s.cell c
  let s := s.setBarge { b with place := 3 }
  let s := s.setLk { s.lk with
    ready := s.lk.ready.map (·.filter (· != b.id))
    cells := setAt s.lk.cells c { x with asking := none, running := some b.id, startedAt := s.now }
    waitHist := modAt s.lk.waitHist h fun n => min (n + 1) 0xFFFFFFFF
    spent := s.lk.spent + e }
  ({ s with weir := { s.weir with remaining := s.weir.remaining - e } }).occupy f

/-- Dispatch stops for want of allowance (R229). -/
def State.stallFor (s : State) (p : Nat) : State :=
  if s.lk.stalled then s
  else ((s.setLk { s.lk with stalled := true }).count Od.allowanceStalls).raise 0x7013 (natBE 1 p)

/-- One dispatch (R244). -/
def State.dispatchOne (s : State) : State :=
  match ((List.range 8).filter s.listOpen).find? fun p => !(s.lk.ready.getD p []).isEmpty with
  | none => s
  | some p =>
    match (s.lk.ready.getD p []).head?.bind s.barge? with
    | none => s
    | some b =>
      match s.cellFor b.bytes with
      | none => s
      | some c => if s.canCharge b.bytes then s.give b c else s.stallFor p

/-- BARGE_DISPATCH (R243, R244). -/
def execBargeDispatch (dt : Nat) (s : State) : Host.Outcome State Fault Refusal :=
  let t := s.advance dt
  finish s (if t.domOn 1 then t.settle.dispatchOne.settle else t)

/-! ## Completions -/

/-- The cell's barge of one of the given types, where it runs one. -/
def State.runs (s : State) (c : Nat) (types : Nat → Bool) : Option Barge :=
  match (s.cell c).running.bind s.barge? with
  | some b => if types (bType b.bytes) && s.domOn (cellDomain c) then some b else none
  | none => none

/-- The cell is free from completion on; its barge leaves the store (R245). -/
def State.freeCell (s : State) (c : Nat) (b : Barge) : State :=
  let x := s.cell c
  let f := bFlight b.bytes
  let s := (s.setCell c { x with running := none, busyNs := x.busyNs + (s.now - max x.startedAt s.lk.periodStart) }).dropBarge b.id
  if f = 0 then s else s.setFlight f { s.flight f with lastCell := some c }

/-- A barge of a cell completes: a retired one counts alone (R259), otherwise `work` has its effect and the yield goes out. -/
def State.cellDone (s : State) (c : Nat) (b : Barge) (work : State → State) (target : Nat) (entries : List Bytes) : State :=
  let s := s.freeCell c b
  let f := bFlight b.bytes
  if b.place = 4 then (s.vacate f).count Od.staleCompletions
  else ((work s).completeBarge b target entries).settle

/-- SAMPLE_COMPLETE (R188 steps 1 to 5). -/
def execSampleComplete (dt cell : Nat) (s : State) : Host.Outcome State Fault Refusal :=
  let t := s.advance dt
  finish s (match t.runs cell (· == 1) with
    | none => t
    | some b => t.cellDone cell b (fun s => match s.frameOf b with
        | some f => s.setFrame (f.takeSamples b.unit (sampleValues f b.unit (bArg b.bytes)))
        | none => s) 0 [])

/-- TALLY_COMPLETE (R217, R224): a tally whose weir job was released without it is discarded. -/
def execTallyComplete (dt cell : Nat) (s : State) : Host.Outcome State Fault Refusal :=
  let t := s.advance dt
  finish s (match t.runs cell (· == 2) with
    | none => t
    | some b => t.cellDone cell b (fun s => match s.frameOf b with
        | some f =>
          if f.forced.contains b.unit then s
          else s.setFrame { f with tally := kvSet b.unit (unitTally f s.strs.fixedG b.unit) f.tally }
        | none => s) 0 [])

/-- WEIR_COMPLETE (R221–R223): the scale is published and the pack jobs are released. -/
def execWeirComplete (dt cell : Nat) (s : State) : Host.Outcome State Fault Refusal :=
  let t := s.advance dt
  finish s (match t.runs cell (· == 3) with
    | none => t
    | some b => t.cellDone cell b (fun s => match s.frameOf b with
        | some f => s.weirJob f (bFeed b.bytes)
        | none => s) 0 [])

/-- The output a pack barge of a frame packs into, by its counter (R258). -/
def State.packOut (s : State) (f : Frame) (b : Barge) : Option Out :=
  match kvGet f.k s.lk.graphs with
  | some g => (g.outCtr.find? fun p => p.2 == bDone0 b.bytes).map (·.1)
  | none => none

/-- The pound of an output of a frame: the flight targets from 512 on, by place (log entry 50). -/
def outPound (cfg : Store) (o : Out) : Nat := 512 + ((outputsOf cfg).findIdx fun p => p == o) % 3584

/-- PACK_COMPLETE (R201–R208, R254): one entry goes to the output's pound, its first four bytes the frame number; the rest is
the output engine's (log entry 59). -/
def execPackComplete (dt cell : Nat) (s : State) : Host.Outcome State Fault Refusal :=
  let t := s.advance dt
  finish s (match t.runs cell (· == 4) with
    | none => t
    | some b =>
      match (t.frameOf b).bind fun f => (t.packOut f b).map fun o => (o, f) with
      | some (o, f) =>
        let entry := natBE 4 (frameNo f.k) ++ natBE 28 (Config.packWord b.unit (bArg b.bytes))
        t.cellDone cell b (fun s => s.setFrame (s.packStrip f b.unit o (bits (bArg b.bytes) 47 24) (bits (bArg b.bytes) 23 0)))
          (outPound f.cfg o) [entry]
      | none => t.cellDone cell b id 0 [])

/-- FIRMWARE_BARGE_COMPLETE (R241, R245): the program's yield, at most 16 entries. A firmware flight's target pound is the one
its programs name. -/
def execFirmwareBargeComplete (dt cell target : Nat) (entries : List Bytes) (s : State) : Host.Outcome State Fault Refusal :=
  let t := s.advance dt
  finish s (match t.runs cell (decide <| 0x10 ≤ ·) with
    | none => t
    | some b =>
      let f := bFlight b.bytes
      let t := if 3584 ≤ f then t.setFlight f { t.flight f with target := target } else t
      t.cellDone cell b id target (entries.take 16))

/-- One held yield writes what credit lets it; its counters go down once it is whole (R245). -/
def State.writeHeld (s : State) (h : HeldYield) : State :=
  let (t, left) := s.writeEntries h.target 1 h.prio h.entries
  if left.isEmpty then t.decDone h.ctr0 h.ctr1 else t.setLk { t.lk with held := t.lk.held ++ [{ h with entries := left }] }

/-- YIELD_WRITE (R245): credit has returned; the held yields write on, the oldest first. -/
def execYieldWrite (dt : Nat) (s : State) : Host.Outcome State Fault Refusal :=
  let t := s.advance dt
  finish s (if t.domOn 1 then (t.lk.held.foldl State.writeHeld (t.setLk { t.lk with held := [] })).settle else t)

/-- FLIGHT_RELEASE (R252). -/
def execFlightRelease (dt flight : Nat) (s : State) : Host.Outcome State Fault Refusal :=
  let t := s.advance dt
  finish s (if t.domOn 1 ∧ flight ≠ 0 then ((t.runFlight flight).unparkFlight flight).settle else t)

/-! ## Faults and retirement (R236–R239, R246) -/

def State.inService (s : State) (q : Nat) : Nat := (((s.lk.cells.drop (34 * q)).take 34).filter (fun c => c.state == 0)).length

/-- A cell leaves service for a state (R237): a SPARE takes the place of one in SERVICE at the next step 4. 0x4004 is raised where the
quadrant then has no SPARE left (DEDUCED, log entry 130). -/
def State.retireCell (s : State) (c st : Nat) : State :=
  let q := c / 34
  let s := if (s.cell c).state = 0 then s.setLk { s.lk with vacant := modAt s.lk.vacant q (· + 1) } else s
  let s := s.setCell c { s.cell c with state := st, asking := none, restore := false }
  let s := s.envmWrite
  let s := s.raise 0x4003 (natBE 1 c ++ natBE 1 st ++ natBE 1 (s.sparesIn q))
  let s := if s.sparesIn q = 0 then s.raise 0x4004 (natBE 1 q ++ natBE 1 (s.inService q)) else s
  s.replaceCheck

/-- The faulted cell's barge: retried once, then abandoned (R246); a retired one is gone. -/
def State.faultBarge (s : State) (b : Barge) : State :=
  let f := bFlight b.bytes
  let s := s.vacate f
  if b.place = 4 then s.dropBarge b.id
  else if b.faults = 0 then ((s.setBarge { b with faults := 1 }).makeReady b.id true).count Od.bargeRetries
  else
    ((s.dropBarge b.id).count Od.bargesAbandoned).raise 0x4005 (natBE 1 (bType b.bytes) ++ natBE 2 f ++ natBE 3 (bSeq b.bytes))

/-- A cell faults: cause 0 time limit, 1 SRAM, 2 illegal operation (R236). -/
def State.cellFault (s : State) (c cause : Nat) : State :=
  let x := s.cell c
  let b := x.running.bind s.barge?
  let window := s.reg Od.faultWindow * 1000000000
  let faults := (x.faults.filter fun t => decide (s.now < t + window)) ++ [s.now]
  let s := s.setCell c { x with running := none, asking := none, resetting := true, faults := faults
                                busyNs := x.busyNs + (if x.running.isSome then s.now - max x.startedAt s.lk.periodStart else 0) }
  let s := (s.count Od.cellFaults).raise 0x4007 (natBE 1 c ++ natBE 1 cause)
  let s := match b with | some b => s.faultBarge b | none => s
  let s := if cause = 1 ∨ s.reg Od.faultLimit ≤ faults.length then s.retireCell c 2 else s
  s.settle

/-- BARGE_TIMEOUT (R236): at BARGE_LIMIT after the barge started. -/
def execBargeTimeout (cell : Nat) (s : State) : Host.Outcome State Fault Refusal :=
  finish s (
    if (s.cell cell).running.isSome ∧ s.domOn (cellDomain cell) then
      (s.goTo ((s.cell cell).startedAt + s.reg Od.bargeLimit * 1000)).cellFault cell 0
    else s)

/-- CELL_SRAM_ERROR (R236): an uncorrectable error. -/
def execCellSramError (dt cell : Nat) (s : State) : Host.Outcome State Fault Refusal :=
  let t := s.advance dt
  finish s (if cell < 136 ∧ (t.cell cell).state ≤ 1 ∧ t.domOn (cellDomain cell) then t.cellFault cell 1 else t)

/-- CELL_ILLEGAL_OP (R236). -/
def execCellIllegalOp (dt cell : Nat) (s : State) : Host.Outcome State Fault Refusal :=
  let t := s.advance dt
  finish s (if (t.cell cell).running.isSome ∧ t.domOn (cellDomain cell) then t.cellFault cell 2 else t)

/-- CELL_RESET_DONE (R236). -/
def execCellResetDone (dt cell : Nat) (s : State) : Host.Outcome State Fault Refusal :=
  let t := s.advance dt
  finish s (if (t.cell cell).resetting then t.setCell cell { t.cell cell with resetting := false } else t)

/-- A write of CELL_RETIRE (R239): a retired cell stays as it is. -/
def State.writeCellRetire (s : State) (c : Nat) : Eff :=
  if 135 < c then effNo s stRange
  else if (s.cell c).state ≤ 1 then effOk (s.retireCell c 2)
  else effOk s

/-- A write of CELL_RESTORE: the cell returns at the next start (R239). -/
def State.writeCellRestore (s : State) (c : Nat) : Eff :=
  if 135 < c then effNo s stRange
  else if 2 ≤ (s.cell c).state then effOk (s.setCell c { s.cell c with restore := true })
  else effOk s

/-- Restored cells of every quadrant at a start (R239): up to two return as SERVICE, or as SPARE where 32 serve already; any
further one is a SPARE. A cell that fails the self-test stays out; one of a quadrant without power is not tested yet. -/
def State.restoreCells (s : State) : State :=
  ([0, 1, 2, 3] : List Nat).foldl (fun s q =>
    if s.domOn (5 + q) = false then s
    else
      let asked := ((List.range 34).map fun i => 34 * q + i).filter fun c => (s.cell c).restore
      let (bad, good) := asked.partition fun c => s.pwr.selfTest.cells.contains c
      let s := bad.foldl (fun (s : State) c => s.setCell c { s.cell c with restore := false }) s
      good.zipIdx.foldl (fun s (c, i) =>
        let st := if i < 2 ∧ s.inService q < 32 then 0 else 1
        s.setCell c { s.cell c with state := st, restore := false, faults := [] }) s) s

/-- The start's self-test of one cell: in SERVICE or SPARE and failing, it goes to FAILED_TEST and is replaced (R235, R237). -/
def State.testCell (s : State) (c : Nat) : State :=
  if s.domOn (cellDomain c) ∧ (s.cell c).state ≤ 1 ∧ s.pwr.selfTest.cells.contains c then s.retireCell c 3 else s

/-- Every cell of a powered quadrant is tested before the first frame is computed (R235). -/
def State.testCells (s : State) : State := (List.range 136).foldl State.testCell s

/-- Cells and lock-keeper as they come out of reset: cell states, faults and the places to be filled last, everything else is empty. -/
def State.startLock (s : State) : State :=
  let fresh (c : Cell) : Cell := { state := c.state, faults := c.faults, restore := c.restore }
  s.setLk { cells := s.lk.cells.map fresh, vacant := s.lk.vacant, periodStart := s.now }

/-! ## Step 4 (R227, R228, R237) -/

/-- Spares take the places of cells that left service, the lowest-numbered first (R237). -/
def State.bringSpares (s : State) : State :=
  let fill (s : State) (q : Nat) : State :=
    (List.range (min (s.lk.vacant.getD q 0) 34)).foldl (fun (s : State) _ =>
      match ((List.range 34).map fun i => 34 * q + i).find? fun c => (s.cell c).state == 1 with
      | some c => s.setCell c { s.cell c with state := 0 }
      | none => s) s
  let s := ([0, 1, 2, 3] : List Nat).foldl fill s
  s.setLk { s.lk with vacant := [0, 0, 0, 0] }

/-- The active-cell mask (R228). -/
def State.cellMask (s : State) : List Nat :=
  ([0, 1, 2, 3] : List Nat).flatMap fun q =>
    if s.domOn (5 + q) then
      ((((List.range 34).map fun i => 34 * q + i).filter fun c => (s.cell c).state == 0)).take (s.reg Od.cellLimit)
    else []

/-- A (R228), with T the exact period of R25. -/
def allowanceOf (limit rate : Nat) : Nat := limit * (rateOf rate).2 * 10000 / (rateOf rate).1

/-- Step 4: spares, allowance and mask (R228, R237). -/
def State.publishAllowance (s : State) : State :=
  let s := s.bringSpares
  let a := allowanceOf (s.reg Od.cellPowerLimit) s.tl.rate
  let s := { s with weir := { s.weir with allowance := a, remaining := a, mask := s.cellMask } }
  ((s.setLk { s.lk with spent := 0, stalled := false }).setReg Od.allowance a).setReg Od.activeCells s.cellMask.length

/-! ## The graph release (R259) -/

/-- Step 1: barges whose DEADLINE is this tick are retired, and the flights of their frames advance. -/
def State.retireBarges (s : State) (k : Nat) : State :=
  let due (b : Barge) : Bool := decide (bType b.bytes ≤ 5) && bDeadline b.bytes == k % 65536
  let stopped := s.lk.barges.filter fun b => due b && b.place != 3 && b.place != 4
  let gone (id : Nat) : Bool := stopped.any fun b => b.id == id
  let run (b : Barge) : Barge := if due b && b.place == 3 then { b with place := 4 } else b
  let frames := ((s.lk.barges.filter fun b => due b && !b.firmware).map Barge.frame).eraseDups
  let s := s.setLk { s.lk with
    barges := (s.lk.barges.filter fun b => !gone b.id).map run
    ready := s.lk.ready.map fun l => l.filter fun id => !gone id
    counters := s.lk.counters.map fun c => (c.1, { c.2 with parked := c.2.parked.filter fun id => !gone id })
    flights := s.lk.flights.map fun f => (f.1, { f.2 with parked := f.2.parked.filter fun id => !gone id }) }
  let s := s.count Od.deadlineDrops stopped.length
  frames.foldl (fun s k => match kvGet k s.lk.graphs with
    | some g => g.seqs.foldl (fun s q => match g.flight.find? (fun f => f.1 == q.1) with
        | some f => s.giveUp f.2 q.2.1 q.2.2
        | none => s) s
    | none => s) s

/-- First counter of the bank of a frame (R247). -/
def bankBase (k : Nat) : Nat := if k % 2 = 0 then 4096 else 34816

/-- Weir deadline of a feed (R224): the earliest L_o − LAUNCH_GUARD over its outputs, less WEIR_LEAD. -/
def State.weirDeadline (s : State) (f : Frame) (feed present : Nat) : Nat :=
  let outs := (feedUnits f.cfg feed).flatMap UnitDef.outs
  let ls := (f.outs.filter fun o => outs.contains o.out).map fun o => ((present : Int) - o.lam).toNat - s.reg Od.launchGuard * 1000
  ls.foldl min (ls.headD present) - s.reg Od.weirLead * 1000

/-- Insert into a delay list; a full list refuses, and the event comes at most once per tick (R257). -/
def State.insertDelay (s : State) (list : Nat) (e : Bytes) : State :=
  let l := s.lk.delays.getD list []
  let n := s.lk.nextDelay
  if 4096 ≤ l.length then (s.count Od.delayFull).raiseOnce 0x4006 0 (natBE 1 list)
  else s.setLk { s.lk with delays := setAt s.lk.delays list (l ++ [(n, putAt (padTo 16 e) 9 [0#8])]), nextDelay := n + 1 }

/-- The lowest-numbered list DELAY_MODE keys by TIME64 (R258). -/
def State.timeList (s : State) : Option Nat := ([0, 1, 2, 3] : List Nat).find? fun i => u8 (s.regTab Od.delayMode) i == 0

/-- Steps 1 to 4 of the release of frame `f`'s graph at tick `k`, its outputs presented at `present` (R259). Counters of the bank that the
graph does not use are armed with 0, so that what is parked on them goes on. -/
def State.releaseGraph (s : State) (f : Frame) (k present : Nat) : State :=
  let s := s.retireBarges k
  let g := graphOf f.cfg
  let base := bankBase f.k
  let c (i : Nat) : Nat := if i = 0 then 0 else base + i - 1
  let outs := (unitsOf f.cfg).flatMap UnitDef.outs |>.eraseDups
  let flightOf (i : Nat) : Nat := 1 + (g.flights.findIdx fun p => some p.1 == outs[i]?)
  let unused := (s.lk.counters.map (·.1)).filter fun x => decide (base + g.arm.length ≤ x) && decide (x < base + 30720)
  let s := unused.foldl (fun (s : State) x => s.armCounter x 0) s
  let s := g.arm.zipIdx.foldl (fun s (n, i) => s.armCounter (base + i) n) s
  let s := g.flights.zipIdx.foldl (fun s (p, i) => s.setFlight (i + 1) { s.flight (i + 1) with target := outPound f.cfg p.1 }) s
  let starts := g.flights.zipIdx.map fun (p, i) => (p.1, (s.flight (i + 1)).next, p.2)
  let startOf (i : Nat) : Nat := ((starts.find? fun q => some q.1 == outs[i]?).map (·.2.1)).getD 0
  let bytes (b : GBarge) : Bytes :=
    let fl := if b.flight = 0 then 0 else flightOf (b.flight - 1)
    let q := if b.flight = 0 then 0 else (startOf (b.flight - 1) + b.seq) % 2 ^ 20
    let ptr := if b.ty = 3 then feedListAddr f.cfg f.k (b.arg / 2 ^ 52) else workAddr f.cfg f.k b.unit
    bargeBytes b.ty fl q (c b.wait) (c b.done) b.prio b.energy ((k + 1) % 65536) ptr (bargeUnit b.unit).1 (bargeUnit b.unit).2 b.arg
  let m : GraphMap :=
    { unitCtr := g.unitCtr.map fun (p : Nat × Nat) => (p.1, c p.2)
      feedCtr := g.feedCtr.map fun (p : Nat × Nat × Nat) => (p.1, c p.2.1, c p.2.2)
      outCtr := g.outCtr.map fun (p : Out × Nat) => (p.1, c p.2)
      flight := g.flights.zipIdx.map fun (p, i) => (p.1, i + 1)
      seqs := starts, barges := g.barges.length, counters := g.arm.length, delays := g.feedCtr.length }
  let s := s.setLk { s.lk with graphs := kvSet f.k m (s.lk.graphs.filter fun x => (s.frame? x.1).isSome || decide (f.k ≤ x.1 + 2 ∧ x.1 ≤ f.k + 2)) }
  let s := g.barges.foldl (fun s b => s.storeBarge (bytes b) false f.k) s
  let s := match s.timeList with
    | none => s
    | some l => m.feedCtr.foldl (fun (s : State) (p : Nat × Nat × Nat) =>
        let step := s.reg Od.delayTick * 1000
        let key := s.weirDeadline f p.1 present / step * step
        s.insertDelay l (natBE 8 key ++ natBE 1 2 ++ natBE 1 0 ++ natBE 2 p.2.1 ++ natBE 4 0)) s
  s.settle

/-! ## Delay lists (R255–R257) -/

/-- One entry acts (R255): the state, and the units it forced to hold with their frame. -/
def State.actDelay (s : State) (e : Bytes) : State × Nat × Nat :=
  match u8 e 8 with
  | 0 =>
    let id := u32 e 12
    match s.barge? id with
    | some b =>
      if b.place = 1 ∨ b.place = 2 then
        let unpark (l : List (Nat × Counter)) : List (Nat × Counter) := l.map fun c => (c.1, { c.2 with parked := c.2.parked.filter (· != id) })
        let leave (l : List (Nat × Flight)) : List (Nat × Flight) := l.map fun x => (x.1, { x.2 with parked := x.2.parked.filter (· != id) })
        ((s.setLk { s.lk with counters := unpark s.lk.counters, flights := leave s.lk.flights }).makeReady id, 0, 0)
      else (s, 0, 0)
    | none => (s, 0, 0)
  | 1 => (s.decCounter (u16 e 10), 0, 0)
  | 2 => s.forceCounter (u16 e 10)
  | _ => (s.setLk { s.lk with signals := s.lk.signals ++ [u32 e 12] }, 0, 0)

/-- Entries act in order of insertion; units they force to hold are reported once a tick (R224, R256). -/
def State.actAll (s : State) (es : List Bytes) : State :=
  let (s, n, k) := es.foldl (fun (a : State × Nat × Nat) e =>
    let (s, m, k) := a.1.actDelay e
    (s, a.2.1 + m, if m = 0 then a.2.2 else k)) (s, 0, 0)
  let s := if n = 0 then s else s.raiseOnce 0x7002 0 (natBE 2 n ++ natBE 4 (frameNo k))
  s.settle

/-- Is the list keyed by frame number? -/
def State.listByFrame (s : State) (l : Nat) : Bool := u8 (s.regTab Od.delayMode) l != 0

/-- The entries of the lists `mine` that are due act together, in the order of insertion over those lists (R256). -/
def State.actDue (s : State) (mine : Nat → Bool) (due : Bytes → Bool) : State :=
  let acts := (s.lk.delays.zipIdx.filter fun l => mine l.2).flatMap fun l => l.1.filter fun e => due e.2
  let left (l : List (Nat × Bytes) × Nat) : List (Nat × Bytes) := if mine l.2 then l.1.filter fun e => !due e.2 else l.1
  (s.setLk { s.lk with delays := s.lk.delays.zipIdx.map left }).actAll
    ((sortBy (fun (a b : Nat × Bytes) => decide (a.1 ≤ b.1)) acts).map (·.2))

/-- Frame-keyed entries due at tick `k` act after the release (R256); a later key waits (R27). -/
def State.actFrameLists (s : State) (k : Nat) : State :=
  s.actDue s.listByFrame fun e => !frameLater (u32 e 4) (frameNo k)

/-- DELAY_ENTRY_ACT (R256): the delay tick at which the earliest entry of a TIME64 list is due; every entry of a TIME64 list that is due
at that instant acts with it. -/
def execDelayEntryAct (list : Nat) (s : State) : Host.Outcome State Fault Refusal :=
  finish s (
    let es := s.lk.delays.getD list []
    if s.domOn 1 = false ∨ s.listByFrame list ∨ es.isEmpty then s
    else
      let step := s.reg Od.delayTick * 1000
      let first := es.foldl (fun a e => min a (u64 e.2 0)) (u64 (es.headD (0, [])).2 0)
      let s := s.goTo (ceilDiv (max first s.now) step * step)
      s.actDue (fun l => !s.listByFrame l) fun e => decide (u64 e 0 ≤ s.now))

/-- DELAY_INSERT (R257): the control processor inserts an entry. -/
def execDelayInsert (dt list : Nat) (entry : Bytes) (s : State) : Host.Outcome State Fault Refusal :=
  let t := s.advance dt
  finish s (if t.domOn 1 ∧ list < 4 then t.insertDelay list entry else t)

/-! ## Hold decisions of the lock-keeper (R254, R260) -/

/-- The output is complete: its counter stands at 0 and every yield of the frame is in its pound (R260). The one pack barge of an output
without a flight has yielded once the output holds its data. -/
def State.outComplete (s : State) (f : Frame) (o : Out) : Bool :=
  match kvGet f.k s.lk.graphs with
  | none => false
  | some g =>
    (match g.outCtr.find? fun p => p.1 == o with
      | none => true
      | some p =>
        (s.counter p.2).value == 0 &&
          (match g.flight.find? (fun p => p.1 == o), g.seqs.find? (fun p => p.1 == o) with
            | some p, some q => decide (q.2.2 ≤ seqAhead (s.flight p.2).next q.2.1) && decide (seqAhead (s.flight p.2).next q.2.1 < 2 ^ 19)
            | _, _ => f.packed.any fun p => p.1 == o)) &&
    (s.lk.held.all fun h => !(h.frame == f.k && h.target == outPound f.cfg o))

/-- Read the entries of frame `k` and of earlier frames from an output's pound (R254): `discard` counts each. -/
def State.readOutput (p k : Nat) (launch : Bool) : Nat → State → State
  | 0, s => s
  | fuel + 1, s =>
    match headOf (s.pound p).entries with
    | none => s
    | some i =>
      match (s.pound p).entries[i]? with
      | none => s
      | some e =>
        let n := u32 e.data 0
        if frameLater n (frameNo k) then s
        else
          let s := (s.readPound p).1
          let s := if launch ∧ n = frameNo k then s else s.count Od.staleEntries
          State.readOutput p k launch fuel s

/-- The pound of an output is read once it is decided; a held output's flight is given up first (R253, R254, R260). -/
def State.settleOutput (s : State) (f : Frame) (o : Out) (launch : Bool) : State :=
  let s := if launch then s else
    let s := match kvGet f.k s.lk.graphs with
      | some g =>
        match g.flight.find? (fun (p : Out × Nat) => p.1 == o), g.seqs.find? (fun (p : Out × Nat × Nat) => p.1 == o) with
        | some p, some q => s.giveUp p.2 q.2.1 q.2.2
        | _, _ => s
      | none => s
    let mine (h : HeldYield) : Bool := h.frame == f.k && h.target == outPound f.cfg o
    let n := (s.lk.held.filter mine).length
    (s.setLk { s.lk with held := s.lk.held.filter fun h => !mine h }).count Od.lateYields n
  State.readOutput (outPound f.cfg o) f.k launch ((s.pound (outPound f.cfg o)).entries.length + 1) s

/-! ## Readings (R262) -/

/-- Statistics of the period that ends at a step 5 (R262). -/
def State.closePeriod (s : State) : State :=
  let len := max (s.now - s.lk.periodStart) 1
  let fix (x : Cell) : Cell :=
    let busy := x.busyNs + (if x.running.isSome then s.now - max x.startedAt s.lk.periodStart else 0)
    { x with lastBusy := min ((2 * busy * 65536 + len) / (2 * len)) 65535, busyNs := 0 }
  s.setLk { s.lk with
    cells := s.lk.cells.map fix, periodStart := s.now
    readyMax := s.lk.ready.map List.length
    readyLast := s.lk.readyMax
    flights := s.lk.flights.map fun (f : Nat × Flight) =>
      (f.1, { f.2 with maxOcc := f.2.inFlight + f.2.yields.length, lastMax := f.2.maxOcc }) }

def State.cellStates (s : State) : Bytes := s.lk.cells.flatMap fun c => natBE 1 c.state
def State.cellsInService (s : State) : Bytes := ([0, 1, 2, 3] : List Nat).flatMap fun q => natBE 1 (s.inService q)
def State.sparesLeft (s : State) : Bytes := ([0, 1, 2, 3] : List Nat).flatMap fun q => natBE 1 (s.sparesIn q)
def State.cellBusy (s : State) : Bytes := s.lk.cells.flatMap fun c => natBE 2 c.lastBusy
def State.delayLevel (s : State) : Bytes := s.lk.delays.flatMap fun (l : List (Nat × Bytes)) => natBE 2 l.length
def State.readyDepth (s : State) : Bytes := (s.lk.ready.zip s.lk.readyLast).flatMap fun (p : List Nat × Nat) => natBE 4 p.1.length ++ natBE 4 p.2
def State.waitHistogram (s : State) : Bytes := s.lk.waitHist.flatMap (natBE 4)
def State.flightOcc (s : State) : Bytes :=
  (List.range 4096).flatMap fun f => let x := s.flight f; natBE 2 (x.inFlight + x.yields.length) ++ natBE 2 x.lastMax
/-- The settings newly bound: those of the newest fixed frame with every waiting commit on top, in the order of their frames (R34,
R38). -/
def State.boundCfg (s : State) : Store :=
  applyCommits s.tl.newest (inOrder s.tl.waiting)

/-- GRAPH_SIZE (R258): the figures of the bound configuration. -/
def State.graphSize (s : State) : Bytes :=
  let (b, c, f, d) := (graphOf s.boundCfg).size
  natBE 4 b ++ natBE 2 c ++ natBE 2 f ++ natBE 2 d

/-- PX_BUDGET (R238): cells of quadrants that are on count alone (R468). -/
def State.pxBudget (s : State) (b : Nat) : Nat :=
  b * min 128 ((([0, 1, 2, 3] : List Nat).filter fun q => s.domOn (5 + q)).foldl (fun a q => a + s.inService q) 0) / 128

end Sys2Proof.Machine
end

