-- ==== Sys2Proof/Machine/Lamp.lean ====
section
/-!
DEFINITION. Lamp ports (spec/13): claims and pins, pixel chains, DMX512-A and RDM, matrix groups and GPIO.
-/
namespace Sys2Proof.Machine

def State.lp (s : State) (p : Nat) : LampPort := s.lamp.ports.getD p {}
def State.setLp (s : State) (p : Nat) (x : LampPort) : State := { s with lamp := { s.lamp with ports := setAt s.lamp.ports p x } }

/-! ## Modes and claims (R312) -/

def matrixRec (cfg : Store) (k : Nat) : Bytes := cfg.rec1 Od.matrixCfg k
def dmxRec (cfg : Store) (p : Nat) : Bytes := cfg.rec1 Od.dmxCfg p
def chainRec (cfg : Store) (p : Nat) : Bytes := cfg.rec1 Od.chainCfg p

/-- The matrix groups and string controllers that claim a port in a configuration: codes 2 and 3 of PORT_CLAIM (R312). -/
def claimsOf (cfg : Store) (p : Nat) : List Nat :=
  (if u8 (matrixRec cfg (p / 6)) 0 = 1 then [2] else []) ++ (if p < 16 ∧ u8 (stringCfg cfg p) 0 = 1 then [3] else [])

/-- A commit's values enable a claim on a port (R312). -/
def Commit.claims (c : Commit) (p : Nat) : Bool :=
  c.vals.any fun v => (v.1 == Od.matrixCfg.key + p / 6 || (decide (p < 16) && v.1 == Od.stringCfg.key + p)) &&
    (match v.2 with | .tab b => u8 b 0 == 1 | _ => false)

/-- A port is claimed by the settings in force, on the way to being presented or of a waiting commit (R312; log entry 142). -/
def State.claimed (s : State) (p : Nat) : Bool :=
  ([s.tl.newest, s.tl.cur, s.tl.pres].any fun c => !(claimsOf c p).isEmpty) || s.tl.waiting.any fun c => c.claims p

/-- PORT_CLAIM (R338). -/
def State.portClaim (s : State) (p : Nat) : Nat :=
  match claimsOf s.tl.cur p with
  | c :: _ => c
  | [] => b2n (s.reg Od.portEn p == 1 && s.reg Od.portMode p != 0)

/-- A port runs in a mode of its own (R312, R313). -/
def State.lampRuns (s : State) (p mode : Nat) : Bool :=
  s.domOn 10 && s.reg Od.portEn p == 1 && s.reg Od.portMode p == mode

/-! ## Chains (R315–R322) -/

/-- T_BIT, T0H, T1H and T_RESET of a chain record in ns (R315). -/
def chainTimes (r : Bytes) : Nat × Nat × Nat × Nat :=
  match u8 r 24 with
  | 1 => (1250, 300, 750, 280000)
  | 2 => (416, 110, 270, 80000)
  | _ => (u16 r 4, u16 r 6, u16 r 8, u32 r 12)

def chainLeds (r : Bytes) : Nat := u16 r 0
def chainLedBytes (r : Bytes) : Nat := u8 r 2
def chainMarker (r : Bytes) : Bool := bit (u8 r 3) 7
def chainInvert (r : Bytes) : Bool := bit (u8 r 3) 6
def chainResend (r : Bytes) : Bool := bit (u8 r 3) 5

/-- S: the line time of a chain frame (R317). -/
def chainLine (r : Bytes) : Nat := (8 * chainLeds r * chainLedBytes r + 16 * b2n (chainMarker r)) * (chainTimes r).1

/-- d of a chain (R320): the mean of the last 8 OK values of loop − RETURN_ADJ, rounded half up to a whole ns, once 4 OK frames have been
seen. D is unsigned (R339). -/
def LampPort.chainDelay (x : LampPort) (r : Bytes) : Nat :=
  if chainMarker r = false ∨ x.okSeen < 4 ∨ x.loops.isEmpty then u32 r 20
  else (divRound (x.loops.foldl (· + ·) 0) (4 * x.loops.length)).toNat

/-- λ of a chain with the d fixed at the close (R317). -/
def State.chainLambda (s : State) (cfg : Store) (p : Nat) : Nat :=
  let r := chainRec cfg p
  chainLine r + (s.lp p).d + u32 r 16

/-- The bytes of a chain frame (R316). -/
def chainBytes (r : Bytes) (data : List (Nat × Bytes)) : Bytes :=
  (List.range (chainLeds r)).flatMap fun i => padTo (chainLedBytes r) (kvGetD i [] data)

/-- An instant of a waveform, `ns` behind the instant that starts it, on the grid of 1.25 ns: the nearest step (R314). -/
def gridStep (ns : Nat) : Nat := (4 * ns + 2) / 5

/-- Bits of a byte, most significant first. -/
def bitsMsb (b : Byte) : List Bool := ([7, 6, 5, 4, 3, 2, 1, 0] : List Nat).map (bit b.toNat)

/-- The bits of a chain frame in the order they are sent, the marker behind the last LED byte (R316). -/
def chainBits (r b : Bytes) : List Bool := (b ++ (if chainMarker r then natBE 2 0xA5C3 else [])).flatMap bitsMsb

/-- Edges of a chain frame on LPnA (R314, R315): steps behind its start and the level from there. -/
def chainEdges (r b : Bytes) : List (Nat × Bool) :=
  let (tb, t0, t1, _) := chainTimes r
  (chainBits r b).zipIdx.flatMap fun (v, i) =>
    [(gridStep (i * tb), !chainInvert r), (gridStep (i * tb + if v then t1 else t0), chainInvert r)]

/-- Put a frame on the chain's wire (R316, R319), behind the rest that the last one left. -/
def State.sendChain (s : State) (cfg : Store) (p : Nat) (b : Bytes) : State :=
  let r := chainRec cfg p
  let x := s.lp p
  let start := max s.now x.restEnd
  let end_ := start + chainLine r
  let rest := (chainTimes r).2.2.2
  let s := s.setLp p { x with busy := 1, busyEnd := end_, restEnd := end_ + rest, sentRec := r, pins := [b2n (chainInvert r), 2, 2]
                              window := if chainMarker r then some (end_ + x.d + u16 r 10 + rest) else none }
  ({ s with lamp := { s.lamp with lines := { port := p, kind := 1, start := start, rec_ := r, bytes := b } :: s.lamp.lines } }).count
    Od.chainFrames 1 p

/-- The launch of a chain (R316, R337). -/
def State.launchChain (s : State) (cfg : Store) (k p : Nat) (data : List (Nat × Bytes)) : State :=
  let r := chainRec cfg p
  let b := chainBytes r data
  if s.lampRuns p 1 = false ∨ s.gate = false then s
  else if s.now < (s.lp p).openedAt + (chainTimes r).2.2.2 then s.count Od.chainSkips 1 p
  else
    let s := s.setLp p { s.lp p with launched := some (k, b) }
    s.sendChain cfg p b

/-- A held chain with HOLD_RESEND sends the last frame it launched (R322). -/
def State.holdChain (s : State) (cfg : Store) (p : Nat) : State :=
  let r := chainRec cfg p
  match (s.lp p).launched with
  | some (_, b) =>
    if chainResend r ∧ s.lampRuns p 1 ∧ s.gate then
      if s.now < (s.lp p).openedAt + (chainTimes r).2.2.2 then s.count Od.chainSkips 1 p else s.sendChain cfg p b
    else s
  | none => s

/-- The marker's bits (R316). -/
def markerBits : List Bool := (List.range 16).map fun i => bit 0xA5C3 (15 - i)

/-- The result of R319 for returned bits. -/
def chainResult (bs : List Bool) : Nat :=
  if bs = markerBits then 0
  else if bs.isEmpty then 3
  else if bs.length < 16 then 2
  else if bs.drop (bs.length - 16) = markerBits then 1 else 4

/-- CHAIN_RETURN_WINDOW_CLOSE (R319–R321). -/
def execChainReturnWindowClose (port : Nat) (bits : List Bool) (loop : Nat) (s : State) : Host.Outcome State Fault Refusal :=
  finish s (match (s.lp port).window with
    | none => s
    | some at_ =>
      if 48 ≤ port ∨ s.lampRuns port 1 = false then s
      else
        let s := s.goTo at_
        let x := s.lp port
        let r := x.sentRec
        let res := chainResult bits
        let extra := bits.length - 16
        let unit := 8 * chainLedBytes r
        let measured := if res = 0 then chainLeds r
          else if res = 1 then (if extra % unit = 0 then chainLeds r - extra / unit else 0xFFFF) else x.measured
        let ok := res == 0
        let x : LampPort := { x with
          window := none, lastResult := res, measured := measured
          loops := if ok then pushLast 8 x.loops (5 * (loop : Int) - 4 * (u16 r 10 : Int)) else x.loops
          okSeen := if ok then x.okSeen + 1 else x.okSeen
          goodRun := if ok then x.goodRun + 1 else 0
          badRun := if ok then 0 else x.badRun + 1 }
        let s := if ok then s else s.count Od.chainCheckFails 1 port
        if x.fault = false ∧ s.reg Od.chainFail ≤ x.badRun then
          (s.setLp port { x with fault := true }).raise 0x6001 (natBE 1 port ++ natBE 1 res)
        else if x.fault ∧ s.reg Od.chainFail ≤ x.goodRun then
          (s.setLp port { x with fault := false }).raise 0x6002 (natBE 1 port ++ natBE 2 measured)
        else s.setLp port x)

/-- CHAIN_STATUS (R339). -/
def State.chainStatus (s : State) (p : Nat) : Bytes :=
  let x := s.lp p
  natBE 1 (b2n x.fault) ++ natBE 1 x.lastResult ++ natBE 2 x.measured ++ natBE 4 x.d ++ natBE 4 (s.chainLambda s.tl.cur p)

/-- Intake's close fixes d of every chain (R320). -/
def State.closeChains (s : State) (cfg : Store) : State :=
  { s with lamp := { s.lamp with ports := s.lamp.ports.zipIdx.map fun (x, p) => { x with d := x.chainDelay (chainRec cfg p) } } }

/-! ## DMX (R323–R325) -/

def dmxSlots (r : Bytes) : Nat := u16 r 0

/-- Duration of a packet of `n` slots with its MBB, ns (R323). -/
def dmxTime (r : Bytes) (n : Nat) : Nat := u16 r 2 * 1000 + u8 r 4 * 1000 + (n + 1) * 44000 + n * u8 r 5 * 1000 + u16 r 6 * 1000

/-- One slot on the line (R323): a start bit, 8 data bits least significant first, 2 stop bits, 4 µs each. -/
def slotLevels (b : Byte) : List Bool := false :: (bitsMsb b).reverse ++ [true, true]

/-- Edges of a DMX packet or RDM request on LPnA (R314, R323): steps behind the start of its break and the level from there; `mbs` is the
mark between slots, ns. LPnB rises 2 µs before the break. -/
def slotEdges (r : Bytes) (mbs : Nat) (b : Bytes) : List (Nat × Bool) :=
  let first := (u16 r 2 + u8 r 4) * 1000
  [(0, false), (gridStep (u16 r 2 * 1000), true)] ++
    b.zipIdx.flatMap fun (v, i) => (slotLevels v).zipIdx.map fun (l, j) => (gridStep (first + i * (44000 + mbs) + j * 4000), l)

/-- Edges of what a port put on its wire. -/
def LineOut.edges (l : LineOut) : List (Nat × Bool) :=
  if l.kind = 1 then chainEdges l.rec_ l.bytes else slotEdges l.rec_ (if l.kind = 2 then u8 l.rec_ 5 * 1000 else 0) l.bytes

/-- Slots 1 to SLOTS of a frame's data (R208). -/
def slotBytes (n : Nat) (data : List (Nat × Bytes)) : Bytes := (List.range n).flatMap fun i => padTo 1 (kvGetD (i + 1) [] data)

/-- A frame becomes the newest launched frame of a DMX port (R324). -/
def State.launchDmx (s : State) (cfg : Store) (k p : Nat) (data : List (Nat × Bytes)) : State :=
  let x := s.lp p
  let s := if x.launched.isSome ∧ x.carried = false then s.count Od.dmxSkipped 1 p else s
  s.setLp p { s.lp p with launched := some (k, slotBytes (dmxSlots (dmxRec cfg p)) data), carried := false }

/-- DMX_PACKET_START (R323–R325): as soon as the previous packet or transaction has ended. -/
def execDmxPacketStart (port : Nat) (s : State) : Host.Outcome State Fault Refusal :=
  finish s (
    let x := s.lp port
    if 48 ≤ port ∨ s.lampRuns port 2 = false ∨ s.gate = false ∨ x.rdmNow.isSome then s
    else
      let s := if x.busy = 0 then s else s.goTo x.busyEnd
      let r := dmxRec s.tl.pres port
      let n := dmxSlots r
      let slots := match x.launched with | some (_, b) => padTo n b | none => List.replicate n 0#8
      let s := s.setLp port { x with busy := 2, busyEnd := s.now + dmxTime r n, carried := true, packet := slots, sinceRdm := x.sinceRdm + 1
                                     pins := [1, 1, 2] }
      ({ s with lamp := { s.lamp with lines := { port := port, kind := 2, start := s.now, rec_ := r, bytes := 0#8 :: slots } :: s.lamp.lines } }).count
        Od.dmxPackets 1 port)

/-! ## RDM (R326–R328) -/

def rdmTag (b : Bytes) : Nat := u16 b 0
def rdmDest (b : Bytes) : Nat := u48 b 2

/-- Broadcast UIDs of E1.20 (PRESUMED, log entry 20): a device number of all ones. -/
def rdmBroadcast (uid : Nat) : Bool := uid % 2 ^ 32 == 2 ^ 32 - 1

/-- Sum check of E1.20 (PRESUMED, log entry 20). -/
def rdmSum (b : Bytes) : Nat := (b.foldl (fun a x => a + x.toNat) 0) % 65536

/-- The E1.20 packet of a queued record (PRESUMED layout, log entry 20). -/
def rdmPacket (rec_ : Bytes) (n : Nat) : Bytes :=
  let pdl := u8 rec_ 13
  let b := natBE 1 0xCC ++ natBE 1 1 ++ natBE 1 (24 + pdl) ++ slice rec_ 2 6 ++ natBE 6 (Config.rdmOpen 0 0) ++ natBE 1 (Config.rdmOpen 1 n) ++
    natBE 1 (Config.rdmOpen 2 n) ++ natBE 1 0 ++ slice rec_ 11 2 ++ slice rec_ 8 1 ++ slice rec_ 9 2 ++ natBE 1 pdl ++ padTo pdl (rec_.drop 14)
  b ++ natBE 2 (rdmSum b)

/-- A record of RDM_RESULTS, 237 bytes (R328). -/
def rdmResult (tag outcome reason : Nat) (data : Bytes) : Bytes :=
  natBE 2 tag ++ natBE 1 outcome ++ natBE 2 reason ++ natBE 1 data.length ++ padTo 231 data

/-- A request is finished (R328). -/
def State.rdmFinish (s : State) (p : Nat) (rec_ : Bytes) : State :=
  let x := s.lp p
  s.setLp p { x with rdmNow := none, results := pushLast 32 x.results rec_, busyEnd := s.now + 176000, sinceRdm := 0 }

/-- A transaction without a good response: the request is sent again, or finished with an outcome (R326). The second result is
the record of a finished request. -/
def State.rdmFails (s : State) (p outcome : Nat) : State × Option Bytes :=
  let x := s.lp p
  match x.rdmNow with
  | none => (s, none)
  | some q =>
    if q.tries ≤ s.reg Od.rdmRetries then
      (s.setLp p { x with rdmNow := none, rdmQ := q :: x.rdmQ, busyEnd := s.now + 176000, sinceRdm := 0 }, none)
    else
      let rec_ := rdmResult (rdmTag q.bytes) outcome 0 []
      (s.rdmFinish p rec_, some rec_)

/-- A response as it arrives (R326): its checksum and framing hold, it answers the request under way. -/
def rdmGood (b : Bytes) : Bool :=
  decide (26 ≤ b.length) && u8 b 0 == 0xCC && u8 b 1 == 1 && u8 b 2 + 2 == b.length && u8 b 23 + 26 == b.length &&
    u16 b (b.length - 2) == rdmSum (b.take (b.length - 2)) && decide (u8 b 16 ≤ 3)

/-- A response is taken (R326, R328). -/
def State.rdmTakes (s : State) (p : Nat) (b : Bytes) : State × Option Bytes :=
  match (s.lp p).rdmNow with
  | none => (s, none)
  | some q =>
    if rdmGood b then
      let data := slice b 24 (u8 b 23)
      let reason := if u8 b 16 = 1 ∨ u8 b 16 = 2 then u16 data 0 else 0
      let rec_ := rdmResult (rdmTag q.bytes) (u8 b 16) reason data
      (s.rdmFinish p rec_, some rec_)
    else (s.count Od.rdmBad 1 p).rdmFails p 5

/-- RDM_QUEUE (R328): one record joins the queue of 8. -/
def State.writeRdmQueue (s : State) (p : Nat) (v : Bytes) (route : Bool := false) : Eff :=
  let x := s.lp p
  if v.length ≠ 14 + u8 v 13 ∨ 231 < u8 v 13 ∨ ¬(u8 v 8 = 0x20 ∨ u8 v 8 = 0x30) then effNo s stRange
  else if 8 ≤ x.rdmQ.length + b2n x.rdmNow.isSome then effNo s stBusy
  else effOk (s.setLp p { x with rdmQ := x.rdmQ ++ [{ bytes := v, route := route }] })

/-- RDM_DISCOVERY (R327): one full discovery has found `uids`. -/
def execRdmDiscovery (port : Nat) (uids : List Nat) (s : State) : Host.Outcome State Fault Refusal :=
  finish s (
    let x := s.lp port
    let r := dmxRec s.tl.pres port
    if 48 ≤ port ∨ s.lampRuns port 2 = false ∨ s.gate = false ∨ bit (u8 r 12) 0 = false ∨ bit (u8 r 12) 1 = false then s
    else
      let s := s.goTo x.nextDisc
      let uids := uids.eraseDups
      let old := x.uids.map fun (u : Nat × Nat) => if uids.contains u.1 then (u.1, 0) else (u.1, u.2 + 1)
      let lost := old.filter fun u => decide (2 ≤ u.2)
      let stay := old.filter fun u => decide (u.2 < 2)
      let new := uids.filter fun u => !(x.uids.any fun o => o.1 == u)
      let room := 512 - stay.length
      let s := s.setLp port { x with uids := stay ++ (new.take room).map (fun u => (u, 0)), nextDisc := s.now + s.reg Od.rdmDiscPeriod * 1000000000 }
      let s := s.count Od.rdmUidOverflow (new.length - room) port
      let s := (new.take room).foldl (fun s u => s.raise 0x6004 (natBE 1 port ++ natBE 6 u)) s
      lost.foldl (fun s u => s.raise 0x6005 (natBE 1 port ++ natBE 6 u.1)) s)

/-! ## Matrix groups (R329–R335) -/

def State.mg (s : State) (g : Nat) : Matrix := s.lamp.groups.getD g {}
def State.setMg (s : State) (g : Nat) (x : Matrix) : State := { s with lamp := { s.lamp with groups := setAt s.lamp.groups g x } }

def mxScan (r : Bytes) : Nat := u8 r 1
def mxCols (r : Bytes) : Nat := u16 r 2
def mxChannels (r : Bytes) : Nat := u8 r 4
def mxBits (r : Bytes) : Nat := u8 r 5
def mxRefresh (r : Bytes) : Nat := u8 r 6

/-- L: the duration of a load (R330). -/
def mxLoad (r : Bytes) : Nat := mxCols r * u16 r 8 + u16 r 10

/-- D_p and the row time R (R331). -/
def mxOn (r : Bytes) (p : Nat) : Nat := u16 r 12 * 2 ^ p
def mxRow (r : Bytes) : Nat := u16 r 14 + (List.range (mxBits r)).foldl (fun a p => a + max (mxOn r p) (mxLoad r)) 0

def mxSections (r : Bytes) : Nat := 6 / max (mxChannels r) 1
def mxPixels (r : Bytes) : Nat := mxSections r * mxScan r * mxCols r

/-- The codes of a matrix frame by scan-order position (R330). -/
def mxCodes (data : List (Nat × Bytes)) : List (Nat × List Nat) := data.map fun e => (e.1, (records 2 e.2).map fun c => u16 c 0)

/-- A frame is launched: its first load starts (R332). -/
def State.launchMatrix (s : State) (cfg : Store) (g : Nat) (data : List (Nat × Bytes)) : State :=
  s.setMg g { s.mg g with next := some (mxCodes data), nextAt := s.now + mxLoad (matrixRec cfg g) }

/-- Scan m of the tick period that starts at tick k (R332). -/
def scanStart (rate refresh k m : Nat) : Nat := tickTime rate k + m * (tickTime rate (k + 1) - tickTime rate k) / max refresh 1

/-- The first scan from (k, m) on that starts at or after `now`. -/
def firstScan (rate refresh now : Nat) : Nat → Nat → Nat → Nat × Nat
  | 0, k, m => (k, m)
  | fuel + 1, k, m =>
    if now ≤ scanStart rate refresh k m then (k, m)
    else firstScan rate refresh now fuel (if m + 1 < refresh then k else k + 1) (if m + 1 < refresh then m + 1 else 0)

/-- Tick and number of the scan that a group starts next (R332). -/
def State.nextScan (s : State) (g : Nat) : Nat × Nat :=
  let n := mxRefresh (matrixRec s.tl.pres g)
  firstScan s.gridRate n (max s.now (s.mg g).after) (2 * n + 2) (tickFrom s.gridRate s.now - 1) 0

/-- Plane `p` of the LED at a data line, row and column (R330): lines beyond the last section are driven 0. -/
def mxBit (r : Bytes) (shown : Option (List (Nat × List Nat))) (p line row col : Nat) : Bool :=
  let n := (line / max (mxChannels r) 1 * mxScan r + row) * mxCols r + col
  match shown with
  | none => false
  | some l => decide (line < mxSections r * mxChannels r) && bit ((kvGetD n [] l).getD (line % max (mxChannels r) 1) 0) p

/-- The load of plane `p` of a row (R330): the levels of DATA0 to DATA5 at each clock, columns from COLS − 1 down to 0. -/
def mxShift (r : Bytes) (shown : Option (List (Nat × List Nat))) (p row : Nat) : List (List Bool) :=
  (List.range (mxCols r)).map fun j => (List.range 6).map fun line => mxBit r shown p line row (mxCols r - 1 - j)

/-- The windows of a row (R331): each plane from BITS − 1 down to 0 with the ns its columns are lit, the window's length, and the plane
and row shifted in meanwhile. -/
def mxWindows (r : Bytes) (row : Nat) : List (Nat × Nat × Nat × (Nat × Nat)) :=
  (List.range (mxBits r)).reverse.map fun p =>
    (p, mxOn r p, max (mxOn r p) (mxLoad r), if p = 0 then (mxBits r - 1, (row + 1) % max (mxScan r) 1) else (p - 1, row))

/-- The LED a status bit names: the i-th load after the pulse, its j-th clock (R334). Lit in plane BITS − 1 (R335). -/
def mxLit (r : Bytes) (shown : Option (List (Nat × List Nat))) (line row col : Nat) : Bool := mxBit r shown (mxBits r - 1) line row col

/-- One test of one LED (R335): kind 0 OPEN, 1 SHORT. -/
def State.mxTest (s : State) (g : Nat) (confirm line row col kind : Nat) (bad : Bool) : State :=
  let x := s.mg g
  let same (t : LedTest) : Bool := t.line == line && t.row == row && t.column == col && t.kind == kind
  let t : LedTest := (x.tests.find? same).getD { line := line, row := row, column := col, kind := kind }
  let t : LedTest :=
    if bad then { t with reports := t.reports + 1, cleans := 0 } else { t with reports := 0, cleans := t.cleans + 1, spilt := false }
  let rest := x.tests.filter fun t => !same t
  let arg := natBE 1 g ++ natBE 1 line ++ natBE 1 row ++ natBE 2 col ++ natBE 1 kind
  if bad ∧ t.fault = false ∧ t.spilt = false ∧ confirm ≤ t.reports then
    if (x.tests.filter LedTest.fault).length < 256 then (s.setMg g { x with tests := rest ++ [{ t with fault := true }] }).raise 0x6010 arg
    else
      let s := (s.setMg g { x with tests := rest ++ [{ t with spilt := true }], overflowed := true }).count Od.faultOverflow 1 g
      if x.overflowed then s else s.raise 0x6012 (natBE 1 g)
  else if bad = false ∧ t.fault ∧ confirm ≤ t.cleans then
    (s.setMg g { x with tests := rest, overflowed := false }).raise 0x6011 arg
  else if bad = false ∧ t.fault = false then s.setMg g { x with tests := rest }
  else s.setMg g { x with tests := rest ++ [t] }

/-- A fault readback of one row (R334, R335): `status` by load and clock. -/
def State.mxReadback (s : State) (g : Nat) (r : Bytes) (status : List Nat) : State :=
  let x := s.mg g
  let row := x.readback % max (mxScan r) 1
  let s := (s.setMg g { x with readback := x.readback + 1, scansSince := 0 }).count Od.faultReadbacks 1 g
  let lines := mxSections r * mxChannels r
  (List.range (lines * mxCols r)).foldl (fun s n =>
    let line := n / max (mxCols r) 1
    let col := mxCols r - 1 - n % max (mxCols r) 1
    let kind := if mxLit r x.shown line row col then 0 else 1
    s.mxTest g (u8 r 18) line row col kind (status.getD n 0 == 1)) s

/-- Pins of a matrix group's six ports as row 0 starts (R329, R331, R333): the first clock of the load of plane BITS − 2, rows not blanked,
columns blanked before the first frame, FAULT an input. -/
def mxPins (r : Bytes) (shown : Option (List (Nat × List Nat))) : List (List Nat) :=
  let d := ((mxShift r shown (mxBits r - 2) 0).headD []).map b2n
  [d.take 3, d.drop 3, [0, 0, b2n (bit (u8 r 7) 0 == shown.isSome)], [0, 0, 0], [0, 0, 0], [b2n (bit (u8 r 7) 1), 2, 0]]

/-- MATRIX_SCAN_START (R332–R335). `status` is what the drivers return where a readback is due. -/
def execMatrixScanStart (group : Nat) (status : List Nat) (s : State) : Host.Outcome State Fault Refusal :=
  finish s (
    let (k, m) := s.nextScan group
    let r := matrixRec (s.periodCfg k) group
    if 8 ≤ group ∨ u8 r 0 ≠ 1 ∨ s.domOn 10 = false ∨ s.gate = false then s
    else
      let x := s.mg group
      let start := scanStart s.gridRate (mxRefresh r) k m
      let s := s.goTo start
      let due : Bool := m == 0 || decide (x.nextAt ≤ s.now)
      let shown := if due && x.next.isSome then x.next else x.shown
      let s := s.setMg group { x with shown := shown, next := if due then none else x.next, scansSince := x.scansSince + 1, after := start + 1 }
      let s := (mxPins r shown).zipIdx.foldl (fun s (l, i) => s.setLp (6 * group + i) { s.lp (6 * group + i) with pins := l }) s
      if u16 r 16 ≠ 0 ∧ u16 r 16 ≤ (s.mg group).scansSince then s.mxReadback group r status else s)

/-- MATRIX_FAULTS (R339). -/
def State.matrixFaults (s : State) (g : Nat) : Bytes :=
  ((s.mg g).tests.filter LedTest.fault).flatMap fun t => natBE 1 t.line ++ natBE 1 t.row ++ natBE 2 t.column ++ natBE 1 t.kind

/-! ## GPIO and pins (R313, R336) -/

/-- Levels of a GPIO port's pins (R336). -/
def State.gpioPins (s : State) (p : Nat) : List Nat :=
  let r := padTo 3 (s.regTab Od.gpio p)
  ([2, 1, 0] : List Nat).map fun i =>
    if bit (u8 r 0) i && (s.gate || bit (u8 r 2) i) then b2n (bit (u8 r 1) i) else 2

/-- Pins of a port that its own mode drives while it is idle (R312, R313). -/
def State.ownPins (s : State) (p : Nat) : List Nat :=
  if s.domOn 10 = false ∨ s.reg Od.portEn p = 0 then [2, 2, 2]
  else match s.reg Od.portMode p with
    | 1 => if s.gate then [b2n (chainInvert (chainRec s.tl.pres p)), 2, 2] else [2, 2, 2]
    | 2 => if s.gate then [1, 1, 2] else [2, 2, 2]
    | 3 => s.gpioPins p
    | _ => [2, 2, 2]

/-- Refresh the pins of every port that no claim holds: at a tick, and as the gate opens. -/
def State.lampPins (s : State) : State :=
  let ps := s.lamp.ports.zipIdx.map fun (xp : LampPort × Nat) =>
    if s.claimed xp.2 then xp.1 else ({ xp.1 with pins := s.ownPins xp.2 } : LampPort)
  { s with lamp := { s.lamp with ports := ps } }

/-- GPIO_IN (R336, R338: bits 2 to 0 for A, B, C): driven pins read their level, the others what the board gives (a free value). -/
def State.gpioIn (s : State) (p : Nat) : Nat :=
  ((s.lp p).pins.zipIdx.foldl (fun (a : Nat) (vi : Nat × Nat) => a + (if vi.1 = 2 then Config.pinLevel s.fresh p vi.2 % 2 else vi.1) * 2 ^ (2 - vi.2)) 0)

/-! ## Enabling, the gate and start-up (R312, R337) -/

/-- A write of PORT_EN is refused on a claimed port (R312). -/
def State.portEnOk (s : State) (p v : Nat) : Bool := v == 0 || !s.claimed p

/-- PORT_EN takes effect: a port that comes on or goes off starts afresh, its requests kept, the one under way first. -/
def State.portEnabled (s : State) (p old new : Nat) : State :=
  if old = new then s
  else
    let x := s.lp p
    s.setLp p { rdmQ := (match x.rdmNow with | some q => q :: x.rdmQ | none => x.rdmQ), results := x.results, openedAt := x.openedAt, nextDisc := s.now, pins := [2, 2, 2] }

/-- The gate opens (R337): chains wait T_RESET, ports drive their idle levels. -/
def State.openLamps (s : State) : State :=
  ({ s with lamp := { s.lamp with ports := s.lamp.ports.map fun (x : LampPort) => ({ x with openedAt := s.now, busy := 0 } : LampPort) } }).lampPins

/-- PD_LAMP comes out of reset (R337, R469): nothing sent, no measurements, no queued requests. -/
def State.startLamps (s : State) : State :=
  { s with lamp := { lines := s.lamp.lines, ports := List.replicate 48 { openedAt := s.now, nextDisc := s.now } } }

/-- An output that the timeline's last start has not seen launch presents zero drive (R33). -/
def State.clearLamps (s : State) : State :=
  { s with lamp := { s.lamp with
      ports := s.lamp.ports.map (fun x => { x with launched := none, carried := true })
      groups := s.lamp.groups.map fun g => { g with shown := none, next := none } } }

end Sys2Proof.Machine
end

