-- ==== Sys2Proof/Machine/Weir.lean ====
section
/-!
DEFINITION. What outlives a frame in colour and in the weir: temperatures at a close (R192, R193), drive ledgers and ageing
(R198, R199), the calibration cache (R213, R495), what a feed presents (R220, R225), and the die governor (R226, R227, R477).
-/
namespace Sys2Proof.Machine

/-! ## Temperatures (R192, R193) -/

/-- Tiles of a configuration. -/
def tilesIn (cfg : Store) : List Nat := (cfg.recs Od.tileMap).map fun r => u16 r 0

/-- The last report of a tile is older than TEMP_STALE. -/
def State.tempOld (s : State) (n : Nat) : Bool :=
  match kvGet n s.col.temps with
  | some (_, at_) => decide (s.reg Od.tempStale * 1000000 < s.now - at_)
  | none => false

/-- The close fixes every tile's temperature (R192) and reports the tiles that became stale (R193). -/
def State.closeTemps (s : State) (f : Frame) : State × Frame :=
  let ts := (tilesIn f.cfg).filterMap fun n => (kvGet n s.col.temps).map fun x => (n, x.1)
  let old := (tilesIn f.cfg).filter s.tempOld
  let s := old.foldl (fun (s : State) n =>
    if s.col.stale.contains n then s
    else s.raise 0x3801 (natBE 2 n ++ natBE 2 (ofS 16 ((ts.find? fun t => t.1 == n).map (·.2) |>.getD 0)))) s
  let fixed := ts.foldl (fun l t => kvSet t.1 t.2 l) s.col.fixed
  let s := { s with col := { s.col with fixed := fixed, stale := s.col.stale ++ old.filter fun n => !s.col.stale.contains n } }
  (s.setReg Od.tempStaleTiles old.length, { f with temps := ts })

/-- TILE_TEMP (R214): 1,024 records; a tile without a fixed temperature reads 0. -/
def State.tileTemp (s : State) : Bytes := (List.range 1024).flatMap fun n => natBE 2 (ofS 16 (kvGetD n 0 s.col.fixed))

/-! ## Drive ledgers (R198) -/

/-- String endpoints of a configuration. -/
def stringsIn (cfg : Store) : List Nat :=
  ((cfg.recs Od.endpointMap).map fun r => u16 r 0).filter fun n => epKind (packRec cfg n) == 4 && (packRec cfg n).length == 16

/-- Units that keep a drive ledger. -/
def ledgerUnits (cfg : Store) : List Nat := (tilesIn cfg).map (unitKey 0) ++ (stringsIn cfg).map (unitKey 1)

/-- Mean drive of each channel of a unit in a frame, after feed scale, in 2^-20 of full drive, rounded half up (R10). -/
def Frame.meanDrive (f : Frame) (unit : Nat) : List Nat :=
  let px := kvGetD unit [] f.work
  let sc := f.unitScale unit
  let n := max px.length 1
  (List.range 4).map fun c => (2 * px.foldl (fun a w => a + (nth w.2 c * sc + 16384) / 32768) 0 + n) / (2 * n)

/-- One tick's addition to a ledger, in 2^-40 of 1/16 hour: drive × T, rounded half up (R10; log entry 62). -/
def ledgerStep (drive periodNs : Nat) : Nat := (drive * periodNs * 2 ^ 20 + 112500000000) / 225000000000

/-- The drive a unit presents now. A string controller in any state but OK presents none (R349). -/
def State.presentDrive (s : State) (u : Nat) : List Nat :=
  let d := kvGetD u [0, 0, 0, 0] s.col.drive
  let ks := groupStrings s.tl.pres (epTarget (packRec s.tl.pres (u % 65536)))
  if u / 65536 = 1 then d.zipIdx.map fun (x, c) => match ks[c]? with | some k => if (s.str k).state = 0 then x else 0 | none => x
  else d

/-- Every unit adds the drive it presents at this tick (R198). -/
def State.addDrive (s : State) : State :=
  let t := tickPeriod s.tl.rate
  let add (l : List (Nat × List Nat)) (u : Nat) : List (Nat × List Nat) :=
    let d := s.presentDrive u
    kvMod u [0, 0, 0, 0] (fun old => (List.range 4).map fun c => nth old c + ledgerStep (nth d c) t) l
  { s with col := { s.col with ledger := (ledgerUnits s.tl.newest).foldl add s.col.ledger } }

/-- A ledger in 1/16 h, rounded half up and saturating (R10, R198). -/
def ledgerUnits16 (l : Nat) : Nat := min ((l + 2 ^ 39) / 2 ^ 40) (2 ^ 32 - 1)

/-- AGE_LEDGER as it reads: one record a unit, in 1/16 h. -/
def State.ageLedger (s : State) : Bytes :=
  s.col.ledger.flatMap fun (u : Nat × List Nat) =>
    natBE 1 (u.1 / 65536) ++ natBE 2 u.1 ++ (List.range 4).flatMap fun c => natBE 4 (ledgerUnits16 (nth u.2 c))

/-- The ledgers of the units that records name are replaced, all four channels of each (R199). -/
def State.setLedgers (s : State) (b : Bytes) : State :=
  (records 19 b).foldl (fun (s : State) r =>
    let u := unitKey (u8 r 0) (u16 r 1)
    let v := (List.range 4).map fun c => u32 r (3 + 4 * c) * 2 ^ 40
    { s with col := { s.col with ledger := kvSet u v s.col.ledger, curveEnd := s.col.curveEnd.filter (· != u) } }) s

/-- LEDGER_JOURNAL (R198): every 600 s the ledgers go to the settings store. -/
def execLedgerJournal (s : State) : Host.Outcome State Fault Refusal :=
  let t := s.goTo s.col.nextJournal
  finish s (
    if t.alive = false then s
    else
      let t := { t with col := { t.col with nextJournal := t.now + 600000000000 } }
      { t with od := { t.od with journal := t.od.journal.setTab Od.ageLedger t.ageLedger } })

/-! ## Ageing (R199) -/

/-- The gain of R199 for a ledger in 1/16 h, under a class record, for channel `c`. -/
def ageGainOf (e : Bytes) (c l : Nat) : Nat :=
  let pt (i : Nat) : Nat := u16 e (10 + 2 * (17 * c + i))
  let den := 16 * max (u16 e 8) 1
  let i := l / den
  if 16 ≤ i then pt 16
  else (divRound ((pt i : Int) * den + (l % den : Nat) * ((pt (i + 1) : Int) - pt i)) den).toNat

/-- The emitter class record of a unit. -/
def unitClass (cfg : Store) (unit : Nat) : Bytes :=
  if unit / 65536 = 0 then emitterClass cfg (u8 ((cfg.recOf Od.tileColour unit).getD []) 37 % 16)
  else emitterClass cfg (u8 (packRec cfg (unit % 65536)) 12 % 16)

/-- One unit's gains are recomputed; passing point 16 is reported once. -/
def State.ageUnit (s : State) (unit : Nat) : State :=
  let e := unitClass s.tl.newest unit
  let l := (kvGetD unit [0, 0, 0, 0] s.col.ledger).map ledgerUnits16
  let s := { s with col := { s.col with gains := kvSet unit ((List.range 4).map fun c => ageGainOf e c (nth l c)) s.col.gains } }
  match (List.range 4).find? fun c => decide (256 * max (u16 e 8) 1 ≤ nth l c) with
  | some c =>
    if s.col.curveEnd.contains unit then s
    else ({ s with col := { s.col with curveEnd := unit :: s.col.curveEnd } }).raise 0x3803 (natBE 1 (unit / 65536) ++ natBE 2 unit ++ natBE 1 c)
  | none => s

/-- AGE_RECOMPUTE (R199): every AGE_PERIOD. -/
def execAgeRecompute (s : State) : Host.Outcome State Fault Refusal :=
  let t := s.goTo s.col.nextAge
  finish s (
    if t.domOn 1 = false then s
    else
      let t := { t with col := { t.col with nextAge := t.now + t.reg Od.agePeriod * 1000000000 } }
      if t.tl.newest.bool Od.ageEn then (ledgerUnits t.tl.newest).foldl State.ageUnit t else t)

/-- AGE_GAIN (R199): the gains in force for CURRENT_FRAME, which were fixed at its cut-off. -/
def State.ageGain (s : State) : Bytes :=
  let g := match s.tl.frames.find? fun f => frameNo f.k == s.reg Od.currentFrame with
    | some f => f.gains
    | none => if s.tl.cur.bool Od.ageEn then s.col.gains else []
  (ledgerUnits s.tl.cur).flatMap fun u => natBE 1 (u / 65536) ++ natBE 2 u ++ (unitGains g u).flatMap (natBE 2)

/-- DITHER_RESET (R204). -/
def State.writeDitherReset (s : State) : Eff := effOk { s with col := { s.col with ditherReset := true } }

/-! ## Flags of per-pixel records (R191) -/

/-- Pixels of the bound configuration whose record has flag `b`. -/
def countFlag (cfg : Store) (b : Nat) : Nat :=
  cfg.tabs.foldl (fun a t => if calBase ≤ t.1 then a + ((records 20 t.2).filter fun r => bit (u16 r 18) b).length else a) 0

/-! ## The calibration cache (R213, R495) -/

/-- Size of the calibration cache in bytes, from the flash size in MiB (R495); 0 below 64 MiB too. -/
def cacheBytes (mib : Nat) : Nat :=
  (if 1024 ≤ mib then 848 else if 512 ≤ mib then 336 else if 256 ≤ mib then 80 else if 128 ≤ mib then 16 else 0) * 1048576

/-- One settings area in bytes (R495). -/
def settingsBytes (mib : Nat) : Nat := (if 256 ≤ mib then 64 else if 128 ≤ mib then 32 else 8) * 1048576

/-- Free bytes of the cache. -/
def State.calFree (s : State) : Nat :=
  cacheBytes s.pwr.flashMiB - s.col.calCache.foldl (fun a c => a + c.2.2.length) 0

/-- A committed page waits for the cache, and stands in CAL_PAGES (R213). -/
def State.queueCal (s : State) (target : Nat) (b : Bytes) : State :=
  { s with col := { s.col with
    calQueue := s.col.calQueue.filter (fun q => q.1 != target) ++ [(target, b)]
    calPages := s.col.calPages.filter (fun q => q.1 != target) ++ [(target, crc32c b, false)] } }

/-- CAL_CACHE_WRITE_DONE (R213): the oldest page waiting is cached, or is not, for want of space. -/
def execCalCacheWriteDone (dt : Nat) (s : State) : Host.Outcome State Fault Refusal :=
  let t := s.advance dt
  finish s (
    match t.domOn 4, t.col.calQueue with
    | true, (target, b) :: q =>
      let t := { t with col := { t.col with calQueue := q } }
      if b.length ≤ t.calFree then
        let cache := t.col.calCache.filter (fun c => c.1 != target) ++ [(target, crc32c b, b)]
        let pages := t.col.calPages.map fun (p : Nat × Nat × Bool) => if p.1 = target then (p.1, p.2.1, true) else p
        { t with col := { t.col with calCache := cache, calPages := pages } }
      else t.raise 0x3804 (natBE 4 target ++ natBE 4 (t.calFree / 1024))
    | _, _ => t)

/-- CAL_PAGES (R214). -/
def State.calPagesTab (s : State) : Bytes := s.col.calPages.flatMap fun p => natBE 4 p.1 ++ natBE 4 p.2.1 ++ natBE 1 (b2n p.2.2)

/-- Every cached page is loaded at a start; one that fails its check gives identity records (R213). -/
def State.loadCal (s : State) : State :=
  let s := { s with col := { s.col with calQueue := [], calPages := [] } }
  s.col.calCache.foldl (fun (s : State) (c : Nat × Nat × Bytes) =>
    if crc32c c.2.2 = c.2.1 then
      { s with tl := { s.tl with newest := { s.tl.newest with tabs := kvSet (calBase + c.1) c.2.2 s.tl.newest.tabs } }
               col := { s.col with calPages := s.col.calPages ++ [(c.1, c.2.1, true)] } }
    else s.raise 0x3802 (natBE 4 c.1)) s

/-! ## What feeds present (R220, R225) -/

/-- Outputs of a unit launch: h_u and the drive the unit presents (R198, R220), and its residuals, which follow the resets up to the frame
(R204). -/
def State.unitLaunched (s : State) (f : Frame) (unit : Nat) : State :=
  let h := match kvGet unit f.tally with | some n => kvSet unit (driveAt (f.unitScale unit) n) s.weir.h | none => s.weir.h
  let kept := if s.residualsGone f unit then kvSet unit [] s.col.residuals else s.col.residuals
  let res := match kvGet unit f.residuals with
    | some r => kvMod unit [] (fun l => r.foldl (fun l e => kvSet e.1 e.2 l) l) kept
    | none => kept
  { s with
    weir := { s.weir with h := h }
    col := { s.col with residuals := res, drive := kvSet unit (f.meanDrive unit) s.col.drive
                        resetFrom := s.col.resetFrom.filter fun p => !(p.1 == unit && decide (p.2 ≤ f.ord)) } }

/-- How a tile stands before a frame of it launches, which a LATCH that holds restores (R294). -/
def State.tileWas (s : State) (f : Frame) (n : Nat) : UnitWas :=
  { feed := (unitFeed f.cfg n).map fun g => (g, u16 (feedRec f.cfg g) 6), h := kvGet n s.weir.h, drive := kvGet n s.col.drive
    residuals := kvGet n s.col.residuals, resets := s.col.resetFrom.filter fun p => p.1 == n && decide (p.2 ≤ f.ord) }

/-- Units of a frame that give an output its data. -/
def unitsInto (cfg : Store) (o : Out) : List Nat := ((unitsOf cfg).filter fun u => u.outs.contains o).map UnitDef.unit

/-- The decision on an output of a frame, as `OutFrame.decision` has it. -/
def Frame.decided (f : Frame) (o : Out) : Nat :=
  match f.outs.find? fun x => x.out == o with
  | some x => x.decision
  | none => 2

/-- Some output of the unit launches this frame. -/
def Frame.unitGoes (f : Frame) (u : UnitDef) : Bool := u.outs.any fun o => f.decided o == 1 || f.decided o == 3

/-- Every output of a feed is decided: PRESENTED_IN with the PREDICTED_IN of the same frame, and with HOLD_SAFE = 0 the budget's check, once a
frame (R223, R225). An abandoned frame, which had no weir job, is covered all the same. -/
def State.presentFeed (s : State) (f : Frame) (feed : Nat) : State :=
  let us := feedUnits f.cfg feed
  let undecided := us.any fun u => u.outs.any fun o => f.decided o == 0
  if undecided then s
  else
    let r := feedRec f.cfg feed
    let one (u : UnitDef) : Nat :=
      if f.unitGoes u then driveAt (kvGetD feed 32768 f.scale) (kvGetD u.unit 0 f.tally) else kvGetD u.unit 0 s.weir.h
    let total := us.foldl (fun a u => a + one u) (feedIdle f.cfg feed)
    let x := s.feedState feed
    let pred := (kvGet feed f.predicted).getD (predictedMw (s.weirUnits f feed) (feedIdle f.cfg feed) (u16 r 6))
    let s := s.setFeedState feed { x with presented := inputMw total (u16 r 6), predicted := pred, presFrame := some f.k, total := total }
    let held := us.any fun u => !f.unitGoes u
    if bit (u8 r 10) 0 = false ∧ held ∧ feedBudget r < total ∧ f.overCounted.contains feed = false then s.count Od.holdOver else s

/-- FEED_STATUS (R230). -/
def State.feedStatus (s : State) : Bytes :=
  (s.tl.cur.recs Od.feeds).flatMap fun r =>
    let x := s.feedState (u16 r 0)
    natBE 2 (u16 r 0) ++ natBE 2 x.scale ++ natBE 4 x.predicted ++ natBE 4 x.presented ++ natBE 4 x.limited

/-- The timeline starts or the gate opens: h_u is 0 and the release limit does not apply (R220, R222). -/
def State.resetWeir (s : State) : State :=
  let feeds := s.weir.feeds.map fun (x : Nat × FeedState) => (x.1, ({ x.2 with prevFrame := none } : FeedState))
  { s with weir := { s.weir with h := [], feeds := feeds } }

/-! ## The die governor (R226, R227, R477) -/

/-- The domain of a die sensor. -/
def sensorDomain (i : Nat) : Nat := if i < 8 then 5 + i / 2 else if i = 9 then 2 else if i = 10 then 3 else if i = 11 then 4 else 0

/-- A list in rising order. -/
def sortInts (l : List Int) : List Int := l.foldr (fun x a => (a.filter fun y => decide (y < x)) ++ x :: a.filter fun y => decide (x ≤ y)) []

/-- Twice the median: the middle reading, or the mean of the two middle ones (log entry 63). -/
def median2 (l : List Int) : Int :=
  let o := sortInts l
  o.getD ((l.length - 1) / 2) 0 + o.getD (l.length / 2) 0

/-- A reading is valid: within −60 to +200 °C and within 20 °C of the median of the other sensors that are on (R477). -/
def sensorValid (x : Int) (others : List Int) : Bool :=
  decide (-960 ≤ x) && decide (x ≤ 3200) &&
    (others.isEmpty || (decide (2 * x - median2 others ≤ 640) && decide (-640 ≤ 2 * x - median2 others)))

/-- The sensors are read (R477): DIE_TEMP, TJ_HOTTEST, and the faults. -/
def State.readSensors (s : State) (temps : List Int) : State × Bool :=
  let on (i : Nat) : Bool := i == 8 || s.domOn (sensorDomain i)
  let lit := (List.range 12).filter on
  let ok (i : Nat) : Bool := on i && sensorValid (temps.getD i 0) ((lit.filter (· != i)).map fun j => temps.getD j 0)
  let good := lit.filter ok
  let bad := lit.filter fun i => !ok i
  let s := bad.foldl (fun (s : State) i => if s.pwr.dieFault.contains i then s else s.raise 0xE006 (natBE 1 i ++ natBE 2 (ofS 16 (temps.getD i 0)))) s
  let hot := (good.map fun i => temps.getD i 0).foldl max (-32768)
  let faults := (s.pwr.dieFault ++ bad).eraseDups.filter fun i => !good.contains i
  let s := { s with pwr := { s.pwr with dieTemps := (List.range 12).map fun i => (temps.getD i 0, ok i), dieFault := faults } }
  if good.isEmpty then (s, false)
  else ({ s with weir := { s.weir with tjHottest := hot }, trim := { s.trim with secSum := s.trim.secSum + hot, secN := s.trim.secN + 1 } }, true)

/-- Whole degrees of a temperature, as events carry them. -/
def wholeC (t : Int) : Bytes := natBE 2 (ofS 16 (t / 16))

/-- A thermal change of level (R227). -/
def State.setLevel (s : State) (l : Nat) : State :=
  if l = s.weir.level then s
  else
    let s := if s.weir.level < l then s.count Od.throttleSteps (l - s.weir.level) else s
    ({ s with weir := { s.weir with level := l } }).raise 0x7010 (natBE 1 l ++ wholeC s.weir.tjHottest)

/-- The thresholds act on a reading (R227). -/
def State.govern (s : State) : State :=
  let tj := s.weir.tjHottest
  let s :=
    if (s.reg Od.tjCrit : Int) * 16 ≤ tj then
      let s := if s.weir.crit then s else (({ s with weir := { s.weir with crit := true } }).count Od.critEntries).raise 0x7011 (wholeC tj)
      s.setLevel 3
    else s
  if (s.reg Od.tjThrottle : Int) * 16 ≤ tj then
    let due : Bool := match s.weir.lastDrop with | some d => decide (d + 5000000 ≤ s.now) | none => true
    if s.weir.level < 3 ∧ due then
      (({ s with weir := { s.weir with lastDrop := some s.now } }).setLevel (s.weir.level + 1))
    else s
  else { s with weir := { s.weir with lastDrop := none } }

/-- DIE_TEMP_SAMPLE (R226, R477): every 1 ms, on a timer of AO. -/
def execDieTempSample (temps : List Int) (s : State) : Host.Outcome State Fault Refusal :=
  let t := s.goTo s.pwr.nextDie
  finish s (
    if t.alive = false then s
    else
      let t := { t with pwr := { t.pwr with nextDie := t.now + 1000000 } }
      let (t, some_) := t.readSensors temps
      let cool := if t.pwr.shutLatched ∧ some_ ∧ t.weir.tjHottest ≤ (t.reg Od.tjRestart : Int) * 16 then some (t.pwr.coolSince.getD t.now) else none
      let t := { t with pwr := { t.pwr with coolSince := cool } }
      if t.domOn 1 then (if some_ then t.govern else t.setLevel 3) else t)

/-- Step 4: the critical state is left, CLOCK_MAX applies, or the level is raised (R227). -/
def State.raiseClock (s : State) : State :=
  let tj := s.weir.tjHottest
  let hyst := s.reg Od.tjHyst
  let s := if s.weir.crit ∧ tj ≤ ((s.reg Od.tjCrit : Int) - hyst) * 16 then { s with weir := { s.weir with crit := false } } else s
  let top := s.reg Od.clockMax
  let blind := s.pwr.dieTemps.all fun x => !x.2
  let due : Bool := match s.weir.lastRaise with | some r => decide (r + 100000000 ≤ s.now) | none => true
  if s.weir.level < top then { s with weir := { s.weir with level := top } }
  else if top < s.weir.level ∧ tj ≤ ((s.reg Od.tjThrottle : Int) - hyst) * 16 ∧ s.weir.crit = false ∧ blind = false ∧ due then
    ({ s with weir := { s.weir with lastRaise := some s.now } }).setLevel (s.weir.level - 1)
  else s

/-- CLOCK_LEVEL, ACTIVE_MASK and DIE_TEMP as they read (R231, R481). -/
def State.activeMask (s : State) : Bytes :=
  (List.range 17).map fun i => BitVec.ofNat 8 ((List.range 8).foldl (fun a j => a + b2n (s.weir.mask.contains (8 * i + j)) * 2 ^ j) 0)
def State.dieTemp (s : State) : Bytes := s.pwr.dieTemps.flatMap fun x => natBE 2 (ofS 16 x.1) ++ natBE 1 (b2n x.2)

end Sys2Proof.Machine
end

