-- ==== Sys2Proof/Machine/Validate.lean ====
section
/-!
DEFINITION. What a commit must satisfy (R20, R34): the limits of the levels of a show, keyed tables, coded fields, and the
conditions each chapter lists. `configOk` is all of them over the settings one frame would have.
-/
namespace Sys2Proof.Machine

/-- `v` within `lo` to `hi`. -/
def within (v lo hi : Nat) : Bool := decide (lo ≤ v) && decide (v ≤ hi)

/-- No number twice. -/
def distinct : List Nat → Bool
  | [] => true
  | x :: t => !t.contains x && distinct t

/-- Intervals under keys: (key, from, to), `to` not included. -/
def apart (a b : Nat × Nat × Nat) : Bool := a.1 != b.1 || decide (a.2.2 ≤ b.2.1) || decide (b.2.2 ≤ a.2.1)

/-- No two intervals under one key overlap; an empty one overlaps nothing. -/
def disjoint : List (Nat × Nat × Nat) → Bool
  | [] => true
  | x :: t => (decide (x.2.2 ≤ x.2.1) || t.all fun y => decide (y.2.2 ≤ y.2.1) || apart x y) && disjoint t

/-! ## Levels of a show (R4, R14, R20) -/

/-- A tile number within a tile range of SECTION_LIST (R178). -/
def inSection (cfg : Store) (n : Nat) : Bool :=
  (sectionsOf cfg).any fun r => decide (u16 r 2 ≤ n) && decide (n < u16 r 2 + u16 r 4)

/-- R14. -/
def sectionsOk (cfg : Store) : Bool :=
  let rs := sectionsOf cfg
  rs.length == cfg.num Od.sectionCount && distinct (rs.map fun r => u16 r 0) &&
    disjoint (rs.map fun r => (0, u16 r 2, u16 r 2 + u16 r 4)) && rs.all (fun r => decide (u16 r 2 + u16 r 4 ≤ 1024)) &&
    decide ((rs.foldl (fun a r => a + u16 r 4) 0) ≤ 1024)

/-- The largest number of output pixels per frame (R4). -/
def pixelLimit (rate : Nat) : Nat := min 16777216 (1006632960 * (rateOf rate).2 / (rateOf rate).1)

/-- Point-list samples (R16, R190). -/
def samplesUsed (cfg : Store) : Nat := (cfg.recs Od.endpointMap).foldl (fun a r => a + u32 r 8) 0

/-- R4, R20, R184, R190. -/
def levelsOk (cfg : Store) : Bool :=
  let (n, m) := rateOf (cfg.num Od.frameRate)
  decide (outputPixels cfg ≤ pixelLimit (cfg.num Od.frameRate)) && decide (samplesUsed cfg ≤ 4194304) &&
    decide (tapsPerFrame cfg * n ≤ 36000000000 * m) && decide ((cfg.recs Od.tileMap).length ≤ 1024) &&
    decide ((cfg.recs Od.endpointMap).length ≤ 16384) && decide ((cfg.recs Od.feeds).length ≤ 4096)

/-! ## Intake (R150, R151, R165, R167) -/

/-- S: bytes of a canvas line (R157). -/
def canvasStride (cfg : Store) (i : Nat) : Nat :=
  let (n, b) := groupDims (cfg.num (Od.strSampling.inst i)) (cfg.num (Od.strDepth.inst i))
  ceilDiv (cfg.num (Od.strWidth.inst i) * b) (n * 64) * 64

/-- Bit rate of a lane (R119). -/
def laneBits (rate : Nat) : Nat := if rate = 0 then 1000000000 else if rate = 1 then 10000000000 else 25000000000

def streamOn (cfg : Store) (i : Nat) : Bool := cfg.num (Od.strEnable.inst i) == 1

/-- Geometry and payload rate of one stream (R150). -/
def State.streamOk (s : State) (cfg : Store) (i : Nat) : Bool :=
  let w := cfg.num (Od.strWidth.inst i)
  let h := cfg.num (Od.strHeight.inst i)
  let ps := cfg.recs (Od.strParts.inst i)
  let (n, b) := groupDims (cfg.num (Od.strSampling.inst i)) (cfg.num (Od.strDepth.inst i))
  let (rn, rm) := rateOf (cfg.num (Od.strNominalRate.inst i))
  
  let overlaps (p q : Bytes) : Bool :=
    decide (u16 p 0 < u16 q 0 + u16 q 4) && decide (u16 q 0 < u16 p 0 + u16 p 4) && decide (u16 p 2 < u16 q 2 + u16 q 6) &&
      decide (u16 q 2 < u16 p 2 + u16 p 6)
  let rec apartAll : List Bytes → Bool
    | [] => true
    | p :: t => t.all (fun q => !overlaps p q) && apartAll t
  w % 4 == 0 && within ps.length 1 8 && apartAll ps &&
    ps.zipIdx.all fun (p, j) =>
      u16 p 0 % 4 == 0 && u16 p 4 % 4 == 0 && decide (1 ≤ u16 p 4) && decide (1 ≤ u16 p 6) &&
        decide (u16 p 0 + u16 p 4 ≤ w) && decide (u16 p 2 + u16 p 6 ≤ h) &&
        ((cfg.recs Od.videoFlows).filter fun f => u8 f 0 == i && u8 f 1 == j).all fun f =>
          decide (u16 p 4 * u16 p 6 * b * rn * 8 * 10 ≤ 9 * laneBits (s.reg Od.rate (u8 f 3)) * n * rm)

/-- R150 over both streams: the canvas write rate and memory count enabled streams (DEDUCED from R157, log entry 73). -/
def streamsOk (cfg : Store) : Bool :=
  let on := ([0, 1] : List Nat).filter (streamOn cfg)
  let (n0, m0) := rateOf (cfg.num (Od.strNominalRate.inst 0))
  let (n1, m1) := rateOf (cfg.num (Od.strNominalRate.inst 1))
  let bytes (i : Nat) : Nat := if on.contains i then canvasStride cfg i * cfg.num (Od.strHeight.inst i) else 0
  decide (bytes 0 * n0 * m1 + bytes 1 * n1 * m0 ≤ 10000000000 * m0 * m1) &&
    decide (11 * (bytes 0 + bytes 1) ≤ 5 * 1073741824) && cfg.num (Od.strProtect.inst 1) == 0 &&
    (cfg.num (Od.strProtect.inst 0) == 0 || !streamOn cfg 1)

/-- R151. -/
def State.flowsOk (s : State) (cfg : Store) : Bool :=
  (cfg.recs Od.videoFlows).all fun f =>
    decide (u8 f 0 ≤ 1) && decide (u8 f 1 < (cfg.recs (Od.strParts.inst (u8 f 0))).length) && decide (u8 f 2 ≤ 1) &&
      decide (u8 f 3 < 24) && s.reg Od.role (u8 f 3) == 1

/-- A universe is listed in SACN_IN. -/
def listed (cfg : Store) (u : Nat) : Bool := (cfg.recOf Od.sacnIn u).isSome

/-- Keys and coded fields of SACN_IN and SACN_OUT (R20, R167). ENDPOINT_PACK and AQ_ROUTES name a SACN_OUT record by its index; that no two
records have one UNIVERSE, as of a table keyed by it, is the model's choice (DESIGN CHOICE, log entry 137). -/
def sacnOk (cfg : Store) : Bool :=
  distinct ((cfg.recs Od.sacnIn).map fun r => u16 r 0) && distinct ((cfg.recs Od.sacnOut).map fun r => u16 r 0) &&
    (cfg.recs Od.sacnIn).all (fun r => within (u16 r 0) 1 63999 && decide (u8 r 2 ≤ 1) && decide (u8 r 3 ≤ 1)) &&
    (cfg.recs Od.sacnOut).all fun r =>
      within (u16 r 0) 1 63999 && decide (u8 r 2 < 24) && within (u16 r 3) 1 512 && decide (u8 r 5 ≤ 200)

/-! ## Mapping (R178–R180) -/

/-- The map of one TILE_MAP or RASTER_MAP record (R178). -/
def mapOk (cfg : Store) (r : Bytes) : Bool :=
  let tw := u16 r 4
  let th := u16 r 6
  let corners : List (Nat × Nat) := [(0, 0), (tw - 1, 0), (0, th - 1), (tw - 1, th - 1)]
  within tw 1 4096 && within th 1 4096 && decide (u8 r 2 ≤ 1) && streamOn cfg (u8 r 2) &&
    (u8 r 3 % 4 != 3 || (within (u16 r 48) 128 8192 && within (u16 r 50) 128 8192)) &&
    corners.all fun (c : Nat × Nat) =>
      let (w, x, y) := tilePos r c.1 c.2
      decide ((2 ^ 38 : Nat) ≤ w) && decide (-(32767 * 65536) ≤ x) && decide (x ≤ 32767 * 65536) && decide (-(32767 * 65536) ≤ y) &&
        decide (y ≤ 32767 * 65536)

/-- R178. -/
def tileMapOk (cfg : Store) : Bool :=
  let rs := cfg.recs Od.tileMap
  distinct (rs.map fun r => u16 r 0) && rs.all (fun r => inSection cfg (u16 r 0) && mapOk cfg r) &&
    (cfg.recs Od.rasterMap).all (mapOk cfg)

/-- The last slot a universe sample reads (R180). -/
def lastSlot (p : Bytes) : Nat := u16 p 2 + u8 p 5 * (1 + u8 p 4) - 1

/-- R179, R180. -/
def endpointMapOk (cfg : Store) : Bool :=
  let rs := cfg.recs Od.endpointMap
  distinct (rs.map fun r => u16 r 0) && rs.all fun r =>
    let first := u32 r 4
    let count := u32 r 8
    decide (u16 r 0 < 16384) && decide (u8 r 2 ≤ 2) && decide (1 ≤ count) && decide (first + count ≤ 4194304) &&
      ((List.range 4).all fun p =>
        decide (first + count ≤ p * 1048576) || decide ((p + 1) * 1048576 ≤ first) ||
          decide (min (first + count) ((p + 1) * 1048576) ≤ p * 1048576 + (cfg.tab Od.points p).length / 8)) &&
      (u8 r 3 % 4 != 3 || (within (u16 r 12) 128 8192 && within (u16 r 14) 128 8192)) &&
      (u8 r 2 != 2 || (List.range count).all fun i =>
        let p := pointRec cfg (first + i)
        listed cfg (u16 p 0) && decide (1 ≤ u16 p 2) && decide (u8 p 4 ≤ 1) && (u8 p 5 == 1 || u8 p 5 == 3) &&
          decide (lastSlot p ≤ 512))

/-! ## Colour (R202, R205–R212) -/

def orderOk (o : Nat) : Bool := decide (o % 8 ≤ 5)

/-- R209. -/
def tileColourOk (cfg : Store) : Bool :=
  let rs := cfg.recs Od.tileColour
  distinct (rs.map fun r => u16 r 0) &&
    (cfg.recs Od.tileMap).all (fun m => (cfg.recOf Od.tileColour (u16 m 0)).isSome) &&
    rs.all (fun r => decide (u16 r 0 < 1024) && ([0x30, 0x24, 0x1E, 0x18, 0x40] : List Nat).contains (u16 r 2) && orderOk (u8 r 4) &&
      decide (u8 r 36 ≤ 64)) &&
    (cfg.recs Od.rasterColour).all fun r => decide (u16 r 2 ≤ 3)

/-- KIND and BITS agree (R205). -/
def kindBitsOk (kind bits : Nat) : Bool :=
  if kind ≤ 2 then bits == 8 || bits == 16 else if kind = 3 then within bits 8 16 else bits == 16

/-- The samples of an endpoint (R179). -/
def epCount (cfg : Store) (ep : Nat) : Nat := u32 ((cfg.recOf Od.endpointMap ep).getD []) 8

/-- Wire bytes of one sample. -/
def epBytes (p : Bytes) : Nat := epChannels p * (epBits p / 8)

/-- What an endpoint writes: LEDs, slots or pixels of its target, by KIND and TARGET (R208). A string group is no such target. -/
def epWrites (cfg : Store) (p : Bytes) : Nat × Nat × Nat :=
  let n := epCount cfg (u16 p 0)
  let key := epKind p * 65536 + epTarget p
  match epKind p with
  | 0 | 3 => (key, epStart p, epStart p + n)
  | 1 | 2 => (key, epStart p, epStart p + n * epBytes p)
  | _ => (key, 0, 0)

/-- One ENDPOINT_PACK record whose endpoint is mapped (R208, R316, R325, R330, R343). -/
def State.endpointPackOk (s : State) (cfg : Store) (p : Bytes) : Bool :=
  let t := epTarget p
  let n := epCount cfg (u16 p 0)
  match epKind p with
  | 0 =>
    let r := chainRec cfg t
    decide (t < 48) && s.reg Od.portMode t == 1 && epBytes p == chainLedBytes r && decide (epStart p + n ≤ chainLeds r)
  | 1 =>
    decide (t < 48) && s.reg Od.portMode t == 2 && within (epStart p) 1 512 &&
      decide (epStart p + n * epBytes p ≤ 1 + min 512 (dmxSlots (dmxRec cfg t)))
  | 2 =>
    decide (t < (cfg.recs Od.sacnOut).length) && within (epStart p) 1 512 &&
      decide (epStart p + n * epBytes p ≤ 1 + min 512 (u16 (sacnOutRec cfg t) 3))
  | 3 =>
    let r := matrixRec cfg t
    decide (t < 8) && epChannels p == mxChannels r && epBits p == mxBits r && decide (epStart p + n ≤ mxPixels r)
  | _ => decide (t < 16) && epStart p == 0 && n == 1 && epChannels p == u8 (groupRec cfg t) 0

/-- TARGET and START of a record, mapped or not, lie in what its KIND lists (R20, R208, R210). -/
def packKeysOk (p : Bytes) : Bool :=
  let t := epTarget p
  match epKind p with
  | 0 => decide (t < 48)
  | 1 => decide (t < 48) && within (epStart p) 1 512
  | 2 => decide (t < 4096) && within (epStart p) 1 512
  | 3 => decide (t < 8)
  | _ => decide (t < 16) && epStart p == 0

/-- R208, R210. -/
def State.packOk (s : State) (cfg : Store) : Bool :=
  let rs := cfg.recs Od.endpointPack
  let mapped := rs.filter fun p => (cfg.recOf Od.endpointMap (u16 p 0)).isSome
  distinct (rs.map fun r => u16 r 0) &&
    (cfg.recs Od.endpointMap).all (fun m => (cfg.recOf Od.endpointPack (u16 m 0)).isSome) &&
    rs.all (fun p => decide (u16 p 0 < 16384) && decide (epKind p ≤ 4) && ([1, 3, 4] : List Nat).contains (epChannels p) &&
      orderOk (u8 p 8) && kindBitsOk (epKind p) (epBits p) && packKeysOk p) &&
    mapped.all (s.endpointPackOk cfg) && disjoint (mapped.map (epWrites cfg))

/-- R202, R211. -/
def lutsOk (cfg : Store) : Bool :=
  ((List.range 15).all fun i =>
    match kvGet (Od.outLut.key + i) cfg.tabs with
    | none => true
    | some b => (records 4 b).all fun e => decide (u32 e 0 ≤ 1048576)) &&
  (match kvGet Od.emitterClass.key cfg.tabs with
    | none => true
    | some b => (records 148 b).all fun e => decide (1 ≤ u16 e 0) && decide (1 ≤ u16 e 2) && decide (1 ≤ u16 e 4) && decide (u16 e 6 ≤ 32768) &&
      decide (1 ≤ u16 e 8))

/-- The calibration pages a commit takes stay within the pixels of their tile, or within the reference numbers (R212). -/
def calOk (cfg : Store) (vals : List (Nat × OdVal)) : Bool :=
  vals.all fun v =>
    if v.1 < calBase then true
    else
      let t := v.1 - calBase
      let n := t % 256 * 524288 + (match v.2 with | .tab b => b.length / 20 | .num _ => 0)
      let m := tileMapRec cfg (t / 65536 % 16384)
      decide (n ≤ if t / 2 ^ 30 = 0 then u16 m 4 * u16 m 6 else 4194304)

/-! ## Weir (R216, R219) and the job graph (R258, R261) -/

/-- The unit of a UNIT_MODEL record is mapped (R219). -/
def unitMapped (cfg : Store) (r : Bytes) : Bool :=
  if u8 r 0 = 0 then (cfg.recOf Od.tileMap (u16 r 2)).isSome else (cfg.recOf Od.endpointMap (u16 r 2)).isSome

/-- R216, R219. -/
def feedsOk (cfg : Store) : Bool :=
  let ms := cfg.recs Od.unitModel
  let fs := cfg.recs Od.feeds
  distinct (fs.map fun r => u16 r 0) && distinct (ms.map fun r => unitKey (u8 r 0) (u16 r 2)) &&
    ms.all (fun r => decide (u8 r 0 ≤ 1) && unitMapped cfg r && (u16 r 4 == 0xFFFF || (cfg.recOf Od.feeds (u16 r 4)).isSome)) &&
    fs.all fun f =>
      decide (u16 f 0 < 4096) && within (u16 f 6) 1 32768 && within (u16 f 8) 1 32768 &&
        decide (((ms.filter fun r => u16 r 4 == u16 f 0).foldl (fun a r => a + pIdle r) 0) ≤ feedBudget f)

/-- R258, R261. -/
def State.graphOk (s : State) (cfg : Store) : Bool :=
  (List.range 4).all (fun i => decide (u8 (cfg.tab Od.prioByKind) i ≤ 7)) &&
    distinct ((cfg.recs Od.unitPrio).map fun r => unitKey (u8 r 0) (u16 r 1)) &&
    (cfg.recs Od.unitPrio).all (fun r => decide (u8 r 3 ≤ 7) &&
      ((u8 r 0 == 0 && decide (u16 r 1 ≤ 1023)) || (u8 r 0 == 1 && decide (u16 r 1 ≤ 16383)) || (u8 r 0 == 3 && u16 r 1 == 0))) &&
    (graphOf cfg).fits && ((feedsOf cfg).isEmpty || (List.range 4).any fun i => u8 (s.regTab Od.delayMode) i == 0)

/-! ## Pounds (R279, R280) -/

/-- The pounds that the outputs of a configuration take (log entry 50). -/
def outPounds (cfg : Store) : List Nat := (outputsOf cfg).map (outPound cfg)

/-- R280, and R279's rule for the pounds an output of this configuration takes. -/
def State.poundsFit (s : State) (cfg : Store) : Bool :=
  distinct ((cfg.recs Od.poundConfig).map fun r => u16 r 0) && s.poundsOk cfg (outPounds cfg)

/-- A configuration's outputs take their pounds (R279). -/
def State.takeOutPounds (s : State) (cfg : Store) : State := (outPounds cfg).foldl (fun (s : State) p => s.takePound cfg p 4) s

/-! ## The Zhoeno link (R285, R290, R292) -/

/-- One lane's tiles (R285, R290, R292). -/
def State.laneOk (s : State) (cfg : Store) (lane : Nat) : Bool :=
  let z := zhLaneRec cfg lane
  let rs := laneTiles cfg lane
  let mapped := rs.filter fun r => (cfg.recOf Od.tileMap (u16 r 0)).isSome
  decide (u8 z 0 ≤ 1) && decide (u8 z 1 ≤ 1) && decide (u8 z 2 ≤ 1) && decide (u16 z 3 ≤ 9546) &&
    (rs.isEmpty ||
      (s.reg Od.role lane == 2 && decide (rs.length ≤ if s.reg Od.rate lane = 0 then 64 else 256) &&
        mapped.all (fun r => decide (1 ≤ s.tileMss cfg lane (u16 r 0))) &&
        decide ((mapped.foldl (fun a r => a + s.tileSigma cfg lane (u16 r 0)) 0) + 1000000 ≤ tickPeriod (cfg.num Od.frameRate)) &&
        (s.reg Od.rate lane != 2 || rs.all fun r =>
          match tileSection cfg (u16 r 0) with
          | some x => (cfg.recOf Od.sectionSeal x).isSome
          | none => true)))

/-- R285, R290, R292, R309. -/
def State.linkOk (s : State) (cfg : Store) : Bool :=
  distinct ((cfg.recs Od.tileLink).map fun r => u16 r 0) && distinct ((cfg.recs Od.sectionSeal).map fun r => u16 r 0) &&
    (cfg.recs Od.tileLink).all (fun r => decide (u16 r 0 < 1024) && decide (linkLane r < 24)) &&
    (cfg.recs Od.sectionSeal).all (fun r => decide (u8 r 2 < 64)) && (List.range 24).all (s.laneOk cfg)

/-! ## Lamp ports (R312, R315–R318, R323–R334, R338) and strings (R342, R343, R356) -/

/-- R315, R318, R338. -/
def chainOk (cfg : Store) (p : Nat) : Bool :=
  let r := chainRec cfg p
  let (bit_, t0, t1, rst) := chainTimes r
  decide (chainLeds r ≤ 4096) && within (chainLedBytes r) 1 8 && decide (u32 r 20 ≤ 10000000) && decide (u8 r 24 ≤ 2) &&
    (u8 r 24 != 0 || (within bit_ 200 5000 && decide (50 ≤ t0) && decide (t0 + 25 ≤ t1) && decide (t1 + 50 ≤ bit_) &&
      within rst 5000 1000000)) &&
    decide (u32 r 16 ≤ rst) && decide (chainLine r + rst + u32 r 20 + 1000000 ≤ tickPeriod (cfg.num Od.frameRate))

/-- R323, R338. -/
def dmxOk (cfg : Store) (p : Nat) : Bool :=
  let r := dmxRec cfg p
  within (dmxSlots r) 24 512 && within (u16 r 2) 92 1000 && within (u8 r 4) 12 88 && decide (u8 r 5 ≤ 100) && decide (u16 r 6 ≤ 1000) &&
    decide (u32 r 8 ≤ tickPeriod (cfg.num Od.frameRate)) && decide (1 ≤ u8 r 13)

/-- R332, R334, R338. -/
def matrixOk (cfg : Store) (g : Nat) : Bool :=
  let r := matrixRec cfg g
  decide (u8 r 0 ≤ 1) && within (mxScan r) 1 64 && within (mxCols r) 1 1024 && ([1, 3, 4] : List Nat).contains (mxChannels r) &&
    within (mxBits r) 8 16 && within (mxRefresh r) 1 64 && within (u16 r 8) 10 1000 && within (u16 r 10) 10 1000 &&
    within (u16 r 12) 3 1000 && within (u16 r 14) 100 10000 && within (u8 r 18) 1 15 &&
    decide (mxScan r * mxRow r * mxRefresh r ≤ tickPeriod (cfg.num Od.frameRate)) &&
    (u16 r 16 == 0 || decide (500 + u16 r 10 ≤ mxOn r (mxBits r - 1)))

/-- R312: no port has two claims, and none is claimed while it is enabled for itself. -/
def State.claimsOk (s : State) (cfg : Store) : Bool :=
  (List.range 48).all fun p =>
    match claimsOf cfg p with
    | [] => true
    | [_] => s.reg Od.portEn p == 0
    | _ => false

/-- R342, R356. -/
def stringOk (cfg : Store) (n : Nat) : Bool :=
  let r := stringCfg cfg n
  decide (u8 r 0 ≤ 1) && decide (u8 r 1 ≤ 2) && within (u16 r 2) 200 2000 && within (u16 r 4) 1 16383 && decide (1 ≤ u16 r 6) &&
    (within (u8 r 24) 16 23 || u8 r 24 == 0xFF) && decide (u16 r 26 ≤ 20000)

/-- R343. -/
def groupsOk (cfg : Store) : Bool :=
  let gs := cfg.recs Od.stringGroup
  let bound := (List.range gs.length).flatMap (groupStrings cfg)
  let shortest := tickPeriod (cfg.num Od.frameRate) / max (cfg.num Od.dimPeriods) 1
  distinct bound && bound.all (fun n => decide (n < 16) && u8 (stringCfg cfg n) 0 == 1) &&
    gs.zipIdx.all fun (g, i) =>
      ([0, 1, 3, 4] : List Nat).contains (u8 g 0) && (decide (u8 g 5 ≤ 3) || u8 g 5 == 0xFF) && decide (u8 g 6 < 16) &&
        (u8 g 5 == 0xFF || (groupStrings cfg i).all fun n => u8 (stringCfg cfg n) 1 == 0) &&
        (u8 g 0 == 0 || decide (2 * ((u8 g 0 + 1) * cfg.num Od.wSense) ≤ shortest))

/-- R342: no two strings name one voltage input. -/
def vsenseOk (cfg : Store) : Bool :=
  distinct (((List.range 16).map fun n => u8 (stringCfg cfg n) 24).filter fun v => v != 0xFF)

/-- Every lamp and string condition of a commit. -/
def State.lampsOk (s : State) (cfg : Store) : Bool :=
  (List.range 48).all (fun p => chainOk cfg p && dmxOk cfg p) && (List.range 8).all (matrixOk cfg) && s.claimsOk cfg &&
    (List.range 16).all (stringOk cfg) && vsenseOk cfg && groupsOk cfg

/-! ## Aqueduct (R374, R375) -/

def aqSrc (r : Bytes) : Nat := u8 r 0
def aqDst (r : Bytes) : Nat := u8 r 1
def aqCount (r : Bytes) : Nat := u16 r 6
def aqSrcWidth (r : Bytes) : Nat := u8 r 12 / 16
def aqDstWidth (r : Bytes) : Nat := u8 r 12 % 16

/-- The routes in use (R374). -/
def aqRoutesOf (cfg : Store) : List Bytes := (cfg.recs Od.aqRoutes).filter fun r => aqSrc r != 0

/-- The destination slots of a UNIVERSE route, keyed as `epWrites` keys them where an endpoint may write them too. -/
def aqWrites (r : Bytes) : Nat × Nat × Nat :=
  let key := (match aqDst r with | 0 => 9 | 1 => 2 | _ => 1) * 65536 + u16 r 8
  (key, u16 r 10, u16 r 10 + aqCount r * (1 + aqDstWidth r))

/-- One route (R374, R375). -/
def State.routeOk (s : State) (cfg : Store) (r : Bytes) : Bool :=
  let rs := aqRoutesOf cfg
  if aqSrc r = 1 then
    decide (aqDst r ≤ 2) && decide (aqSrcWidth r ≤ 1) && decide (aqDstWidth r ≤ 1) && within (u16 r 2) 1 63999 &&
      within (u16 r 4) 1 512 && within (aqCount r) 1 512 && decide (u16 r 4 + aqCount r * (1 + aqSrcWidth r) ≤ 513) &&
      within (u16 r 10) 1 512 && decide ((aqWrites r).2.2 ≤ 513) && listed cfg (u16 r 2) &&
      !(rs.any fun q => aqSrc q == 1 && aqDst q == 0 && u16 q 8 == u16 r 2) &&
      (match aqDst r with
        | 0 => within (u16 r 8) 1 63999
        | 1 => decide (u16 r 8 < (cfg.recs Od.sacnOut).length) && decide ((aqWrites r).2.2 ≤ 1 + u16 (sacnOutRec cfg (u16 r 8)) 3)
        | _ => decide (u16 r 8 < 48) && s.reg Od.portMode (u16 r 8) == 2)
  else if aqSrc r = 2 then
    within (aqDst r) 3 5 && decide (aqSrcWidth r ≤ 3) && decide (aqDstWidth r ≤ 3) && within (u16 r 2) 0xB200 0xB3FF &&
      within (aqCount r) 1 512 && decide (u16 r 2 + aqCount r ≤ 0xB400) &&
      (match aqDst r with
        | 3 => u16 r 8 != s.device && ((cfg.recs Od.aqPeers).any fun q => u16 q 0 == u16 r 8)
        | 4 => decide (u16 r 8 < 48)
        | _ => decide (u16 r 8 < 1024) && within (u16 r 10) 0x1000 0x7FFF)
  else false

/-- R375. -/
def State.aqOk (s : State) (cfg : Store) : Bool :=
  let rs := aqRoutesOf cfg
  let univ := rs.filter fun r => aqSrc r == 1
  let eps := (cfg.recs Od.endpointPack).filter fun p =>
    (epKind p == 1 || epKind p == 2) && (cfg.recOf Od.endpointMap (u16 p 0)).isSome
  rs.all (s.routeOk cfg) && disjoint (univ.map aqWrites) &&
    univ.all (fun r => eps.all fun p => apart (aqWrites r) (epWrites cfg p)) &&
    disjoint ((rs.filter fun r => aqSrc r == 2).map fun r => (0, u16 r 2, u16 r 2 + aqCount r)) &&
    distinct ((cfg.recs Od.aqPeers).map fun r => u16 r 0) &&
    (cfg.recs Od.aqPeers).all fun r =>
      u8 r 20 == 24 || u8 r 20 == 25 || (decide (u8 r 20 < 24) && (s.reg Od.role (u8 r 20) == 1 || s.reg Od.role (u8 r 20) == 3))

/-! ## Coded fields of the RW tables -/

/-- Strictly rising numbers. -/
def rising : List Nat → Bool
  | a :: b :: t => decide (a < b) && rising (b :: t)
  | _ => true

/-- Coded fields of the RW tables (R99, R127, R136, R199, R219, R255, R275, R353, R354, R372). -/
def tableFieldsOk (key : Nat) (b : Bytes) : Bool :=
  if Od.txqPound.holds key then (records 2 b).all fun r => decide (u16 r 0 ≤ 4095)
  else if Od.exact.holds key then (records 9 b).all fun r => decide (u8 r 8 ≤ 1)
  else if key = Od.ageLedger.key then (records 19 b).all fun r => decide (u8 r 0 ≤ 1)
  else if key = Od.delayMode.key then (records 1 b).all fun r => decide (u8 r 0 ≤ 1)
  else if key = Od.sluiceMap.key then
    (records 6 b).all fun r => decide (u16 r 0 ≤ 4095) && decide (u8 r 2 ≤ 2) && decide (10 ≤ u16 r 4) && decide (u16 r 4 ≤ 10000)
  else if key = Od.ntcTable.key then rising ((records 4 b).map fun r => u16 r 0)
  else if key = Od.derate.key then (records 10 b).all fun r => decide (s16 r 0 < s16 r 2) && decide (s16 r 2 ≤ s16 r 6)
  else if key = Od.rsTiming.key then rsFieldsOk b rsScanDefault
  else if key = Od.rsScan.key then rsFieldsOk rsTimingDefault b
  else true

/-! ## All of them -/

/-- The settings a frame would have pass R20 and every condition of the chapters. -/
def State.configOk (s : State) (cfg : Store) : Bool :=
  (rateNM (cfg.num Od.frameRate)).isSome && sectionsOk cfg && tileMapOk cfg && endpointMapOk cfg && levelsOk cfg &&
    s.streamOk cfg 0 && s.streamOk cfg 1 && streamsOk cfg && s.flowsOk cfg && sacnOk cfg && tileColourOk cfg && s.packOk cfg &&
    lutsOk cfg && feedsOk cfg && s.linkOk cfg && s.lampsOk cfg && s.aqOk cfg && s.poundsFit cfg && s.graphOk cfg

/-- The range checks of the values a commit carries (R34), by their rows; calibration pages have R212's. -/
def valsOk (vals : List (Nat × OdVal)) : Bool :=
  vals.all fun v =>
    if calBase ≤ v.1 then true
    else match Od.find v.1 with
      | some (r, _) => r.rangeOk v.1 v.2
      | none => true

/-! ## Persisted values (R53, R495) -/

def OdVal.size (r : OdRow) : OdVal → Nat
  | .num _ => r.len
  | .tab b => b.length

/-- Bytes of the persisted values of a store: those of the entries marked P, as they stand on the wire (log entry 66). -/
def persistedBytes (st : Store) : Nat :=
  st.nums.foldl (fun a p => a + (match Od.find p.1 with | some (r, _) => if r.persist then r.len else 0 | none => 0)) 0 +
    st.tabs.foldl (fun a p => a + (match Od.find p.1 with | some (r, _) => if r.persist then p.2.length else 0 | none => 0)) 0

/-- The settings store once these values are journalled, with the key blobs, fits one settings area (R495). -/
def State.persistFits (s : State) (vals : List (Nat × OdVal)) : Bool :=
  let st := (s.od.journal.setVals (s.od.journalQ.map fun q => (q.1, q.2.1))).setVals (vals.filter fun v => decide (v.1 < calBase))
  decide (persistedBytes st + s.keys.blobs.foldl (fun a b => a + b.record.length) 0 ≤ settingsBytes s.pwr.flashMiB)

/-- Flash a commit's calibration pages need is R213's concern; this is what the commit persists (R53). -/
def persistedVals (vals : List (Nat × OdVal)) : List (Nat × OdVal) :=
  vals.filter fun v => decide (v.1 < calBase) && (match Od.find v.1 with | some (r, _) => r.persist | none => false)

end Sys2Proof.Machine
end

