-- ==== Sys2Proof/Machine/Gate.lean ====
section
/-!
DEFINITION. What starts when the gate opens (R390), and the deassertion of TOW_PEER_N (R387, R388).
-/
namespace Sys2Proof.Machine

/-- D in force: of the newest fixed frame (R28). -/
def State.delay (s : State) : Nat := s.tl.newest.num Od.presentDelay

/-- The gate has opened (R390): h_u are 0 and the release limit is waived, every section rolls its key, every tile is ABSENT and is
asked to announce itself, and strings and lamp ports start. The raster's pins follow at its next frame (R360). -/
def State.gateOpened (s : State) : State :=
  let cfg := s.linkCfg
  let s := s.resetWeir
  let s := { s with tow := { s.tow with gateOpenedAt := s.now, advanced := false } }
  let s := s.sealSections cfg
  let s := s.zl.seals.foldl (fun (s : State) x => s.startRoll cfg x.secNo s.zl.lastOrd) s
  let s := (s.zl.tiles.map (·.1)).foldl (fun (s : State) n => s.absentTile cfg n false) s
  let s := ((List.range 24).filter s.tileLane).foldl (fun (s : State) lane => s.helloLane cfg lane) s
  s.openStrings.openLamps

/-- TOW_PEER_N reads deasserted after its filter (R387): a beacon of the last 3 × BEACON_PERIOD is noted for R396, and an ACTIVE
unit's gate opens again (R388). -/
def State.peerGone (s : State) : State :=
  let recent := match s.tow.lastBeacon with
    | some (_, t) => decide (s.now ≤ t + 3 * s.reg Od.beaconPeriod * 1000000)
    | none => false
  let t := { s with tow := { s.tow with peer := false, peerSince := s.now, beaconRecent := recent } }
  if s.gate = false ∧ t.gate then t.gateOpened else t

/-- PEER_DEASSERT (R387, R388). -/
def execPeerDeassert (dt : Nat) (s : State) : Host.Outcome State Fault Refusal :=
  let t := s.advance dt
  finish s (if t.alive ∧ t.tow.peer then t.peerGone else t)

end Sys2Proof.Machine
end

