-- ==== Sys2Proof/Machine/Intake.lean ====
section
/-!
DEFINITION. Intake (spec/06): ST 2110-20 packets and their merge, the windows of frames, canvases and their close, sACN
reception and merge, and the packets of sACN output universes.
-/
namespace Sys2Proof.Machine

def State.stream (s : State) (i : Nat) : StreamSt := s.intake.streams.getD i {}

def State.setStream (s : State) (i : Nat) (x : StreamSt) : State :=
  { s with intake := { s.intake with streams := setAt s.intake.streams i x } }

/-- STATE of a stream, with its register (R156). -/
def State.setStreamState (s : State) (i st : Nat) : State :=
  (s.setStream i { s.stream i with state := st }).setReg (Od.strState.inst i) st

/-! ## Windows (R152, R153) -/

/-- The 64-bit media count nearest to the arrival that is congruent to the timestamp (R152); a count is never negative, so near device
time 0 the nearest one is the timestamp itself. -/
def mediaCount (now rtp : Nat) : Nat :=
  let near : Int := ((now * 9 / 100000 : Nat) : Int)
  let d := toS 32 (ofS 32 ((rtp : Int) - near))
  if near + d < 0 then (near + d + 2 ^ 32).toNat else (near + d).toNat

/-- 9 × (t_k + MEDIA_OFFSET_k), and with t_{k+1}: the bounds of W_k (R153). -/
def Frame.window (f : Frame) (stream : Nat) : Nat × Nat :=
  let off := f.cfg.num (Od.strMediaOffset.inst stream) * 1000
  (9 * (tickTime f.rate f.k + off), 9 * (tickTime f.rate (f.k + 1) + off))

/-- A media count lies in the window of a frame (R153). -/
def Frame.inWindow (f : Frame) (stream c : Nat) : Bool :=
  decide ((f.window stream).1 ≤ c * 100000) && decide (c * 100000 < (f.window stream).2)

/-- The frame whose window holds a media count: the earlier frame, where two windows overlap (R153). Frames stand in their order. -/
def State.windowFrame (s : State) (stream c : Nat) : Option Frame := s.tl.frames.find? fun f => f.inWindow stream c

/-- A media count in no window: early if it arrives before the tick that follows the last frame whose window starts at or
before it (R153). -/
def State.gapEarly (s : State) (stream c : Nat) : Bool :=
  let before := s.tl.frames.filter fun f => decide ((f.window stream).1 ≤ c * 100000)
  match before.foldl (fun (a : Option Frame) f => match a with | some g => if (f.window stream).1 ≤ (g.window stream).1 then a else some f | none => some f) none with
  | some f => decide (s.now < tickTime f.rate (f.k + 1))
  | none => false

/-! ## The packet check (R151) -/

/-- PX Y W H of a part. -/
def partRec (cfg : Store) (stream part : Nat) : Option Bytes := (cfg.recs (Od.strParts.inst stream))[part]?

/-- R151: the packet is well formed under a frame's settings. -/
def videoOk (cfg : Store) (stream part : Nat) (p : VideoPkt) : Bool :=
  match partRec cfg stream part with
  | none => false
  | some r =>
    let (n, b) := groupDims (cfg.num (Od.strSampling.inst stream)) (cfg.num (Od.strDepth.inst stream))
    p.rtpVersion == 2 && p.pt == cfg.num (Od.strPt.inst stream) && (p.srds.foldl (fun a d => a + d.length) 0) == p.carried &&
      p.srds.all fun d => !d.fbit && decide (d.row < u16 r 6) && d.offset % n == 0 && d.length % b == 0 &&
        decide (d.offset + d.length / b * n ≤ u16 r 4)

/-- The flow record that a packet matches on a lane (R151). -/
def State.flowOf (s : State) (port : Nat) (p : VideoPkt) : Option Bytes :=
  ((s.flowsOn port).find? fun ir => beNat (slice ir.2 4 16) == p.dst && u16 ir.2 20 == p.dstPort &&
    (beNat (slice ir.2 22 16) == 0 || beNat (slice ir.2 22 16) == p.srcAddr)).map (·.2)

/-! ## Paths and the merge (R155, R156) -/

def mergeWindow : Nat := 262144

def State.part (s : State) (i part : Nat) : PartSt := (s.stream i).parts.getD part {}

def State.setPart (s : State) (i part : Nat) (x : PartSt) : State :=
  s.setStream i { s.stream i with parts := setAt (s.stream i).parts part x }

/-- A path delivers a packet: it is ACTIVE (R156). -/
def State.touchPath (s : State) (i part path : Nat) : State :=
  let x := s.part i part
  let was := (x.paths.getD path {}).active
  let s := s.setPart i part { x with paths := setAt x.paths path { lastRx := some s.now, active := true } }
  if was then s else s.raise 0x3004 (natBE 2 i ++ natBE 1 part ++ natBE 1 path)

/-- PATH_SKEW of a stream in µs, rounded half up (R156). -/
def StreamSt.skewNs (x : StreamSt) : Int × Nat := (x.skews.foldl (· + ·) 0, max x.skews.length 1)

def StreamSt.skewUs (x : StreamSt) : Int := divRound x.skewNs.1 (x.skewNs.2 * 1000)

/-- Both paths have delivered one number: the skew is measured, and its event raised where it first exceeds SKEW_LIMIT (R156). -/
def State.noteSkew (s : State) (i : Nat) (d : Int) : State :=
  let x := s.stream i
  let x : StreamSt := { x with skews := pushLast 1024 x.skews d }
  let lim : Nat := s.reg (Od.strSkewLimit.inst i) * 1000000 * x.skewNs.2
  let mag := x.skewNs.1.natAbs
  let us := satS 32 x.skewUs
  let s := s.setReg (Od.strPathSkew.inst i) us
  if lim < mag ∧ x.skewHigh = false then (s.setStream i { x with skewHigh := true }).raise 0x3005 (natBE 2 i ++ natBE 4 us)
  else s.setStream i { x with skewHigh := x.skewHigh && !decide (mag < lim) }

/-- Numbers leave the merge window as its foot moves to `foot` (R155): those that a path delivered, also from below the number that
anchored the window, and from the anchor on those that none did. -/
def State.leaveWindow (s : State) (i part foot : Nat) (protect : Bool) : State :=
  let x := s.part i part
  let d := (foot + 2 ^ 32 - x.base) % 2 ^ 32
  let cnt := if 2 ^ 31 ≤ d then 0 else d
  let inside (e : Nat × Option Nat × Option Nat) : Bool := decide ((e.1 + 2 ^ 32 - foot) % 2 ^ 32 < 2 ^ 31)
  let gone := x.seen.filter fun e => !inside e
  let known := gone.filter fun e => decide ((e.1 + 2 ^ 32 - x.base) % 2 ^ 32 < cnt)
  let s := s.setPart i part { x with base := if cnt = 0 then x.base else foot, seen := x.seen.filter inside }
  let s := s.count (Od.strBothMissing.inst i) (cnt - known.length)
  if protect then
    (s.count (Od.strPathAMissing.inst i) (gone.filter fun e => e.2.1.isNone).length).count (Od.strPathBMissing.inst i)
      (gone.filter fun e => e.2.2.isNone).length
  else s

/-- An accepted number: its arrival by path. -/
def PartSt.accept (x : PartSt) (seq path now : Nat) : PartSt :=
  { x with seen := x.seen ++ [(seq, if path = 0 then some now else none, if path = 0 then none else some now)]
           lastAccept := some now, behindSince := none }

/-- The merge of one copy (R155): true where it is the first copy and is written. -/
def State.merge (s : State) (i part path seq : Nat) (protect : Bool) : State × Bool :=
  let x := s.part i part
  let anchored (y : PartSt) : PartSt := ({ y with highest := some seq, base := seq, seen := [] } : PartSt).accept seq path s.now
  match x.highest with
  | none => (s.setPart i part (anchored x), true)
  | some hi =>
    let d := (hi + 2 ^ 32 - seq) % 2 ^ 32
    if mergeWindow ≤ d ∧ d < 2 ^ 31 then
      let since := x.behindSince.getD s.now
      if since + s.reg (Od.strStreamTimeout.inst i) * 1000000 ≤ s.now then
        ((s.count (Od.strMergeResets.inst i)).setPart i part (anchored x), true)
      else ((s.count (Od.strSkewDrops.inst i)).setPart i part { x with behindSince := some since }, false)
    else if 2 ^ 31 ≤ d then
      let s := s.leaveWindow i part ((seq + 2 ^ 32 - (mergeWindow - 1)) % 2 ^ 32) protect
      let y : PartSt := { s.part i part with highest := some seq }
      (s.setPart i part (y.accept seq path s.now), true)
    else
      match x.seen.find? (fun e => e.1 == seq) with
      | none => (s.setPart i part (x.accept seq path s.now), true)
      | some e =>
        let e' : Nat × Option Nat × Option Nat :=
          if path = 0 then (e.1, some (e.2.1.getD s.now), e.2.2) else (e.1, e.2.1, some (e.2.2.getD s.now))
        let s := s.setPart i part { x with seen := x.seen.map fun f => if f.1 = seq then e' else f }
        match e.2, e'.2 with
        | (some _, some _), _ => (s, false)
        | _, (some a, some b) => (s.noteSkew i ((b : Int) - (a : Int)), false)
        | _, _ => (s, false)

/-- An accepted packet moves the stream to RECEIVING (R156). -/
def State.streamAccepts (s : State) (i : Nat) : State :=
  let x := s.stream i
  let s := s.setStream i { x with lastAccept := some s.now }
  if x.state = 1 then s.setStreamState i 2
  else if x.state = 3 then (s.setStreamState i 2).raise 0x3002 (natBE 2 i)
  else s

/-! ## Canvas slots (R157) -/

/-- The pixel groups of one SRD at its canvas line and offset (R151). -/
def Slot.writeSrd (c : Slot) (part : Bytes) (d : Srd) : Slot :=
  let (n, b) := groupDims c.sampling c.depth
  let y := u16 part 2 + d.row
  let g0 := (u16 part 0 + d.offset) / n
  { c with groups := ((records b d.data).zipIdx).foldl (fun g (v, k) => kvSet (y * 65536 + g0 + k) v g) c.groups }

/-- Every line of the part on canvas line `y` holds all its pixels. -/
def Slot.partLine (c : Slot) (part : Bytes) (y : Nat) : Bool :=
  let n := (groupDims c.sampling c.depth).1
  let lo := y * 65536 + u16 part 0 / n
  let cnt := u16 part 4 / n
  decide ((c.groups.filter fun g => decide (lo ≤ g.1) && decide (g.1 < lo + cnt)).length = cnt)

/-- A canvas line is valid once every part that crosses it has completed it (R154). -/
def Slot.lineValid (c : Slot) (y : Nat) : Bool :=
  (records 8 c.parts).all fun p => !(decide (u16 p 2 ≤ y) && decide (y < u16 p 2 + u16 p 6)) || c.partLine p y

/-- A video frame is complete once every line of every part is (R154). -/
def Slot.complete (c : Slot) : Bool := (List.range c.height).all c.lineValid

/-- The lines that are not valid (R154). -/
def Slot.badLines (c : Slot) : List Nat := (List.range c.height).filter fun y => !c.lineValid y

/-- Slots in use: being written, in a frame in flight, or kept for a repeat (R157). -/
def State.slotsUsed (s : State) (i : Nat) : Nat :=
  let id (c : Slot) : Nat × Nat := (c.frame, c.count)
  let held := (s.tl.frames.filterMap fun f => (f.canvas.getD i none).map id) ++ (match (s.stream i).lastCanvas with | some c => [id c] | none => [])
  (held ++ (s.stream i).slots.map id).eraseDups.length

/-- Write an accepted packet into the slot of its video frame (R153, R157). -/
def State.writeVideo (s : State) (i part c : Nat) (f : Frame) (p : VideoPkt) : State :=
  let x := s.stream i
  match partRec f.cfg i part with
  | none => s
  | some r =>
    let fill (v : Slot) : Slot := p.srds.foldl (fun a d => a.writeSrd r d) v
    if x.slots.any (fun v => v.count == c && v.frame == f.k) then
      s.setStream i { x with slots := x.slots.map fun v => if v.count = c ∧ v.frame = f.k then fill v else v }
    else if x.noSlot.contains (c, f.k) then s
    else if 11 ≤ s.slotsUsed i then
      (s.setStream i { x with noSlot := x.noSlot ++ [(c, f.k)] }).count (Od.strNoSlot.inst i)
    else
      let v : Slot := { stream := i, frame := f.k, count := c, rtp := p.timestamp, width := f.cfg.num (Od.strWidth.inst i)
                        height := f.cfg.num (Od.strHeight.inst i), sampling := f.cfg.num (Od.strSampling.inst i)
                        depth := f.cfg.num (Od.strDepth.inst i), parts := f.cfg.tab (Od.strParts.inst i) }
      s.setStream i { x with slots := x.slots ++ [fill v] }

/-- An accepted first copy is written, or dropped as late or early (R153). -/
def State.placeVideo (s : State) (i part c : Nat) (fr : Option Frame) (p : VideoPkt) : State :=
  if s.reg Od.timelineState = 0 then s
  else match fr with
    | none => s.count (if s.gapEarly i c then Od.strEarlyPkts.inst i else Od.strLatePkts.inst i)
    | some f =>
      if f.closed ∨ f.abandoned then s.count (Od.strLatePkts.inst i)
      else if s.now < tickTime f.rate f.k then s.count (Od.strEarlyPkts.inst i)
      else s.writeVideo i part c f p

/-- A video packet on its flow (R151–R156), judged by the settings of the frame whose window holds it; where none does, by those of
CURRENT_FRAME. -/
def State.takeVideo (s : State) (r : Bytes) (p : VideoPkt) : State :=
  let i := u8 r 0
  let part := u8 r 1
  let path := u8 r 2
  let c := mediaCount s.now p.timestamp
  let fr := if s.reg Od.timelineState = 0 then none else s.windowFrame i c
  let cfg := match fr with | some f => f.cfg | none => s.tl.cur
  let protect := cfg.bool (Od.strProtect.inst i)
  if cfg.bool (Od.strEnable.inst i) = false ∨ (path = 1 ∧ protect = false) then s
  else if videoOk cfg i part p = false then s.count (Od.strFormatErr.inst i)
  else
    let s := s.touchPath i part path
    match s.merge i part path ((p.extSeq * 65536 + p.seq16) % 2 ^ 32) protect with
    | (s, false) => s
    | (s, true) => (s.streamAccepts i).placeVideo i part c fr p

/-- VIDEO_PACKET (R151–R157). -/
def execVideoPacket (dt port : Nat) (p : VideoPkt) (s : State) : Host.Outcome State Fault Refusal :=
  let t := s.advance dt
  finish s (if t.domOn 9 ∧ t.portRuns port then (match t.flowOf port p with | some r => t.takeVideo r p | none => t) else t)

/-- PATH_TIMEOUT (R156): a path has delivered nothing for STREAM_TIMEOUT. -/
def execPathTimeout (stream part path : Nat) (s : State) : Host.Outcome State Fault Refusal :=
  let x := s.part stream part
  let y := x.paths.getD path {}
  finish s (match y.lastRx with
    | some t =>
      if y.active ∧ s.domOn 9 then
        let s := s.goTo (t + s.reg (Od.strStreamTimeout.inst stream) * 1000000)
        (s.setPart stream part { x with paths := setAt x.paths path { y with active := false } }).raise 0x3003
          (natBE 2 stream ++ natBE 1 part ++ natBE 1 path)
      else s
    | none => s)

/-- STREAM_TIMEOUT (R156): no packet accepted for STREAM_TIMEOUT. -/
def execStreamTimeout (stream : Nat) (s : State) : Host.Outcome State Fault Refusal :=
  let x := s.stream stream
  finish s (match x.lastAccept with
    | some t =>
      if x.state = 2 ∧ s.domOn 9 then
        ((s.goTo (t + s.reg (Od.strStreamTimeout.inst stream) * 1000000)).setStreamState stream 3).raise 0x3001 (natBE 2 stream)
      else s
    | none => s)

/-! ## The close (R154, R163) and settings -/

/-- ENABLE of the streams as CURRENT_FRAME's settings have it (R156). Only the stream's state follows it: canvases of open frames, merge
state and paths stay as they are (log entry 131). -/
def State.applyStreams (s : State) : State :=
  ([0, 1] : List Nat).foldl (fun s i =>
    let on := s.tl.cur.bool (Od.strEnable.inst i)
    if on ∧ (s.stream i).state = 0 then s.setStreamState i 1
    else if on = false ∧ (s.stream i).state ≠ 0 then s.setStreamState i 0
    else s) s

/-- The newest of a list of slots by media time. -/
def newestSlot (l : List Slot) : Option Slot :=
  l.foldl (fun (a : Option Slot) v => match a with | some w => if w.count < v.count then some v else a | none => some v) none

/-- The canvas frame `k` takes from one stream (R154, R156); with the stream disabled it has none. -/
def State.closeStream (s : State) (f : Frame) (i : Nat) : State × Option Slot :=
  let x := s.stream i
  let opened (k : Nat) : Bool := k != f.k && s.tl.frames.any fun g => g.k == k && !g.closed
  let keep (s : State) (c : Option Slot) : State × Option Slot :=
    (s.setStream i { s.stream i with slots := (s.stream i).slots.filter (fun v => opened v.frame), lastCanvas := c
                                     noSlot := (s.stream i).noSlot.filter (fun v => opened v.2) }, c)
  if f.cfg.bool (Od.strEnable.inst i) = false then keep s none
  else
    let mine := x.slots.filter fun v => v.frame == f.k
    let done := mine.filter Slot.complete
    let lost := x.state == 3
    let repeat_ (s : State) : State × Option Slot :=
      let s := s.count (Od.strRepeated.inst i)
      let s := if mine.length ≠ done.length then
          (s.count (Od.strIncomplete.inst i)).raiseOnce 0x3006 0 (natBE 2 i ++ natBE 4 (frameNo f.k)) else s
      keep s x.lastCanvas
    let take (s : State) (v : Slot) : State × Option Slot :=
      keep ((s.count (Od.strFramesTaken.inst i)).setReg (Od.strSelectedRtp.inst i) v.rtp) (some v)
    if lost then (if s.reg (Od.strLossAction.inst i) = 1 then keep s none else repeat_ s)
    else match newestSlot done with
      | some v => take s v
      | none =>
        if f.cfg.num (Od.strIncompletePolicy.inst i) = 1 then
          match newestSlot mine with
          | some v => take (s.count (Od.strAcceptedIncomplete.inst i)) { v with invalid := v.badLines }
          | none => repeat_ s
        else repeat_ s

/-- Universe data of a frame: the merged slots of every universe of SACN_IN (R163). -/
def State.closeUniverses (s : State) (cfg : Store) : List (Nat × Bytes) :=
  (cfg.recs Od.sacnIn).map fun r => (u16 r 0, padTo 512 (kvGetD (u16 r 0) {} s.intake.univs).slots)

/-- Intake closes a frame: canvases and universe data (R154, R163). -/
def State.intakeClose (s : State) (f : Frame) : State × Frame :=
  let (s, a) := s.closeStream f 0
  let (s, b) := s.closeStream f 1
  (s, { f with closed := true, canvas := [a, b], univ := s.closeUniverses f.cfg })

/-- Intake as PD_INTAKE comes out of reset. -/
def State.startIntake (s : State) : State :=
  let t := { s with intake := {} }
  (t.setReg (Od.strState.inst 0) 0).setReg (Od.strState.inst 1) 0

/-! ## sACN reception (R158–R162) -/

def State.univ (s : State) (u : Nat) : UnivSt := kvGetD u {} s.intake.univs
def State.setUniv (s : State) (u : Nat) (x : UnivSt) : State :=
  { s with intake := { s.intake with univs := kvSet u x s.intake.univs } }

/-- The SACN_IN record of a universe. -/
def State.sacnInRec (s : State) (u : Nat) : Option Bytes := s.tl.cur.recOf Od.sacnIn u

/-- The merge among the live sources with the highest priority (R160); with none live the slots stay. -/
def mergeUniv (ltp : Bool) (x : UnivSt) : UnivSt :=
  let live := x.sources.filter SacnSource.live
  match live with
  | [] => x
  | _ =>
    let top := live.foldl (fun m a => max m a.priority) 0
    let best := live.filter fun a => a.priority == top
    if ltp then
      match best.foldl (fun (m : Option SacnSource) a => match m with | some b => if b.stamp ≤ a.stamp then some a else m | none => some a) none with
      | some a => { x with slots := a.slots }
      | none => x
    else { x with slots := (List.range 512).map fun i => BitVec.ofNat 8 (best.foldl (fun m a => max m (u8 a.slots i)) 0) }

/-- The contribution of a packet (R159). -/
def contribution (p : SacnPkt) : Bytes := padTo 512 (p.slots.take (p.count - 1))

/-- Take a packet's values into its source (R160). -/
def SacnSource.take (a : SacnSource) (p : SacnPkt) (stamp : Nat) : SacnSource :=
  { a with priority := p.priority, slots := contribution p, live := true, pending := none, stamp := stamp }

def State.isLtp (s : State) (u : Nat) : Bool := match s.sacnInRec u with | some r => u8 r 2 == 1 | none => false

/-- A source is gone; the last one gone applies LOSS (R160, R161). -/
def State.dropSource (s : State) (u cid : Nat) : State :=
  let x := s.univ u
  let x : UnivSt := { x with sources := x.sources.filter (fun a => a.cid != cid), overflowed := false }
  if x.sources.isEmpty then
    let zero := match s.sacnInRec u with | some r => u8 r 3 == 1 | none => false
    (s.setUniv u { x with slots := if zero then List.replicate 512 0#8 else x.slots }).raise 0x3011 (natBE 2 u)
  else s.setUniv u x

/-- An accepted data packet of a known source (R160, R162). One with Stream_Terminated frees the entry at once, so its own values take
no part in the merge that follows it (log entry 132). -/
def State.sacnAccept (s : State) (u : Nat) (p : SacnPkt) : State :=
  let s := s.count Od.sacnPkts
  let x := s.univ u
  let stamp := s.intake.stamp + 1
  let s := { s with intake := { s.intake with stamp := stamp } }
  let upd (a : SacnSource) : SacnSource :=
    if a.cid ≠ p.cid then a
    else
      let a := { a with seq := p.seq }
      if p.sync = 0 then { a.take p stamp with syncAddr := 0, freeRun := false }
      else
        let a : SacnSource :=
          if a.syncAddr = p.sync then a
          else { a with syncAddr := p.sync, freeRun := false, syncSince := kvGetD p.sync s.now s.intake.syncAt }
        if a.freeRun then a.take p stamp else { a with pending := some (p, stamp) }
  let s := if p.terminated then s.dropSource u p.cid else s.setUniv u { x with sources := x.sources.map upd }
  s.setUniv u (mergeUniv (s.isLtp u) (s.univ u))

/-- The most recently accepted of the packets pending, and its place in the order of acceptance, merge in their sources (R160, R162). -/
def SacnSource.release (a : SacnSource) : SacnSource :=
  match a.pending with | some (p, n) => a.take p n | none => a

/-- A data packet of a listed universe (R159, R160). -/
def State.sacnData (s : State) (u : Nat) (p : SacnPkt) : State :=
  let x := s.univ u
  let s := s.setUniv u { x with sources := x.sources.map fun a => if a.cid = p.cid then { a with lastRx := s.now } else a }
  let x := s.univ u
  if p.preview then s.count Od.previewDrops
  else if p.startCode ≠ 0 then s.count Od.startCodeDrops
  else match x.sources.find? (fun a => a.cid == p.cid) with
    | some a =>
      let d := toS 8 (p.seq + 256 - a.seq % 256)
      if -20 ≤ d ∧ d ≤ 0 then s.count Od.seqDrops else s.sacnAccept u p
    | none =>
      if 4 ≤ x.sources.length then
        let s := s.count Od.sourceOverflow
        if x.overflowed then s else (s.setUniv u { x with overflowed := true }).raise 0x3010 (natBE 2 u)
      else
        let a : SacnSource := { cid := p.cid, priority := p.priority, seq := p.seq, slots := [], live := false, lastRx := s.now, syncSince := s.now }
        (s.setUniv u { x with sources := x.sources ++ [a] }).sacnAccept u p

/-- A lane takes an E1.31 packet sent to a group address of its universe, or to the lane's own address (R158). -/
def State.sacnTakes (s : State) (port dst univ : Nat) : Bool :=
  s.sacnLane port && ((sacnGroups univ).contains dst || ownIp port dst)

/-- SACN_DATA_PACKET (R158–R162). -/
def execSacnDataPacket (dt port : Nat) (p : SacnPkt) (s : State) : Host.Outcome State Fault Refusal :=
  let t := s.advance dt
  finish s (
    if t.domOn 9 = false ∨ t.portRuns port = false ∨ t.sacnTakes port p.dst p.univ = false then t
    else if p.wellFormed = false ∨ 200 < p.priority ∨ 513 < p.count then t.count Od.sacnFormatErr
    else match t.sacnInRec p.univ with
      | none => t.count Od.unknownUniv
      | some _ => t.sacnData p.univ p)

/-- A synchronisation packet for an address: every packet pending on it is merged in one step (R162). -/
def State.sacnSync (s : State) (addr : Nat) : State :=
  let fix (a : SacnSource) : SacnSource :=
    if a.syncAddr ≠ addr then a else ({ a with freeRun := false, syncSince := s.now } : SacnSource).release
  let one (ux : Nat × UnivSt) : Nat × UnivSt :=
    let x : UnivSt := { ux.2 with sources := ux.2.sources.map fix }
    (ux.1, if ux.2.sources.any (fun a => a.syncAddr == addr && a.pending.isSome) then mergeUniv (s.isLtp ux.1) x else x)
  { s with intake := { s.intake with univs := s.intake.univs.map one, syncAt := kvSet addr s.now s.intake.syncAt } }

/-- SACN_SYNC_PACKET (R162): its sequence is checked as R159 checks data. -/
def execSacnSyncPacket (dt : Nat) (rcv : Landing) (address seq cid : Nat) (s : State) : Host.Outcome State Fault Refusal :=
  let t := s.advance dt
  finish s (
    if t.domOn 9 = false ∨ t.portRuns rcv.port = false ∨ t.sacnTakes rcv.port rcv.dst address = false then t
    else
      let old := (t.intake.syncSeq.find? fun e => e.1 == address && e.2.1 == cid).map (·.2.2)
      let d : Int := match old with | some q => toS 8 (seq + 256 - q % 256) | none => 1
      if -20 ≤ d ∧ d ≤ 0 then t.count Od.seqDrops
      else
        let l := (t.intake.syncSeq.filter fun e => !(e.1 == address && e.2.1 == cid)) ++ [(address, cid, seq)]
        ({ t with intake := { t.intake with syncSeq := l } }).sacnSync address)

/-- SACN_SOURCE_TIMEOUT (R160, R161). -/
def execSacnSourceTimeout (univ cid : Nat) (s : State) : Host.Outcome State Fault Refusal :=
  finish s (match (s.univ univ).sources.find? (fun a => a.cid == cid) with
    | some a =>
      if s.domOn 9 then
        (((s.goTo (a.lastRx + s.reg Od.sacnSourceTimeout * 1000000)).count Od.sourceLosses)).dropSource univ cid
      else s
    | none => s)

/-- SACN_SYNC_TIMEOUT (R162): the source's packets merge as they arrive until the next synchronisation packet. -/
def execSacnSyncTimeout (univ cid : Nat) (s : State) : Host.Outcome State Fault Refusal :=
  finish s (match (s.univ univ).sources.find? (fun a => a.cid == cid) with
    | some a =>
      if s.domOn 9 ∧ a.syncAddr ≠ 0 ∧ a.freeRun = false then
        let t := s.goTo (a.syncSince + s.reg Od.sacnSyncTimeout * 1000000)
        let x := t.univ univ
        ((t.setUniv univ { x with sources := x.sources.map fun b => if b.cid = cid then { b with freeRun := true } else b }).count
          Od.syncTimeouts).raise 0x3012 (natBE 2 a.syncAddr)
      else s
    | none => s)

/-- SACN_STATUS (R167): live sources and winning priority of each SACN_IN record. -/
def State.sacnStatus (s : State) : Bytes :=
  (s.tl.cur.recs Od.sacnIn).flatMap fun r =>
    let live := (s.univ (u16 r 0)).sources.filter SacnSource.live
    slice r 0 2 ++ natBE 1 live.length ++ natBE 1 (live.foldl (fun m a => max m a.priority) 0)

/-- PATH_STATE (R166). -/
def State.pathState (s : State) (i : Nat) : Nat :=
  let n := (s.tl.cur.recs (Od.strParts.inst i)).length
  let on (path : Nat) : Bool := (List.range n).all fun p => (((s.part i p).paths.getD path {}).active)
  b2n (on 0) + 2 * b2n (on 1 && s.tl.cur.bool (Od.strProtect.inst i))

/-! ## sACN output (R164) -/

/-- SACN_CID: derived from BASE_MAC until it is written (R167; the derivation is open, log entry 56). -/
def State.sacnCid (s : State) : Bytes :=
  match kvGet Od.sacnCid.key s.od.regs.tabs with
  | some b => padTo 16 b
  | none => natBE 16 (Config.cidOf Config.baseMac)

/-- Root layer of an E1.31 packet (ANSI E1.31-2018's layout, PRESUMED log entry 20). -/
def e131Root (cid : Bytes) (vector : Nat) (rest : Bytes) : Bytes :=
  natBE 2 0x0010 ++ natBE 2 0 ++ [0x41#8, 0x53#8, 0x43#8, 0x2D#8, 0x45#8, 0x31#8, 0x2E#8, 0x31#8, 0x37#8, 0#8, 0#8, 0#8] ++
    natBE 2 (0x7000 + 22 + rest.length) ++ natBE 4 vector ++ padTo 16 cid ++ rest

/-- An E1.31 data packet. -/
def e131Data (cid name : Bytes) (prio sync seq : Nat) (terminated : Bool) (univ : Nat) (slots : Bytes) : Bytes :=
  let dmp := natBE 2 (0x7000 + 11 + slots.length) ++ natBE 1 0x02 ++ natBE 1 0xA1 ++ natBE 2 0 ++ natBE 2 1 ++
    natBE 2 (slots.length + 1) ++ natBE 1 0 ++ slots
  e131Root cid 4 (natBE 2 (0x7000 + 77 + dmp.length) ++ natBE 4 2 ++ padTo 64 name ++ natBE 1 prio ++ natBE 2 sync ++ natBE 1 seq ++
    natBE 1 (64 * b2n terminated) ++ natBE 2 univ ++ dmp)

/-- An E1.31 synchronisation packet. -/
def e131Sync (cid : Bytes) (seq addr : Nat) : Bytes :=
  e131Root cid 8 (natBE 2 0x700B ++ natBE 4 1 ++ natBE 1 seq ++ natBE 2 addr ++ natBE 2 0)

/-- Give a gated sACN datagram to a lane's MAC (R164). Its queue is TC 1 (log entry 56). -/
def State.sacnDatagram (s : State) (lane dst : Nat) (b : Bytes) : State :=
  let (hdr, l3) := udpCarrier lane dst 5568 5568 b.length
  s.submitTx lane { tc := 1, hdr := hdr, pay := b, l3 := l3, gated := true }

/-- The next sequence number of an output universe; universe 65536 + address stands for synchronisation packets. -/
def State.nextSacnSeq (s : State) (u : Nat) : State × Nat :=
  let n := kvGetD u 0 s.intake.outSeq
  ({ s with intake := { s.intake with outSeq := kvSet u ((n + 1) % 256) s.intake.outSeq } }, n)

/-- One data packet of an output universe (R164): its SACN_OUT record, slots, and Stream_Terminated. -/
def State.sendUniverse (s : State) (cfg : Store) (r slots : Bytes) (terminated : Bool) : State :=
  let u := u16 r 0
  let (s, seq) := s.nextSacnSeq u
  let dst := beNat (slice r 6 16)
  let dst := if dst = 0 then (sacnGroups u).headD 0 else dst
  s.sacnDatagram (u8 r 2) dst (e131Data s.sacnCid (s.regTab Od.sourceName) (u8 r 5) (cfg.num Od.sacnOutSync) seq terminated u slots)

/-- The synchronisation packet that follows the last data packet of a frame on a lane (R164). -/
def State.sendSacnSync (s : State) (cfg : Store) (lane : Nat) : State :=
  let a := cfg.num Od.sacnOutSync
  if a = 0 then s
  else
    let (s, seq) := s.nextSacnSeq (65536 + a)
    s.sacnDatagram lane ((sacnGroups a).headD 0) (e131Sync s.sacnCid seq a)

end Sys2Proof.Machine
end

