-- ==== Sys2Proof/Machine/Updates.lean ====
section
/-!
DEFINITION. Field updates (spec/19): sessions, pieces, finish, activation requests, confirmation. The service restart and the
fallback, which start the device again, stand in Boot.lean.
-/
namespace Sys2Proof.Machine

/-- P: the piece size by PIECE_SIZE (R430). -/
def pieceSize (hdr : Bytes) : Nat := if u8 hdr 36 = 1 then 16384 else 4096

def State.image (s : State) (i : Nat) : ImageSlot := s.upd.slots.getD i {}

def State.setImage (s : State) (i : Nat) (x : ImageSlot) : State := { s with upd := { s.upd with slots := setAt s.upd.slots i x } }

/-- The boot record (R438): the slot it names, whether that is on trial, TRIES. -/
def State.bootRecord (s : State) : Bytes := natBE 1 s.upd.running ++ natBE 1 (b2n s.upd.trial) ++ natBE 1 (s.image s.upd.running).tries

/-- The boot record as it now stands goes to its older copy (R438). -/
def State.writeBoot (s : State) : State := { s.envmWrite with nv := { s.nv with boot := s.nv.boot.write s.bootRecord } }

/-- ROLLBACK_FLOOR raised to an index that is higher, in its older copy (R443). -/
def State.raiseFloor (s : State) (index : Nat) : State :=
  if s.upd.floor < index then
    { s.envmWrite with nv := { s.nv with floors := s.nv.floors.write (natBE 4 index) }, upd := { s.upd with floor := index } }
  else s

/-- OD_SCHEMA and IMAGE_VERSION of the running image (R55). -/
def State.schema (s : State) : Nat := (s.image s.upd.running).schema
def State.version (s : State) : Nat := (s.image s.upd.running).version

/-- The checks of R433 by DETAIL, 1 to 6; 0 where the header passes. -/
def State.headerDetail (s : State) (mac : Bytes) (h : Bytes) : Nat :=
  let p := pieceSize h
  if u32 h 0 ≠ 0x434C5949 ∨ u16 h 4 ≠ 1 then 1
  else if u32 h 8 ≠ s.reg Od.identity ∨ slice h 12 4 ≠ s.regTab Od.siliconRev then 2
  else if hmac mac (h.take 480) ≠ slice h 480 32 then 3
  else if u32 h 20 < s.upd.floor then 4
  else if 1 < u8 h 36 ∨ u32 h 32 ≠ ceilDiv (u32 h 28) p ∨ 25165824 < u32 h 32 * (p + 16) + 512 + 4096 then 5
  else if s.schema < u16 h 26 then 6
  else 0

/-- Reply payload of UPDATE_OPEN (R432). -/
def openReply (session detail held : Nat) : Bytes := natBE 2 session ++ natBE 1 detail ++ natBE 1 0 ++ natBE 4 held

/-- UPDATE_OPEN (R433): state, status, reply payload. -/
def State.updateOpen (s : State) (p : Bytes) : State × Nat × Bytes :=
  let refuse (s : State) (st detail : Nat) : State × Nat × Bytes := (s.count Od.headersRefused, st, openReply 0 detail 0)
  let h := slice p 4 512
  if p.length ≠ 516 then (s, stType, openReply 0 0 0)
  else
    match (s.keyReg 2).key? with
    | none => refuse s stKeyAbsent 0
    | some mac =>
      let d := s.headerDetail mac h
      if d ≠ 0 then refuse s stImageRefused d
      else
        let cs := u8 p 0
        let k := s.slot cs
        if 63 < cs ∨ k.state = 0 ∨ k.usage ≠ 3 then refuse s stKeyAbsent 0
        else if k.state ≠ 1 then refuse s k.status 0
        else
          match s.useSlot cs with
          | (s, none) => refuse s stKeyBad 0
          | (s, some key) =>
            if keyKcv key ≠ u32 h 40 then refuse s stImageRefused 7
            else
              match s.upd.session with
              | some x =>
                if x.header ≠ h ∨ s.upd.trial then refuse s stBusy 0
                else
                  ({ s with upd := { s.upd with session := some { x with contentSlot := cs } } }, stOk,
                    openReply x.number 0 x.held.length)
              | none =>
                if s.upd.trial then refuse s stBusy 0
                else
                  let n := s.upd.nextSession
                  let i := 1 - s.upd.running
                  let x : Session := { number := n, header := h, contentSlot := cs, slot := i, opened := s.now, held := [], parts := [] }
                  let im : ImageSlot := { state := 1, version := u32 h 16, rollback := u32 h 20, schema := u16 h 24, header := h }
                  let s := s.setImage i im
                  ({ s with upd := { s.upd with session := some x, nextSession := (n + 1) % 65536, activation := none } }, stOk,
                    openReply n 0 0)

/-! ## Pieces (R431, R434) -/

/-- Parts laid over `total` zero bytes, in order of arrival. -/
def overlayParts (total : Nat) (ps : List (Nat × Bytes)) : Bytes :=
  ps.foldl (fun b p => b.take p.1 ++ p.2 ++ b.drop (p.1 + p.2.length)) (List.replicate total 0#8)

/-- The parts cover every byte from `pos` to `total` − 1. -/
def coversF (ps : List (Nat × Bytes)) (total : Nat) : Nat → Nat → Bool
  | 0, pos => decide (total ≤ pos)
  | fuel + 1, pos =>
    if total ≤ pos then true
    else
      match ps.find? (fun p => decide (p.1 ≤ pos) && decide (pos < p.1 + p.2.length)) with
      | some p => coversF ps total fuel (p.1 + p.2.length)
      | none => false

def covers (ps : List (Nat × Bytes)) (total : Nat) : Bool := coversF ps total (ps.length + 1) 0

/-- The tag of piece i as received (R431). -/
def pieceOk (key hdr : Bytes) (i : Nat) (b : Bytes) : Bool :=
  let ct := b.take (pieceSize hdr)
  gcmTag key (slice hdr 44 8 ++ natBE 4 i) (slice hdr 8 16 ++ natBE 4 i) ct == b.drop (pieceSize hdr)

/-- The plaintext of piece i. -/
def pieceText (key hdr : Bytes) (i : Nat) (b : Bytes) : Bytes :=
  gcmText key (slice hdr 44 8 ++ natBE 4 i) (b.take (pieceSize hdr))

/-- Reply payload of UPDATE_PIECE (R432). -/
def pieceReply (index result : Nat) : Bytes := natBE 4 index ++ natBE 1 result ++ natBE 3 0

/-- The parts of a piece with one more: stored, or the whole piece checked and held. -/
def State.pieceParts (s : State) (x : Session) (index : Nat) (ps : List (Nat × Bytes)) (total : Nat) : State × Nat × Bytes :=
  let put (s : State) (x : Session) : State := { s with upd := { s.upd with session := some x } }
  if covers ps total = false then (put s { x with parts := kvSet index ps x.parts }, stOk, pieceReply index 0)
  else
    let k := s.slot x.contentSlot
    if k.usable = false ∨ k.usage ≠ 3 then
      (put s { x with parts := kvSet index ps x.parts }, if k.usage ≠ 3 then stKeyAbsent else k.status, pieceReply index 0)
    else
      match s.useSlot x.contentSlot with
      | (s, none) => (put s { x with parts := kvSet index ps x.parts }, stKeyBad, pieceReply index 0)
      | (s, some key) =>
        let b := overlayParts total ps
        if pieceOk key x.header index b then
          let im := s.image x.slot
          let s := s.setImage x.slot { im with pieces := kvSet index b im.pieces }
          (put s { x with parts := kvDel index x.parts, held := x.held ++ [index] }, stOk, pieceReply index 1)
        else ((put s { x with parts := kvDel index x.parts }).count Od.piecesBad, stPieceBad, pieceReply index 0)

/-- UPDATE_PIECE (R434). -/
def State.updatePiece (s : State) (p : Bytes) : State × Nat × Bytes :=
  let index := u32 p 4
  let off := u32 p 8
  let data := p.drop 12
  if p.length < 12 ∨ u16 p 2 ≠ data.length then (s, stType, pieceReply index 0) else
  match s.upd.session with
  | none => (s, stRange, pieceReply index 0)
  | some x =>
    let total := pieceSize x.header + 16
    if u16 p 0 ≠ x.number ∨ data.length = 0 ∨ 1024 < data.length ∨
        u32 x.header 32 ≤ index ∨ total < off + data.length then (s, stRange, pieceReply index 0)
    else if x.held.contains index then (s, stOk, pieceReply index 2)
    else
      match kvGet index x.parts with
      | none =>
        if 8 ≤ x.parts.length then (s, stBusy, pieceReply index 0)
        else s.pieceParts x index [(off, data)] total
      | some ps => s.pieceParts x index (ps ++ [(off, data)]) total

/-- The first piece not held. -/
def Session.missing (x : Session) : Option Nat := (List.range (u32 x.header 32)).find? fun i => !x.held.contains i

/-- Reply payload of UPDATE_FINISH (R432). -/
def finishReply (detail index : Nat) : Bytes := natBE 1 detail ++ natBE 3 0 ++ natBE 4 index

/-- Erase the session and the image it was filling (R435, R436). -/
def State.eraseSession (s : State) : State :=
  match s.upd.session with
  | none => s
  | some x => let s := s.setImage x.slot {}
              { s with upd := { s.upd with session := none } }

/-- UPDATE_FINISH (R436). -/
def State.updateFinish (s : State) (p : Bytes) : State × Nat × Bytes :=
  if p.length ≠ 4 then (s, stType, finishReply 0 0) else
  match s.upd.session with
  | none => (s, stRange, finishReply 0 0)
  | some x =>
    if u16 p 0 ≠ x.number then (s, stRange, finishReply 0 0)
    else
      match x.missing with
      | some i => (s, stRange, finishReply 1 i)
      | none =>
        let k := s.slot x.contentSlot
        if k.usable = false ∨ k.usage ≠ 3 then (s, if k.usage ≠ 3 then stKeyAbsent else k.status, finishReply 0 0)
        else
          match s.useSlot x.contentSlot with
          | (s, none) => (s, stKeyBad, finishReply 0 0)
          | (s, some key) =>
            let im := s.image x.slot
            match im.pieces.find? (fun q => !pieceOk key x.header q.1 q.2) with
            | some q =>
              ({ s with upd := { s.upd with session := some { x with held := x.held.filter (· != q.1) } } }.setImage x.slot
                { im with pieces := kvDel q.1 im.pieces }, stPieceBad, finishReply 0 q.1)
            | none =>
              let text := (im.pieces.flatMap fun q => pieceText key x.header q.1 q.2).take (u32 x.header 28)
              if sha256 text ≠ slice x.header 64 32 then (s.eraseSession, stImageRefused, finishReply 8 0)
              else
                let s := s.setImage x.slot { im with state := 2, tries := 0, wrap := kwWrap (natBE 32 Config.hardwareKey) key }
                ({ s with upd := { s.upd with session := none } }.raise 0xA001 (natBE 4 im.version), stOk, finishReply 0 0)

/-- The staged slot, if any. -/
def State.staged? (s : State) : Option Nat := ([0, 1] : List Nat).find? fun i => (s.image i).state == 2

/-- UPDATE_ACTIVATE (R437): scheduled, replacing an earlier one. AT 0 is the next tick. -/
def State.updateActivate (s : State) (p : Bytes) : State × Nat :=
  let at_ := beNat (slice p 2 10)
  let flags := u8 p 0 % 4
  if p.length ≠ 16 then (s, stType)
  else if s.staged?.isNone then (s, stNotStaged)
  else if timeOk at_ = false ∨ (at_ ≠ 0 ∧ nsOfTime at_ < s.now) ∨ s.now + 86400000000000 < nsOfTime at_ then
    (s, stRange)
  else if s.tow.state = 3 ∧ s.pair ∧ flags = 0 then (s, stBusy)
  else ({ s with upd := { s.upd with activation := some { flags := flags, at_ := if at_ = 0 then s.now + 1 else nsOfTime at_ } } }, stOk)

/-- LAST_RESULT (R445). -/
def State.resultRecord (s : State) (im : ImageSlot) (result reason : Nat) : Bytes :=
  natBE 4 im.version ++ natBE 1 result ++ natBE 1 reason ++ natBE 1 im.tries ++ natBE 2 s.upd.dropped ++ natBE 10 (timeOfNs s.now)

/-- Confirmation (R443). -/
def State.confirmTrial (s : State) : State :=
  if s.upd.trial = false then s
  else
    let r := s.upd.running
    let im := s.image r
    let s := (s.setImage r { im with state := 4 }).setImage (1 - r) { s.image (1 - r) with state := 5 }
    let s := { s with upd := { s.upd with trial := false, oldArea := none, tryStart := none, calmSince := none
                                          lastResult := s.resultRecord im 0 0 } }
    let s := s.writeBoot.raiseFloor im.rollback
    s.raise 0xA003 (natBE 4 im.version ++ natBE 4 s.upd.floor)

/-- A start whose boot record says CONFIRMED while the floor is below the image's ROLLBACK_INDEX completes the floor's write (R443). -/
def State.completeFloor (s : State) : State :=
  if s.upd.trial then s else s.raiseFloor (s.image s.upd.running).rollback

/-- Any staged image and any scheduled activation, erased. -/
def State.dropStaged (s : State) : State :=
  let s := match s.staged? with | some i => s.setImage i {} | none => s
  { s with upd := { s.upd with activation := none } }

/-- UPDATE_ABORT (R435). -/
def State.updateAbort (s : State) (p : Bytes) : State × Nat :=
  if p.length ≠ 4 then (s, stType) else
  match s.upd.session with
  | some x =>
    if u16 p 0 ≠ x.number then (s, stRange)
    else (s.dropStaged.eraseSession, stOk)
  | none => (s.dropStaged, stOk)

/-- UPDATE_SESSION_EXPIRE (R435): SESSION_LIFE days after the first UPDATE_OPEN, once TIME_SET is 1. -/
def execUpdateSessionExpire (s : State) : Host.Outcome State Fault Refusal :=
  finish s (match s.upd.session with
    | some x =>
      if s.reg Od.timeSet = 0 ∨ s.alive = false then s
      else
        let t := s.goTo (x.opened + s.reg Od.sessionLife * 86400000000000)
        t.eraseSession.raise 0xA005 (natBE 4 x.held.length)
    | none => s)

/-- AUTO_CONFIRM (R443): 30 s of running with MISSED_RUN at 0. -/
def execAutoConfirm (s : State) : Host.Outcome State Fault Refusal :=
  finish s (match s.upd.calmSince with
    | some t =>
      if s.upd.trial ∧ s.reg Od.autoConfirm = 1 ∧ s.reg Od.timelineState = 1 then (s.goTo (t + 30000000000)).confirmTrial else s
    | none => s)

/-- UPDATE_STATE (R445). -/
def State.updateState (s : State) : Nat :=
  if s.upd.trial then 4 else if s.upd.activation.isSome then 3 else if s.staged?.isSome then 2
  else if s.upd.session.isSome then 1 else 0

def State.sessionInfo (s : State) : Bytes :=
  match s.upd.session with
  | none => []
  | some x => natBE 2 x.number ++ natBE 4 (u32 x.header 16) ++ natBE 4 (u32 x.header 32) ++ natBE 4 x.held.length ++
      natBE 4 (x.missing.getD 0xFFFFFFFF) ++ natBE 10 (timeOfNs x.opened)

def State.pieceBitmap (s : State) : Bytes :=
  match s.upd.session with
  | none => []
  | some x => (List.range (ceilDiv (u32 x.header 32) 8)).map fun i =>
      BitVec.ofNat 8 ((List.range 8).foldl (fun a b => a + 2 ^ b * b2n (x.held.contains (8 * i + b))) 0)

def State.imageSlots (s : State) : Bytes :=
  s.upd.slots.flatMap fun x => natBE 1 x.state ++ natBE 4 x.version ++ natBE 4 x.rollback ++ natBE 2 x.schema ++ natBE 1 x.tries

end Sys2Proof.Machine
end

