-- ==== Sys2Proof/Machine/Boot.lean ====
section
/-!
DEFINITION. Power, domains and reset (spec/21), mooring, and the starts an update makes (spec/19): what each domain loses, what a
start loads, and the commands of the AO supervisor.
-/
namespace Sys2Proof.Machine

/-! ## What a domain loses (R469) -/

/-- PD_CORE: the timeline stops; frames, commits, pounds, sluices, the lock-keeper's work, the weir, trim runs, the aqueduct and the OD
server's sessions are gone. The AO supervisor keeps the pounds of the MGMT ports (R144). EVENT_LOG, and the settings in force until the next
start loads them, stay (log entry 64). -/
def State.loseCore (s : State) : State :=
  let s := ((s.dropFrames.setReg Od.timelineState 0).setReg Od.activeCells 0).setReg Od.allowance 0
  let s := s.startLock
  let ao (p : Nat) : Bool := s.mgmtPounds.any fun x => x.1 == p
  { s with
    tl := { s.tl with frames := [], dirty := [], waiting := [], outs := [], awaitAck := none, invalid := false, startFrame := none
                      anyShown := false, oldGrids := [] }
    net := { s.net with pounds := s.net.pounds.filter (fun x => ao x.1), sluices := List.replicate 8 {}, setAside := [] }
    trim := { s.trim with running := false, again := false, waiting := none, aRun := none, aApplyAt := none }
    weir := { tjHottest := s.weir.tjHottest, shutAt := s.weir.shutAt }
    col := { s.col with gains := [], drive := [], curveEnd := [], ditherReset := false }
    aq := {}
    zl := { s.zl with plans := [] }
    upd := { s.upd with activation := none, tryStart := none, calmSince := none, session := s.upd.session.map fun x => { x with parts := [] } }
    od := { s.od with pend := [], owed := [], dups := [], bulks := [], subs := [], posted := [], snapshot := none, groups := []
                      inQ := [], oncePerTick := [], outbox := s.od.outbox.filter fun m => decide (24 ≤ m.dst.port) } }

/-- PD_NETA or PD_NETB: ports, timestamp queues, and the tiles of its lanes. -/
def State.loseNet (s : State) (d : Nat) : State :=
  let cfg := s.linkCfg
  let s := s.netDomainOff d
  let mine (n : Nat) : Bool := match tileLinkRec cfg n with | some r => portDomain (linkLane r) == d | none => false
  { s with
    net := { s.net with ports := s.net.ports.zipIdx.map fun (x : Port × Nat) => if x.2 < 24 ∧ portDomain x.2 = d then {} else x.1 }
    zl := { s.zl with tiles := s.zl.tiles.map fun (t : Nat × Tile) => if mine t.1 then (t.1, {}) else t } }

/-- PD_MEM: the basin, and what stands in it. -/
def State.loseMem (s : State) : State :=
  { s with
    net := { s.net with basin := [] }
    intake := { s.intake with streams := s.intake.streams.map fun x => { x with slots := [], lastCanvas := none } }
    col := { s.col with residuals := [], calQueue := [] }
    ras := { s.ras with still := [] } }

/-- A quadrant's cells: barges they run are lost, and the cells come back empty. -/
def State.loseCells (s : State) (q : Nat) : State :=
  ((List.range 34).map fun i => 34 * q + i).foldl (fun (s : State) c =>
    let x := s.cell c
    let s := match x.running.bind s.barge? with | some b => (s.vacate (bFlight b.bytes)).dropBarge b.id | none => s
    s.setCell c { state := x.state, faults := x.faults, restore := x.restore }) s

/-- PD_LAMP: lamp ports, strings and sensors, their pins high-impedance. -/
def State.loseLamp (s : State) : State := s.startLamps.startStrings

/-- PD_RASTER. -/
def State.loseRaster (s : State) : State := { s with ras := { still := s.ras.still } }

/-- PD_SEC: the working slots (R417), the seal keys with them, and the DRBG. -/
def State.loseSec (s : State) : State :=
  let s := s.emptySlots
  { s with keys := { s.keys with drbg := 0, retryAt := none }, zl := { s.zl with seals := [] } }

def State.setDomState (s : State) (d v : Nat) : State := { s with pwr := { s.pwr with doms := setAt s.pwr.doms d v } }

/-- A domain is switched off or held in reset: DOMAIN_STATE `v`, contents lost. -/
def State.domainLost (v : Nat) (s : State) (d : Nat) : State :=
  let s := match d with
    | 1 => s.loseCore
    | 2 => s.loseNet 2
    | 3 => s.loseNet 3
    | 4 => s.loseMem
    | 5 => s.loseCells 0
    | 6 => s.loseCells 1
    | 7 => s.loseCells 2
    | 8 => s.loseCells 3
    | 9 => s.startIntake
    | 10 => s.loseLamp
    | 11 => s.loseRaster
    | 12 => s.loseSec
    | _ => s
  s.setDomState d v

/-- Every switched domain, in descending number (R470). -/
def allDomains : List Nat := [12, 11, 10, 9, 8, 7, 6, 5, 4, 3, 2, 1]

def State.allLost (s : State) : State := allDomains.foldl (State.domainLost 0) s

/-! ## What a start loads (R53, R503, R438) -/

/-- The value a journal holds passes its entry's own range check, the coded fields of its records among it (R503). -/
def journalOk (key : Nat) (v : OdVal) : Bool :=
  match Od.find key with
  | some (r, _) => r.rangeOk key v && (match v with | .num _ => true | .tab b => r.acc == .rws || tableFieldsOk key b)
  | none => false

/-- Journalled values of persisted rows that `keep` picks, those that fail their check left out: they have their defaults
(R53, R503). -/
def journalled (j : Store) (keep : OdRow → Bool) : Store :=
  let mine (k : Nat) : Bool := match Od.find k with | some (r, _) => r.persist && keep r | none => false
  { nums := j.nums.filter fun p => mine p.1 && journalOk p.1 (.num p.2), tabs := j.tabs.filter fun p => mine p.1 && journalOk p.1 (.tab p.2) }

/-- Keys of persisted values that fail their own check. -/
def badKeys (j : Store) : List Nat :=
  let mine (k : Nat) : Bool := match Od.find k with | some (r, _) => r.persist | none => false
  ((j.nums.filter fun p => mine p.1 && !journalOk p.1 (.num p.2)).map (·.1)) ++
    (j.tabs.filter fun p => mine p.1 && !journalOk p.1 (.tab p.2)).map (·.1)

/-- An R register outlives a start unless its row says that it is cleared at start; of the others only IRQ_PENDING does (log entry
65). -/
def keptAtStart (key : Nat) : Bool :=
  key == Od.irqPending.key || match Od.find key with | some (r, _) => r.acc == .r && !r.start | none => false

/-- Write the changes that wait into the settings store (R53, R470): as Cloyr moors, and at the very instant of a brown-out, of TJ_SHUT, of
the fall of WARM_N and of a warm or service start (DEDUCED, log entry 81). -/
def State.flushJournal (s : State) : State :=
  { s with od := { s.od with journal := s.od.journal.setVals (s.od.journalQ.map fun q => (q.1, q.2.1)), journalQ := [] }, keys := s.keys.saveBlobs }

/-- The AO supervisor takes the pounds of the MGMT ports with the defaults of R279 (R144; log entry 138). -/
def State.takeMgmtPounds (s : State) : State := s.mgmtPounds.foldl (fun (s : State) p => s.takePound {} p.1 p.2) s

/-- The settings of a start. A service restart keeps the calibration that the basin holds (R438). The graph of the journalled settings has the
journalled BARGE_ENERGY (R261, R478), and NUMBER_SET tells of a journalled DEVICE_NUMBER (R17). -/
def State.loadSettings (s : State) (service : Bool) : State :=
  let j := s.od.journal
  let rw := journalled j fun r => r.acc != .rws
  let sh := journalled j fun r => r.acc == .rws
  let cal := if service then s.tl.newest.tabs.filter fun p => decide (calBase ≤ p.1) else []
  let cfg : Store := { sh with tabs := kvSet Od.bargeEnergy.key (rw.tab Od.bargeEnergy) (cal.foldl (fun l p => kvSet p.1 p.2 l) sh.tabs) }
  let regs : Store :=
    { nums := rw.nums.foldl (fun l p => kvSet p.1 p.2 l) (s.od.regs.nums.filter fun p => keptAtStart p.1)
      tabs := rw.tabs.foldl (fun l p => kvSet p.1 p.2 l) (s.od.regs.tabs.filter fun p => keptAtStart p.1) }
  let old := s.tl.newest
  let s := { s with
    od := { s.od with regs := regs }
    tl := { s.tl with newest := cfg, cur := cfg, pres := if service then s.tl.pres else cfg, rate := cfg.num Od.frameRate } }
  let s := { s with
    od := { s.od with demoted := s.reg Od.mgmt1Class == 1 }
    tm := { s.tm with selectReq := none }
    col := { s.col with ledger := [], nextAge := s.now + s.reg Od.agePeriod * 1000000000, nextJournal := s.now + 600000000000 } }
  let s := if (kvGet Od.deviceNumber.key j.nums).isSome then s.setReg Od.numberSet 1 else s
  let s := s.setLedgers (j.tab Od.ageLedger)
  let s := (badKeys j).foldl (fun (s : State) k => s.raise 0x1415 (natBE 2 (k / 256) ++ natBE 1 k ++ natBE 2 stRange)) s
  ((s.bindTiles old cfg s.tl.nextCut).retick).takeMgmtPounds

/-! ## The start sequence (R441, R475, R478) -/

/-- Domains that DOMAIN_EN switches, with their bits (R468). -/
def domainBits : List (Nat × Nat) := [(0, 2), (1, 3), (2, 5), (3, 6), (4, 7), (5, 8), (6, 10), (7, 11)]

/-- The domains a start switches on: PD_CORE, PD_MEM, PD_INTAKE, PD_SEC and those of DOMAIN_EN (R468). -/
def State.wanted (s : State) : List Nat :=
  let en := s.reg Od.domainEn
  (List.range 13).filter fun d => d == 1 || d == 4 || d == 9 || d == 12 || (domainBits.any fun b => b.2 == d && bit en b.1)

/-- A domain is switched on: STARTING until it reaches power-good (R468). -/
def State.switchOn (s : State) (d : Nat) : State :=
  { s with pwr := { s.pwr with doms := setAt s.pwr.doms d 2, onAt := setAt s.pwr.onAt d s.now } }

/-- Key register copies are checked at every start: a register with no valid copy is absent, event 0x9002 with the register and its
COPIES as KEY_REG_STATUS reads them (R415, R428, R429). -/
def State.checkKeyCopies (s : State) : State :=
  ([0, 1, 2] : List Nat).foldl (fun (s : State) i =>
    let r := s.keyReg i
    let copies := b2n r.a.valid + 2 * b2n r.b.valid
    if copies = 0 then s.raise 0x9002 (natBE 2 i ++ natBE 1 copies) else s) s

/-- The start's counts and event (R475), the key registers' check (R415), TRIM_T_STATUS's RUNS cleared (R454), the stored class A result
in force (R453), what the self-tests find (R235, R456); FENCED and WIRE_FAULT end (R392). -/
def State.countStart (s : State) (cause st : Nat) : State :=
  let found := s.pwr.selfTest
  let s := { s with
    pwr := { s.pwr with state := st, cause := cause, resetCounts := modAt s.pwr.resetCounts cause fun n => min (n + 1) 65535 }
    tow := { s.tow with state := if s.tow.state = 5 ∨ s.tow.state = 6 then 1 else s.tow.state }
    trim := { s.trim with runsBase := s.trim.runs
                          aForce := if s.trim.aStored.isEmpty then s.trim.aForce else s.trim.aStored
                          aState := if s.trim.aStored.isEmpty then s.trim.aState else 2, aApplyAt := none
                          sramRepair := found.sram, sramLost := found.lost, sramCause := found.lost != 0
                          ddrCause := s.trim.ddrCause && decide (s.reg Od.ddrCeLimit < s.trim.ddr.foldl (· + ·) 0) } }
  (s.checkKeyCopies.raise 0xE001 (natBE 1 cause ++ natBE 1 st)).replaceCheck

/-- The other slot can be loaded: ACTIVE or PREVIOUS, at or above ROLLBACK_FLOOR, and it passes its checks (R441). -/
def State.otherLoads (s : State) : Bool :=
  let im := s.image (1 - s.upd.running)
  (im.state == 4 || im.state == 5) && decide (s.upd.floor ≤ im.rollback) && s.pwr.selfTest.slots.all fun x => x.1 != 1 - s.upd.running

/-- The boot record names the previous slot with its untouched settings area; the slot that failed is REJECTED (R444). -/
def State.fallRecord (s : State) (reason : Nat) : State :=
  let r := s.upd.running
  let im := s.image r
  let s := s.setImage r { im with state := 6 }
  let s := s.setImage (1 - r) { s.image (1 - r) with state := 4 }
  let area := s.upd.oldArea.getD s.od.journal
  let s := { s with od := { s.od with journal := area, journalQ := [] }
                    upd := { s.upd with running := 1 - r, trial := false, oldArea := none, tryStart := none, calmSince := none
                                        lastResult := s.resultRecord im 1 reason } }
  (s.writeBoot.count Od.fallbacks).raise 0xA004 (natBE 4 im.version ++ natBE 1 reason)

/-- The image that a start loads (R441, R444, R495): 0 the one the boot record names, 1 the previous one after a fallback, 2 none. What the
start's tests find comes into State here (log entries 60, 122). -/
def State.chooseImage (s : State) : State × Nat :=
  let s := { s with pwr := { s.pwr with selfTest := s.pwr.selfTests.headD {}, selfTests := s.pwr.selfTests.drop 1 } }
  if s.pwr.flashMiB < 64 then (s, 2)
  else
    match s.pwr.selfTest.slots.find? fun x => x.1 == s.upd.running with
    | none => (s, 0)
    | some x => if s.otherLoads then (s.fallRecord (if x.2 = 3 then 3 else 4), 1) else (s, 2)

/-- A start that no image loads ends in recovery: AO alone, the gate closed (R441; log entry 122). -/
def State.recover (s : State) (cause : Nat) : State := ((s.dropHold 2).loadSettings false).countStart cause 7

/-- A start of every switched domain; one that follows a fallback is a service restart (R444). -/
def State.beginStart (s : State) (cause : Nat) : State :=
  let (s, r) := s.chooseImage
  if r = 2 then s.recover cause
  else
    let s := (s.loadSettings false).countStart (if r = 1 then 5 else cause) 1
    s.wanted.foldl State.switchOn s

/-- A pound that the AO supervisor kept goes over to PD_CORE with what waits in it: its credits are its grants less those entries (R144,
R265). -/
def State.handOver (s : State) (p owner : Nat) : State :=
  let es := (s.pound p).entries
  let s := { s with net := { s.net with pounds := kvDel p s.net.pounds } }
  let s := s.takePound s.tl.newest p owner
  let x := s.pound p
  s.setPound p { x with entries := es, credits := es.foldl (fun c e => modAt c e.producer (· - 1)) x.credits }

/-- The pounds Cloyr's blocks take as PD_CORE starts: the transmit queues, the completion pounds and BAD_POUND, those of the receive consumers
and of the outputs (R127, R134, R138, R139, R279; log entry 50). Then those that no block has taken and that a record names. -/
def State.takePounds (s : State) : State :=
  let cfg := s.tl.newest
  let s := s.mgmtPounds.foldl (fun (s : State) p => s.handOver p.1 p.2) s
  let s := (List.range 26).foldl (fun (s : State) p => (List.range 8).foldl (fun (s : State) q => s.takePound cfg (s.txPound p q) 1) s) s
  let s := (List.range 26).foldl (fun (s : State) p => s.takePound cfg (s.reg Od.txComplPound p) 2) s
  let s := (List.range 26).foldl (fun (s : State) p => if s.reg Od.badPound p < 4096 then s.takePound cfg (s.reg Od.badPound p) 3 else s) s
  let s := consumerPounds.foldl (fun (s : State) p => s.takePound cfg p.1 p.2) s
  (cfg.recs Od.poundConfig).foldl State.takeRec (s.takeOutPounds cfg)

/-- Every domain is on or at fault: the rest of the start sequence (R478, R503), then RUNNING. -/
def State.endStart (s : State) : State :=
  let service := s.pwr.state == 4
  let s := s.takePounds.applySluiceMap.testCells.restoreCells
  let s := if service then s else s.loadCal
  let s := { s with tl := { s.tl with cur := s.tl.newest, pres := if service then s.tl.pres else s.tl.newest } }
  let s := if s.configOk s.tl.newest then s
    else ({ s with tl := { s.tl with invalid := true } }).raise 0x1415 (natBE 2 0xFFFF ++ natBE 1 0xFF ++ natBE 2 stRange)
  let s := { s with
    pwr := { s.pwr with state := 2 }
    tow := { s.tow with state := if s.tow.state = 4 then 1 else s.tow.state }
    upd := { s.upd with newCode := s.upd.newCode || service } }
  s.lampPins.ptpChecks.replaceCheck

/-- The start ends once no domain is STARTING. -/
def State.startCheck (s : State) : State :=
  if (s.pwr.state = 1 ∨ s.pwr.state = 4) ∧ s.pwr.doms.all (· != 2) then s.endStart else s

/-! ## Warm starts (R472–R474) -/

/-- The unit stands by in mooring after a start (R392, R478). -/
def State.moorsAgain (s : State) : Bool := s.tow.state == 4 || (s.tow.state == 1 && s.reg Od.standbyMode == 1 && s.pair)

/-- RAILS_EN in mooring (R470), with the frame engine at rest. -/
def State.moorRails (s : State) : State :=
  { s with tow := { s.tow with state := 4, engineRan := false, missed := 0 }
           pwr := { s.pwr with railsEn := s.reg Od.moorRailsOff == 0 } }

/-- A start that ends in mooring: AO alone. -/
def State.moorStart (s : State) (cause : Nat) : State :=
  let (s, r) := s.chooseImage
  if r = 2 then s.recover cause else ((s.loadSettings false).countStart (if r = 1 then 5 else cause) 3).moorRails

/-- A warm start: every switched domain loses its contents, AO stays (R472). A unit that stands by in mooring moors again
(R392, R478). -/
def State.warmStart (s : State) (cause : Nat) : State :=
  let t := s.flushJournal.allLost
  let u := { t with pwr := { t.pwr with warmLow := false, railsEn := true } }
  if u.moorsAgain then u.moorStart cause else u.beginStart cause

/-! ## Mooring (R470) -/

/-- Step 2 and 3 of R470: journal and ledgers are written, the domains go off. -/
def State.enterMooring (s : State) : State :=
  let s := ((s.flushJournal.settleOwed 0).saveLedgers).allLost.moorRails
  { s with pwr := { s.pwr with state := 3 } }

/-- Mooring ends: a start with cause MOORING_EXIT (R470, R475). -/
def State.leaveMooring (s : State) : State :=
  let s := { s with pwr := { s.pwr with railsEn := true } }
  s.flushJournal.beginStart 8

/-- EPOCH_WRITE_DONE (R393 step 4, R399, R400): the epoch stands in eNVM; a claim becomes ACTIVE. -/
def State.epochWritten (s : State) (e : Nat) : State :=
  let s := { s.envmWrite with nv := { s.nv with epoch := e, epochs := s.nv.epochs.write (natBE 4 e) }, tow := { s.tow with epochWrite := none } }
  if s.tow.state = 2 then
    let t := { s with tow := { s.tow with state := 3, attempts := 0, rechecked := false, beaconWait := false, handover := false
                                          gateOpenedAt := s.now, missed := 0 } }
    let t := (t.count Od.takeovers).raise 0xD001 (natBE 4 e)
    let t := if t.gate then t.gateOpened else t
    if t.pwr.state = 3 then t.leaveMooring else t
  else if s.tow.state = 3 then (s.count Od.epochAdvances).raise 0xD009 (natBE 4 e)
  else s

def execEpochWriteDone (dt : Nat) (s : State) : Host.Outcome State Fault Refusal :=
  let t := s.advance dt
  finish s (match t.tow.epochWrite with
    | some e => if t.alive then t.epochWritten e else t
    | none => t)

/-! ## Power-on and PORST_N (R463, R471, R476) -/

/-- The whole device in reset, AO included: what flash and eNVM hold stays, and the model's own records (log entries 7, 64). -/
def State.coldReset (s : State) (cause : Nat) : State :=
  let t := s.trim
  { pending := s.pending
    fresh := s.fresh
    od := { journal := s.od.journal, sent := s.od.sent, spiOut := s.od.spiOut }
    net := { wires := s.net.wires, reads := s.net.reads }
    lamp := { lines := s.lamp.lines }
    lk := { cells := s.lk.cells.map fun (c : Cell) => ({ state := c.state, restore := c.restore } : Cell) }
    pwr := { cause := cause, resetCounts := s.pwr.resetCounts, strapLive := s.pwr.strapLive, railsOk := s.pwr.railsOk
             flashMiB := s.pwr.flashMiB, selfTests := s.pwr.selfTests, selfTest := s.pwr.selfTest }
    col := { calCache := s.col.calCache }
    keys := { regs := s.keys.regs.map (fun (r : KeyReg) => { r with writing := none }), blobs := s.keys.blobs.filter KeyBlob.saved }
    upd := { slots := let r := u8 s.nv.boot.read.1 0
                      setAt s.upd.slots r { s.upd.slots.getD r {} with tries := u8 s.nv.boot.read.1 2 }
             running := u8 s.nv.boot.read.1 0, trial := u8 s.nv.boot.read.1 1 == 1, nextSession := s.upd.nextSession
             session := s.upd.session.map (fun (x : Session) => { x with parts := [] }), floor := beNat s.nv.floors.read.1, lastResult := s.upd.lastResult
             oldArea := s.upd.oldArea, dropped := s.upd.dropped }
    trim := { aStored := s.nv.trimA.read.1, taps := t.taps, endT := t.endT, causeT := t.causeT, lastTj := t.lastTj, lastTime := t.lastTime, aGen := t.aGen, aRuns := t.aRuns, runs := t.runs, runsBase := t.runs, endA := t.endA, life := t.lifeSaved, lifeSaved := t.lifeSaved
              seconds := t.secondsSaved, secondsSaved := t.secondsSaved, hist := t.histSaved, histSaved := t.histSaved
              tjMax := t.tjMaxSaved, tjMaxSaved := t.tjMaxSaved, wear := t.wear, sramRepair := t.sramRepair, sramLost := t.sramLost }
    nv := let c := s.nv.epochs.tear s.tow.epochWrite.isSome
          { s.nv with highest := 0, epochs := c, epoch := beNat c.read.1 } }

/-- What AO reads from eNVM, and its timers, at a power-on or PORST_N start (R453, R455, R478). -/
def State.bootTimers (s : State) : State :=
  let t := s.trim
  let life := decide (900000 < s.lifeUsed)
  let beacon := s.now + s.reg Od.beaconPeriod * 1000000
  { s with
    trim := { t with aForce := t.aStored, aState := if t.aStored.isEmpty then 0 else 2, lifeCause := life
                     nextSecond := s.now + 1000000000, nextLedger := s.now + 600000000000, nextDdr := s.now + 60000000000 }
    pwr := { s.pwr with nextDie := s.now + 1000000 }
    tow := { s.tow with nextBeacon := beacon, nextSmall := s.now + 1000000000, nextLedger := s.now + 600000000000
                        epochInUse := s.nv.epoch, linkSince := s.now } }

/-- The state AO goes to (R392, R478): recovery where no image loads (`r` is 2: R441, R495), mooring, or the start of the domains. -/
def State.bootOn (s : State) (r : Nat) : State :=
  let s := { s with tow := { s.tow with state := 1 } }
  if r = 2 then s.countStart s.pwr.cause 7
  else
    let s := if r = 1 then { s with pwr := { s.pwr with cause := 5 } } else s
    if s.moorsAgain then (s.countStart s.pwr.cause 3).moorRails
    else
      let s := s.countStart s.pwr.cause 1
      s.wanted.foldl State.switchOn s

/-- What AO loads as it starts (R478): straps, eNVM, the AO entries. -/
def State.bootLoad (s : State) (straps : Nat) : State :=
  let s := { s with pwr := { s.pwr with state := 1, strapLive := straps } }
  let s := (((s.setReg Od.straps straps).loadSettings false).bootTimers).completeFloor
  s.timePins.ptpChecks

/-- AO starts (R478). -/
def State.bootAO (s : State) (straps : Nat) : State :=
  let (s, r) := s.chooseImage
  (s.bootLoad straps).bootOn r

/-- AO starts while a rail is below the limit of its supply monitor, which holds the brown-out state (spec/21, *When things meet*; R464). -/
def State.bootHeld (s : State) (straps : Nat) : State :=
  let t := s.bootLoad straps
  { t with pwr := { t.pwr with state := if t.pwr.flashMiB < 64 then 7 else 6 }, tow := { t.tow with state := 1 } }

/-- PORST (R471). -/
def execPorst (dt : Nat) (s : State) : Host.Outcome State Fault Refusal := finish s ((s.advance dt).coldReset 1)

/-- PORST_RELEASE (R463, R476). `straps` is the level of each strap. Released before R463's conditions hold, the supply monitors hold
the brown-out state where they see it, and otherwise the start is undefined. -/
def execPorstRelease (dt straps : Nat) (good : Bool) (s : State) : Host.Outcome State Fault Refusal :=
  let t := s.advance dt
  if t.pwr.state ≠ 0 ∨ t.pwr.cause ≠ 1 then finish s t
  else if t.pwr.railsOk = false then finish s (t.bootHeld (straps % 16))
  else if good then finish s (t.bootAO (straps % 16))
  else .fault .undefinedStart

/-- POWER_ON_RESET (R464): VDDAO or VDDIO dips. -/
def execPowerOnReset (dt : Nat) (s : State) : Host.Outcome State Fault Refusal := finish s ((s.advance dt).coldReset 0)

/-- POWER_ON_RESET_END (R464): the rails are back, and AO starts with the straps as they stand. -/
def execPowerOnResetEnd (dt : Nat) (s : State) : Host.Outcome State Fault Refusal :=
  let t := s.advance dt
  finish s (if t.pwr.state = 0 ∧ t.pwr.cause = 0 then ({ t with pwr := { t.pwr with railsOk := true } }).bootAO t.pwr.strapLive else t)

/-! ## WARM_N, brown-outs (R464, R472) -/

/-- WARM_ASSERT: HOLD is released at once, every switched domain held in reset. -/
def execWarmAssert (dt : Nat) (s : State) : Host.Outcome State Fault Refusal :=
  let t := s.advance dt
  finish s (
    if t.pwr.state = 0 ∨ t.pwr.state = 5 ∨ t.pwr.state = 6 ∨ t.pwr.warmLow then t
    else
      let t := (t.dropHold 5).flushJournal.allLost
      { t with pwr := { t.pwr with warmLow := true } })

/-- WARM_START: WARM_N rises. -/
def execWarmStart (dt : Nat) (s : State) : Host.Outcome State Fault Refusal :=
  let t := s.advance dt
  finish s (if t.pwr.warmLow then t.warmStart 2 else t)

/-- BROWN_OUT of a rail other than VDDAO and VDDIO. -/
def execBrownOut (dt rail : Nat) (s : State) : Host.Outcome State Fault Refusal :=
  let t := s.advance dt
  finish s (
    let t := { t with pwr := { t.pwr with railsOk := false, brownRail := rail } }
    if t.pwr.state = 0 ∨ t.pwr.state = 5 ∨ t.pwr.state = 6 ∨ t.pwr.state = 7 ∨ t.pwr.state = 8 ∨ (t.pwr.state = 3 ∧ t.pwr.railsEn = false) then t
    else
      let t := (t.dropHold 5).flushJournal.allLost
      { t with pwr := { t.pwr with state := 6, warmLow := false } })

/-- BROWN_OUT_RECOVERY: every rail has been back for 10 ms. -/
def execBrownOutRecovery (dt : Nat) (s : State) : Host.Outcome State Fault Refusal :=
  finish s (
    let t := { s.advance dt with pwr := { s.pwr with railsOk := true } }
    if t.pwr.state = 6 then ((t.warmStart 4).count Od.brownOuts).raise 0xE002 (natBE 1 t.pwr.brownRail) else t)

/-! ## Thermal shutdown and RESTART (R227, R474) -/

/-- TJ_SHUT: the pins are released, every domain but AO goes off, the state is latched. The release of HOLD is reported after the
restart (R392). -/
def State.shutDown (s : State) : State :=
  let was := s.tow.state
  let s := { s with tow := { s.tow with hold := false, handover := false, rechecked := false, beaconWait := false, epochWrite := none
                                        state := if was = 2 then 1 else if was = 3 then 1 else was, shutRelease := s.tow.shutRelease || was == 3 } }
  let s := s.flushJournal.allLost
  { s with
    nv := { s.nv with shutdowns := min (s.nv.shutdowns + 1) 65535 }
    trim := s.envmWrite.trim
    weir := { s.weir with shutAt := some s.now }
    pwr := { s.pwr with state := 5, shutLatched := true, coolSince := none, warmLow := false } }

def execTjShut (dt : Nat) (s : State) : Host.Outcome State Fault Refusal :=
  let t := s.advance dt
  finish s (if t.alive = false ∨ t.pwr.state = 5 then t else t.shutDown)

/-- The restart from SHUTDOWN: TOW_RELEASED with cause 6 where the shut-down released HOLD, and DIE_SHUTDOWN (R227, R392). -/
def State.thermalStart (s : State) : State :=
  let at_ := s.weir.shutAt.getD s.now
  let s := (s.warmStart 6).raise 0x7012 (natBE 4 (at_ / 1000000000))
  let s := { s with weir := { s.weir with shutAt := none } }
  if s.tow.shutRelease then
    let s := { s with tow := { s.tow with shutRelease := false, holdoffUntil := some (s.now + s.reg Od.rearmHoldoff * 1000000000), calm := false } }
    (s.count Od.releases).raise 0xD002 (natBE 1 6)
  else s

/-- SHUTDOWN_COOL (R474): Tj has stayed at or below TJ_RESTART for 10 s. -/
def execShutdownCool (s : State) : Host.Outcome State Fault Refusal :=
  finish s (match s.pwr.coolSince with
    | some t =>
      if s.pwr.state = 5 ∧ s.pwr.shutLatched then
        let u := s.goTo (t + 10000000000)
        let u := { u with pwr := { u.pwr with shutLatched := false, coolSince := none } }
        if u.reg Od.shutAutoRestart = 1 then u.thermalStart else u
      else s
    | none => s)

/-- A write of RESTART (R473, R474). A brown-out and WARM_N hold the device in their state (R464, R472). -/
def State.writeRestart (s : State) : Eff :=
  if s.pwr.state = 0 ∨ s.pwr.state = 6 ∨ s.pwr.warmLow ∨ (s.pwr.state = 5 ∧ s.pwr.shutLatched) then effNo s stBusy
  else if s.pwr.state = 5 then effOk s.thermalStart
  else effOk (s.warmStart 7)

/-! ## Domains (R468, R469) -/

/-- A timed domain completes a class T trim run before any of its outputs is driven (R449, R469). AO's paths are measured as PD_CORE, where
trim runs, first comes on (log entry 145). -/
def State.domainTrim (s : State) (d : Nat) : State :=
  if d = 2 ∨ d = 3 ∨ d = 10 ∨ d = 11 ∨ (d = 1 ∧ s.trim.aoRun = false) then
    let was := (s.trim.running, s.trim.again)
    let s := s.trimDone
    { s with trim := { s.trim with running := was.1, again := was.2, aoRun := true } }
  else s

/-- A domain reaches power-good: its blocks come out of reset in their start state. -/
def State.domainOn (s : State) (d : Nat) : State :=
  let s := (s.setDomState d 1).domainTrim d
  match d with
  | 2 | 3 => s.ptpChecks
  | 10 => s.startLamps.startStrings.lampPins
  | 11 => s.startRaster
  | 12 => s.reloadKeys.startDrbg
  | _ => s

/-- DOMAIN_POWER_GOOD. -/
def execDomainPowerGood (dt domain : Nat) (s : State) : Host.Outcome State Fault Refusal :=
  let t := s.advance dt
  finish s (if t.alive ∧ t.pwr.doms.getD domain 0 = 2 ∧ t.pwr.warmLow = false then (t.domainOn domain).startCheck else t)

/-- DOMAIN_FAULT: no power-good within 5 ms. -/
def execDomainFault (domain : Nat) (s : State) : Host.Outcome State Fault Refusal :=
  finish s (
    if s.alive ∧ s.pwr.doms.getD domain 0 = 2 then
      let t := s.goTo (s.pwr.onAt.getD domain 0 + 5000000)
      ((t.setDomState domain 3).raise 0xE008 (natBE 1 domain)).startCheck.ptpChecks
    else s)

/-- A write of DOMAIN_EN is refused with BUSY where a bit may not go to 0 (R468). -/
def State.domainEnOk (s : State) (v : Nat) : Bool :=
  let off (b : Nat) : Bool := bit (s.reg Od.domainEn) b && !bit v b
  let lanes (lo : Nat) : Bool := (List.range 12).any fun i => s.reg Od.laneEn (lo + i) == 1
  let lamps : Bool := (List.range 48).any (fun p => s.reg Od.portEn p == 1) || (List.range 8).any (fun g => u8 (matrixRec s.tl.newest g) 0 == 1) ||
    (List.range 16).any fun n => u8 (stringCfg s.tl.newest n) 0 == 1
  !(off 0 && lanes 0) && !(off 1 && lanes 12) && !(v / 4 % 16 == 0 && [2, 3, 4, 5].any off) && !(off 6 && lamps) &&
    !(off 7 && s.reg Od.rasterEn == 1)

/-- The tick at which DOMAIN_EN takes effect (R468): a bit written 1 tries a faulted domain again. `written` tells that a write took
effect at this tick. -/
def State.applyDomainEn (s : State) (written : Bool) : State :=
  if written = false ∨ s.pwr.state ≠ 2 then s
  else
    domainBits.foldl (fun (s : State) b =>
      let st := s.pwr.doms.getD b.2 0
      if bit (s.reg Od.domainEn) b.1 then (if st = 1 ∨ st = 2 then s else s.switchOn b.2)
      else if st = 0 then s else s.domainLost 0 b.2) s |>.ptpChecks

/-! ## Updates: activation, trials and fallback (R437–R444) -/

/-- A service restart (R438): PD_CORE, PD_INTAKE and the quadrants are reset, all else stays. From recovery it starts every domain, and
where no image loads it ends there (R441). -/
def State.serviceRestart (s : State) : State :=
  if s.pwr.state = 7 then s.flushJournal.allLost.beginStart 5
  else
  let qs := (([5, 6, 7, 8] : List Nat).filter fun d => s.pwr.doms.getD d 0 == 1)
  let (s, r) := s.flushJournal.chooseImage
  if r = 2 then s.allLost.recover 5
  else
  let s := ([9] ++ qs ++ [1]).foldl (State.domainLost 0) s
  let s := { s with tow := { s.tow with missed := 0 }
                    upd := { s.upd with restarting := some s.now, suspendUntil := some (s.now + 2000000000), tryStart := none, calmSince := none } }
  let s := (s.loadSettings true).countStart 5 4
  ([1] ++ qs ++ [9]).foldl State.switchOn s

/-- What becomes of one entry under the new image's migration table (R442): the entry and value to keep, none where it is dropped or
cannot be carried, and whether that is a failure. The table is the image's own (log entry 67). -/
def migrateEntry (old new key : Nat) (v : OdVal) : Option (Nat × OdVal) × Bool :=
  let goesTo := Config.migrateKey old new key
  match Config.migrateKind old new key with
  | 0 => (some (key, v), !journalOk key v)
  | 1 => (none, false)
  | 2 =>
    let w : OdVal := match v with | .num n => .num (Config.migrateNum old new key n) | .tab b => .tab (Config.migrateTab old new key b)
    (some (goesTo, w), !journalOk goesTo w)
  | 3 => (some (goesTo, v), !journalOk goesTo v)
  | _ => (none, true)

/-- The settings store migrated: the new store, the entries dropped, and whether one failed. -/
def migrate (old new : Nat) (st : Store) : Store × Nat × Bool :=
  let vals : List (Nat × OdVal) := (st.nums.map fun p => (p.1, OdVal.num p.2)) ++ st.tabs.map fun p => (p.1, OdVal.tab p.2)
  vals.foldl (fun (a : Store × Nat × Bool) p =>
    match migrateEntry old new p.1 p.2 with
    | (some v, false) => (a.1.setVal v.1 v.2, a.2.1, a.2.2)
    | (_, failed) => (a.1, a.2.1 + 1, a.2.2 || failed)) ({}, 0, false)

/-- Fall back to the previous image and its untouched settings area (R444). -/
def State.fallBack (s : State) (reason : Nat) : State :=
  (s.fallRecord reason).serviceRestart

/-- A try has failed (R444): again from the same slot, or fall back after the third. -/
def State.failedTry (s : State) : State :=
  let r := s.upd.running
  let n := max (s.image r).tries 1
  if 3 ≤ n then s.fallBack 2
  else (s.setImage r { s.image r with tries := n + 1 }).writeBoot.serviceRestart

/-- The activation proceeds (R438, R442): the staged slot is on trial under settings migrated from the old area. -/
def State.activate (s : State) (i : Nat) : State :=
  let old := s.upd.running
  let from_ := (s.image old).schema
  let to_ := (s.image i).schema
  let s := s.flushJournal
  let area := s.od.journal
  let (st, dropped, failed) := if from_ = to_ then (area, 0, false) else migrate from_ to_ area
  let s := s.setImage i { s.image i with state := 3, tries := 0 }
  let s := { s with upd := { s.upd with running := i, trial := true, activation := none, oldArea := some area, dropped := dropped } }
  let s := s.writeBoot
  if failed ∧ s.reg Od.migratePolicy = 0 then s.fallBack 1
  else ({ s with od := { s.od with journal := st } }).serviceRestart

/-- UPDATE_ACTIVATION (R437): the first tick at or after AT, or with HANDOVER once HOLD is released. With HANDOVER the command of R398
is issued whatever the unit's state, and where it is refused the activation is cancelled (log entry 119). -/
def State.actOnActivation (s : State) (a : Activation) (i : Nat) : State :=
  if a.handing then (if s.tow.state = 3 then s else s.activate i)
  else if bit a.flags 0 then
    let (t, st, _) := s.cmdHandover
    if st = stOk then { t with upd := { t.upd with activation := some { a with handing := true } } }
    else ({ s with upd := { s.upd with activation := none } }).raise 0xA006 (natBE 2 st)
  else s.activate i

def execUpdateActivation (s : State) : Host.Outcome State Fault Refusal :=
  finish s (match s.upd.activation, s.staged? with
    | some a, some i =>
      if s.pwr.state ≠ 2 ∧ s.pwr.state ≠ 7 then s
      else (if a.handing then s else s.goTo (tickTime s.tl.rate (tickFrom s.tl.rate a.at_))).actOnActivation a i
    | _, _ => s)

/-- CONFIRM_WINDOW_EXPIRE (R444). -/
def execConfirmWindowExpire (s : State) : Host.Outcome State Fault Refusal :=
  finish s (match s.upd.tryStart with
    | some t =>
      if s.upd.trial ∧ s.alive then (s.goTo (t + s.reg Od.confirmWindow * 1000000000)).failedTry else s
    | none => s)

/-! ## Watchdogs and straps (R473, R476) -/

/-- CP_WATCHDOG: a control processor core missed its service. -/
def State.coreHung (s : State) (core : Nat) : State :=
  let s := s.raise 0xE003 (natBE 1 core)
  let recent := (s.pwr.wdStarts.filter fun t => decide (s.now < t + 600000000000)) ++ [s.now]
  if s.upd.trial then s.failedTry
  else
    let s := { s with pwr := { s.pwr with wdStarts := recent } }
    if s.reg Od.wdStormLimit ≤ recent.length then
      let s := s.flushJournal.allLost
      ({ s with pwr := { s.pwr with state := 8 } }).raise 0xE007 (natBE 1 recent.length)
    else s.warmStart 3

def execCpWatchdog (dt core : Nat) (s : State) : Host.Outcome State Fault Refusal :=
  finish s (if s.domOn 1 then (s.advance dt).coreHung core else s.advance dt)

/-- SUPERVISOR_WATCHDOG: the AO supervisor is reloaded within 10 ms; beacons pause. -/
def execSupervisorWatchdog (dt : Nat) (s : State) : Host.Outcome State Fault Refusal :=
  let t := s.advance dt
  finish s (
    if t.alive = false then t
    else ({ t with tow := { t.tow with nextBeacon := max t.tow.nextBeacon (t.now + 10000000) } }).raise 0xE004)

/-- STRAP_CHANGED: a live level differs from its sampled value for 1 ms: said once, until they agree again. -/
def execStrapChanged (dt strap : Nat) (level : Bool) (s : State) : Host.Outcome State Fault Refusal :=
  let t := s.advance dt
  finish s (
    if 4 ≤ strap then t
    else
      let live := if level then setBit t.pwr.strapLive strap else clrBit t.pwr.strapLive strap
      let t := { t with pwr := { t.pwr with strapLive := live } }
      if t.alive = false then t
      else if level = t.strap strap then { t with pwr := { t.pwr with strapRaised := t.pwr.strapRaised.filter (· != strap) } }
      else if t.pwr.strapRaised.contains strap then t
      else ({ t with pwr := { t.pwr with strapRaised := strap :: t.pwr.strapRaised } }).raise 0xE005 (natBE 1 (t.reg Od.straps) ++ natBE 1 live))

end Sys2Proof.Machine
end

