-- ==== Sys2Proof/Machine/Aqueduct.lean ====
section
/-!
DEFINITION. The aqueduct (spec/16): universe routes at a close, window messages to far devices, RDM ports and tiles, and their
outcomes.
-/
namespace Sys2Proof.Machine

/-! ## Universe routes (R376) -/

/-- Element value of a source: 8 or 16 bits, coarse first, fine first where swapped. -/
def aqElement (slots : Bytes) (at_ w : Nat) (swap : Bool) : Nat :=
  let b := slice slots (at_ - 1) (1 + w)
  beNat (if swap then b.reverse else b)

/-- The conversion of R376: source and destination width codes. -/
def aqConvert (sw dw v : Nat) : Nat :=
  if sw = 0 ∧ dw = 1 then v * 257 else if sw = 1 ∧ dw = 0 then min ((v + 128) / 256) 255 else v

/-- The destination slots of a route with their values. -/
def aqSlots (r src : Bytes) : List (Nat × Byte) :=
  let sw := aqSrcWidth r
  let dw := aqDstWidth r
  let swap := bit (u8 r 13) 0
  (List.range (aqCount r)).flatMap fun i =>
    let v := aqConvert sw dw (aqElement src (u16 r 4 + i * (1 + sw)) sw swap)
    let b := natBE (1 + dw) v
    (if swap then b.reverse else b).zipIdx.map fun (x, j) => (u16 r 10 + i * (1 + dw) + j, x)

/-- Slots written into an output's data beside those that pack writes. -/
def Frame.putSlots (f : Frame) (o : Out) (slots : List (Nat × Byte)) : Frame :=
  let new := slots.foldl (fun l e => kvSet e.1 [e.2] l) (f.data o)
  { f with packed := (f.packed.filter fun p => p.1 != o) ++ [(o, new)] }

/-- One UNIVERSE route of a frame; `univ` holds the merged universes. -/
def Frame.aqRoute (univ : List (Nat × Bytes)) (f : Frame) (r : Bytes) : Frame :=
  let slots := aqSlots r (padTo 512 (kvGetD (u16 r 2) [] univ))
  match aqDst r with
  | 0 =>
    let old := padTo 512 (kvGetD (u16 r 8) [] f.univ)
    let new := slots.foldl (fun (b : Bytes) e => modAt b (e.1 - 1) fun _ => e.2) old
    { f with univ := kvSet (u16 r 8) new f.univ }
  | 1 => f.putSlots (.sacn (u16 (sacnOutRec f.cfg (u16 r 8)) 0)) slots
  | _ => f.putSlots (.dmx (u16 r 8)) slots

/-- Every UNIVERSE route copies as the frame closes. -/
def Frame.aqRoutes (f : Frame) : Frame :=
  ((aqRoutesOf f.cfg).filter fun r => aqSrc r == 1).foldl (Frame.aqRoute f.univ) f

/-! ## Window messages (R377, R378) -/

/-- An index of the aqueduct's window. -/
def inWindow (index : Nat) : Bool := decide (0xB200 ≤ index) && decide (index ≤ 0xB3FF)

/-- The route whose window holds an index: its place in AQ_ROUTES, and its record. -/
def routeAt (cfg : Store) (index : Nat) : Option (Nat × Bytes) :=
  ((cfg.recs Od.aqRoutes).zipIdx.find? fun (r, _) => aqSrc r == 2 && decide (u16 r 2 ≤ index) && decide (index < u16 r 2 + aqCount r)).map
    fun (r, i) => (i, r)

/-- The steps of R377 before the item checks: the route, or the status that answers the message. -/
def State.windowRoute (s : State) (src : Src) (indices : List Nat) : Except Nat (Nat × Bytes) :=
  let routes := indices.map fun i => (routeAt s.tl.cur i).map (·.1)
  if s.domOn 1 = false then .error stBusy
  else if indices.any (fun i => !inWindow i) ∨ routes.any (fun r => r != routes.headD none) then .error stRange
  else
    match routeAt s.tl.cur (indices.headD 0) with
    | none => .error stNoRoute
    | some (i, r) =>
      if u8 r 14 &&& s.portClass src.port = 0 then .error stNoRight
      else if s.bridged src then .error stNoRoute
      else .ok (i, r)

/-- BOOL, U8 to U64, S16, S32 and FX are converted (R378). -/
def aqNumeric (ty : Nat) : Bool := decide (1 ≤ ty) && decide (ty ≤ 8)

/-- A number from one width to another in bytes; none where it does not fit. -/
def aqResize (signed : Bool) (a b : Nat) (v : Bytes) : Option Bytes :=
  let n := beNat v
  if signed then
    let i := toS (8 * a) n
    if -((2 ^ (8 * b - 1) : Nat) : Int) ≤ i ∧ i < ((2 ^ (8 * b - 1) : Nat) : Int) then some (natBE b (ofS (8 * b) i)) else none
  else if n < 2 ^ (8 * b) then some (natBE b n) else none

/-- The type code of a width code: U, or S where the width has one (log entry 69). -/
def aqType (signed : Bool) (w : Nat) : Nat := if signed ∧ (w = 1 ∨ w = 2) then 5 + w else 2 + w

def aqSwap (r : Bytes) : Bool := bit (u8 r 13) 0
def aqSigned (r : Bytes) : Bool := bit (u8 r 13) 1

/-- A value on its way out over a REMOTE_OD route: the far type and value, or the status that refuses it. -/
def aqOut (r : Bytes) (ty : Nat) (v : Bytes) : Except Nat (Nat × Bytes) :=
  let a := 2 ^ aqSrcWidth r
  let b := 2 ^ aqDstWidth r
  if 1024 < v.length then .error stSize
  else if aqNumeric ty then
    if v.length ≠ a then .error stType
    else match aqResize (aqSigned r) a b v with
      | some w => .ok (aqType (aqSigned r) (aqDstWidth r), if aqSwap r then w.reverse else w)
      | none => .error stRange
  else if a = b then .ok (ty, v) else .error stSize

/-- A value as it comes back (R378). -/
def aqBack (r : Bytes) (ty : Nat) (v : Bytes) : Except Nat (Nat × Bytes) :=
  let a := 2 ^ aqSrcWidth r
  let b := 2 ^ aqDstWidth r
  if aqNumeric ty then
    if v.length ≠ b then .error stRange
    else match aqResize (aqSigned r) b a (if aqSwap r then v.reverse else v) with
      | some w => .ok (aqType (aqSigned r) (aqSrcWidth r), w)
      | none => .error stRange
  else if a = b then .ok (ty, v) else .error stRange

/-- The far index of a local one. -/
def farIndex (r : Bytes) (index : Nat) : Nat := (u16 r 10 + (index - u16 r 2)) % 65536

/-! ## The far devices (R379–R381) -/

def State.aqPeer (s : State) (d : Nat) : AqPeer := kvGetD d {} s.aq.peers
def State.setPeer (s : State) (d : Nat) (x : AqPeer) : State := { s with aq := { s.aq with peers := kvSet d x s.aq.peers } }

/-- A message with this SEQ from this source is still in flight (R380). -/
def State.aqInFlight (s : State) (src : Src) (seq : Nat) : Bool :=
  let same (m : AqMsg) : Bool := m.src == src && m.reqSeq == seq
  (s.aq.peers.any fun p => p.2.queue.any same || (match p.2.inFlight with | some m => same m | none => false)) ||
    (s.aq.rdm.any fun w => same w.msg) || s.aq.params.any fun w => same w.msg

/-- A refusal by the aqueduct: status, reply payload, and the item it names. -/
structure AqNo where
  status : Nat
  payload : Bytes
  index : Nat
  sub : Nat
  deriving DecidableEq, Repr

/-- Reply items of a message: value items of a READ, status items of a WRITE. -/
def aqItem (cmd index sub ty status : Nat) (v : Bytes) : Bytes :=
  if cmd = 1 then valueItem { index := index, sub := sub, flags := 0 } ty status v else statusItem index sub status

/-- The message joins its far device's queue. -/
def State.aqAccept (s : State) (d : Nat) (m : AqMsg) (index sub : Nat) : State × Option AqNo :=
  let x := s.aqPeer d
  if 1436 < m.payload.length then (s, some { status := stSize, payload := [], index := index, sub := sub })
  else if 32 ≤ x.queue.length then (s, some { status := stBusy, payload := [], index := index, sub := sub })
  else (s.setPeer d { x with queue := x.queue ++ [m] }, none)

/-- A message refused whole by R377 or a queue. -/
def aqWhole (status index sub : Nat) : Option AqNo := some { status := status, payload := [], index := index, sub := sub }

/-- A READ of window items (R377, R378). RDM and tile routes carry writes alone: a READ there has no right (log entry 70). -/
def State.windowRead (s : State) (src : Src) (seq : Nat) (items : List ReadItem) : State × Option AqNo :=
  let i0 := (items.map ReadItem.index).headD 0
  let sub0 := (items.map ReadItem.sub).headD 0
  match s.windowRoute src (items.map ReadItem.index) with
  | .error st =>
    let no := items.flatMap fun i => aqItem 1 i.index i.sub 0 st []
    (s, some { status := st, payload := if st = stNoRoute ∧ s.bridged src = false then no else [], index := i0, sub := sub0 })
  | .ok (n, r) =>
    if aqDst r ≠ 3 then (s, aqWhole stNoRight i0 sub0)
    else
      let m : AqMsg :=
        { src := src, reqSeq := seq, posted := false, cmd := 1, route := n, items := items.map fun i => (i.index, i.sub, 0)
          payload := items.flatMap fun i => natBE 2 (farIndex r i.index) ++ natBE 1 i.sub ++ natBE 1 (i.flags % 4) }
      s.aqAccept (u16 r 8) m i0 sub0

/-- One write item for a far device. -/
def farWrite (r : Bytes) (w : WriteItem) (ty : Nat) (v : Bytes) : Bytes :=
  natBE 2 (farIndex r w.index) ++ natBE 1 w.sub ++ natBE 1 ty ++ natBE 1 (w.flags % 2) ++ natBE 1 0 ++ natBE 2 v.length ++ padTo ((v.length + 3) / 4 * 4) v

/-- A WRITE on a REMOTE_OD route. -/
def State.windowRemote (s : State) (m : AqMsg) (r : Bytes) (items : List WriteItem) : State × Option AqNo :=
  let outs := items.map fun w => (w, aqOut r w.ty w.value)
  let st (o : Except Nat (Nat × Bytes)) : Nat := match o with | .ok _ => stOk | .error e => e
  match outs.find? fun o => st o.2 != stOk with
  | some o =>
    (s, some { status := st o.2, payload := outs.flatMap fun p => statusItem p.1.index p.1.sub (st p.2), index := o.1.index, sub := o.1.sub })
  | none =>
    let pay := outs.flatMap fun o => match o.2 with | .ok (ty, v) => farWrite r o.1 ty v | .error _ => []
    let w := items.headD { index := 0, sub := 0, ty := 0, flags := 0, value := [] }
    s.aqAccept (u16 r 8) { m with payload := pay } w.index w.sub

/-! ## Outcomes (R380) -/

/-- The index that AQ_ERROR_LOG names: the far one on a REMOTE_OD route, as the chapter's worked example has it, and else the
window's (log entry 113). -/
def State.aqLogIndex (s : State) (m : AqMsg) (index : Nat) : Nat :=
  let r := ((s.tl.cur.recs Od.aqRoutes)[m.route]?).getD []
  if aqDst r = 3 then farIndex r index else index

/-- One FAR_ERROR: its record in AQ_ERROR_LOG, its count and its event. -/
def State.aqFarError (s : State) (m : AqMsg) (cause far : Nat) (item : Nat × Nat) : State :=
  let src := if m.src.port = 26 then natBE 18 0 else natBE 16 m.src.addr ++ natBE 2 m.src.udp
  let rec_ := natBE 10 (timeOfNs s.now) ++ natBE 2 m.route ++ src ++ natBE 2 m.reqSeq ++ natBE 2 (s.aqLogIndex m item.1) ++ natBE 1 item.2 ++ natBE 1 (b2n m.posted) ++
    natBE 1 cause ++ natBE 2 far
  let s := { s with aq := { s.aq with log := pushLast 64 s.aq.log rec_ } }
  (s.count Od.aqFarErrors).raise 0xB001 (natBE 2 m.route ++ natBE 2 m.reqSeq ++ natBE 2 far ++ natBE 1 cause)

/-- The FAR_ERRORs of a message, one for each item that failed with its far status; a posted write's failure is counted once. -/
def State.aqErrors (s : State) (m : AqMsg) (cause : Nat) (items : List (Nat × Nat × Nat)) : State :=
  items.foldl (fun s i => s.aqFarError m cause i.2.2 (i.1, i.2.1)) (if m.posted then s.count Od.aqPostedFails else s)

/-- The reply to a requester; a posted write has none. A READ reply that is too long is refused whole (R71). -/
def State.aqReply (s : State) (m : AqMsg) (status : Nat) (payload : Bytes) : State :=
  if m.posted then s
  else if 1436 < payload.length then s.reply m.src m.cmd m.reqSeq stRange [] (m.cmd != 1)
  else s.reply m.src m.cmd m.reqSeq status payload (m.cmd != 1)

/-- Every item reports FAR_ERROR. -/
def State.aqFails (s : State) (m : AqMsg) (cause far : Nat) : State :=
  let pay := m.items.flatMap fun i => aqItem m.cmd i.1 i.2.1 0 stFarError []
  (s.aqErrors m cause (m.items.map fun i => (i.1, i.2.1, far))).aqReply m stFarError pay

/-- A WRITE to an RDM route: one record joins the port's queue (R382). -/
def State.windowRdm (s : State) (m : AqMsg) (r : Bytes) (items : List WriteItem) : State × Option AqNo :=
  match items with
  | [w] =>
    let no (st : Nat) : Option AqNo := some { status := st, payload := statusItem w.index w.sub st, index := w.index, sub := w.sub }
    if w.ty ≠ 13 then (s, no stType)
    else
      let (s, st, _) := s.writeRdmQueue (u16 r 8) w.value true
      if st ≠ stOk then (s, no st)
      else ({ s with aq := { s.aq with rdm := s.aq.rdm ++ [{ msg := m, dst := u16 r 8, tag := rdmTag w.value }] } }, none)
  | w :: _ => (s, aqWhole stRange w.index w.sub)
  | [] => (s, none)

/-- Bytes with each element of `n` bytes reversed. -/
def swapEach (n : Nat) (v : Bytes) : Bytes := ((records n v).map List.reverse).flatten ++ v.drop (v.length / n * n)

/-- A WRITE to a TILE_PARAM route (R383). -/
def State.windowParam (s : State) (m : AqMsg) (r : Bytes) (items : List WriteItem) : State × Option AqNo :=
  match items with
  | [w] =>
    let tile := u16 r 8
    if 1024 < w.value.length then (s, some { status := stSize, payload := statusItem w.index w.sub stSize, index := w.index, sub := w.sub })
    else if (s.tile tile).state ≠ 2 then (s.aqFails m 2 0, none)
    else
      let v := if aqSwap r then swapEach (2 ^ aqDstWidth r) w.value else w.value
      let p := natBE 2 (u16 r 10) ++ natBE 2 v.length ++ padTo ((v.length + 3) / 4 * 4) v
      let frame := s.tl.nextCut
      let wait : AqWait := { msg := { m with payload := p }, dst := tile, tag := frameNo frame, deadline := frame + s.reg Od.aqParamFrames }
      let s := { s with aq := { s.aq with params := s.aq.params ++ [wait] } }
      ((s.queueParam tile (frameNo frame) p).pumpParam tile, none)
  | w :: _ => (s, aqWhole stRange w.index w.sub)
  | [] => (s, none)

/-- A WRITE of window items (R377). -/
def State.windowWrite (s : State) (src : Src) (seq : Nat) (posted : Bool) (items : List WriteItem) : State × Option AqNo :=
  let i0 := (items.map WriteItem.index).headD 0
  let sub0 := (items.map WriteItem.sub).headD 0
  match s.windowRoute src (items.map WriteItem.index) with
  | .error st =>
    let no := items.flatMap fun i => aqItem 2 i.index i.sub 0 st []
    (s, some { status := st, payload := if st = stNoRoute ∧ s.bridged src = false then no else [], index := i0, sub := sub0 })
  | .ok (n, r) =>
    let m : AqMsg := { src := src, reqSeq := seq, posted := posted, cmd := 2, route := n, items := items.map fun i => (i.index, i.sub, i.ty), payload := [] }
    match aqDst r with
    | 3 => s.windowRemote m r items
    | 4 => s.windowRdm m r items
    | _ => s.windowParam m r items

/-- The far device as a destination (R379). -/
def State.farDst (s : State) (d : Nat) : Option Src :=
  (s.tl.cur.recOf Od.aqPeers d).map fun r => { port := u8 r 20, addr := beNat (slice r 2 16), udp := u16 r 18 }

/-- Send the message in flight to a far device. -/
def State.sendFar (s : State) (d : Nat) (m : AqMsg) (seq : Nat) : State :=
  match s.farDst d with
  | some dst => s.send { dst := dst, cmd := m.cmd, seq := seq, device := d, status := 0, payload := m.payload, sport := s.reg Od.aqUdpPort }
  | none => s

/-- AQ_FORWARD_SEND (R379, R381). -/
def execAqForwardSend (dt device : Nat) (s : State) : Host.Outcome State Fault Refusal :=
  let t := s.advance dt
  let x := t.aqPeer device
  finish s (match x.inFlight, x.queue with
    | none, m :: rest =>
      if t.domOn 1 = false then t
      else
        let t := t.setPeer device { x with queue := rest, inFlight := some m, resends := 0, deadline := t.now + t.reg Od.aqTimeout * 1000000 }
        (t.sendFar device m x.seq).count Od.aqForwarded
    | _, _ => t)

/-- The value items of a READ reply. -/
def valueItemsF : Nat → Bytes → List (Nat × Nat × Bytes)
  | 0, _ => []
  | fuel + 1, b =>
    let vlen := u16 b 6
    if b.length < 8 ∨ b.length < 8 + vlen then []
    else (u8 b 3, u16 b 4, slice b 8 vlen) :: valueItemsF fuel (b.drop (8 + (vlen + 3) / 4 * 4))

/-- The far items by place: type, status and value; a reply without items gives its STATUS to each. -/
def farItems (m : AqMsg) (status : Nat) (b : Bytes) : List (Nat × Nat × Bytes) :=
  let got := if m.cmd = 1 then valueItemsF m.items.length b else (records 8 b).map fun r => (0, u16 r 4, [])
  (List.range m.items.length).map fun i => got.getD i (0, if status = stOk then stRange else status, [])

/-- A far reply decides its message (R380). LATE_BOUND is no refusal: the far write was done (R88). -/
def State.farAnswer (s : State) (m : AqMsg) (status : Nat) (b : Bytes) : State :=
  let r := ((s.tl.cur.recs Od.aqRoutes)[m.route]?).getD []
  let items := m.items.zip (farItems m status b)
  let one (i : (Nat × Nat × Nat) × (Nat × Nat × Bytes)) : Nat × Nat × Bytes :=
    if i.2.2.1 ≠ stOk ∧ i.2.2.1 ≠ stLateBound then (stFarError, 0, [])
    else if m.cmd ≠ 1 then (i.2.2.1, 0, [])
    else match aqBack r i.2.1 i.2.2.2 with | .ok (ty, v) => (stOk, ty, v) | .error e => (e, 0, [])
  let outs := items.map fun i => (i.1, one i)
  let bad := (items.filter fun i => (one i).1 == stFarError).map fun i => (i.1.1, i.1.2.1, i.2.2.1)
  let pay := outs.flatMap fun o => aqItem m.cmd o.1.1 o.1.2.1 o.2.2.1 o.2.1 o.2.2.2
  let st := ((outs.find? fun o => o.2.1 != stOk).map fun o => o.2.1).getD stOk
  if bad.isEmpty then s.aqReply m st pay else (s.aqErrors m 0 bad).aqReply m stFarError pay

/-- AQ_REPLY_RX (R379, R380): a reply from a far device to the message in flight. -/
def execAqReplyRx (dt port : Nat) (src : Src) (bytes : Bytes) (s : State) : Host.Outcome State Fault Refusal :=
  let t := s.advance dt
  let from_ := t.aq.peers.find? fun p => match t.farDst p.1 with
    | some d => d.addr == src.addr && d.udp == src.udp && d.port == port
    | none => false
  finish s (match from_ with
    | some (d, x) =>
      match x.inFlight with
      | some m =>
        if t.domOn 1 = false ∨ bytes.length < 16 ∨ u16 bytes 0 ≠ 0x4F44 ∨ u8 bytes 2 ≠ 1 ∨ u8 bytes 3 ≠ 128 + m.cmd ∨ u16 bytes 4 ≠ x.seq ∨
            u16 bytes 10 ≠ (bytes.drop 16).length then t
        else
          let t := t.setPeer d { x with inFlight := none, seq := (x.seq + 1) % 65536, unreachable := false }
          t.farAnswer m (u16 bytes 8) (bytes.drop 16)
      | none => t
    | none => t)

/-- AQ_TIMEOUT (R379, R380). -/
def execAqTimeout (device : Nat) (s : State) : Host.Outcome State Fault Refusal :=
  let x := s.aqPeer device
  finish s (match x.inFlight with
    | none => s
    | some m =>
      if s.domOn 1 = false then s
      else
        let t := s.goTo x.deadline
        if x.resends < t.reg Od.aqRetries then
          (t.setPeer device { x with resends := x.resends + 1, deadline := t.now + t.reg Od.aqTimeout * 1000000 }).sendFar device m x.seq
        else
          let t := t.setPeer device { x with inFlight := none, seq := (x.seq + 1) % 65536, unreachable := true }
          let down := match t.farDst device with | some d => !(t.port d.port).up | none => true
          let t := (t.count Od.aqTimeouts).aqFails m (if down then 2 else 1) 0
          if x.unreachable then t else t.raise 0xB002 (natBE 2 device))

/-! ## Outcomes of RDM and tile parameters (R382, R383) -/

/-- A write through a route has come to its end. -/
def State.aqDone (s : State) (m : AqMsg) : State := s.aqReply m stOk (m.items.flatMap fun i => aqItem m.cmd i.1 i.2.1 0 stOk [])

/-- A finished RDM request answers the route's write that queued it. -/
def State.rdmDone (s : State) (port : Nat) (req : Option RdmReq) (rec_ : Option Bytes) : State :=
  match req, rec_ with
  | none, _ | _, none => s
  | some q, some b =>
    if q.route = false then s else
    match s.aq.rdm.find? fun w => w.dst == port && w.tag == u16 b 0 with
    | none => s
    | some w =>
      let s := { s with aq := { s.aq with rdm := s.aq.rdm.erase w } }
      if u8 b 2 ≤ 1 then s.aqDone w.msg else s.aqFails w.msg 0 (u8 b 2)

/-- RDM_TRANSACTION (R326): in the gap after the packet's MBB. -/
def execRdmTransaction (dt port : Nat) (s : State) : Host.Outcome State Fault Refusal :=
  let t := s.advance dt
  finish s (
    let x := t.lp port
    let r := dmxRec t.tl.pres port
    if 48 ≤ port ∨ t.lampRuns port 2 = false ∨ t.gate = false ∨ bit (u8 r 12) 0 = false ∨ x.rdmNow.isSome ∨ x.sinceRdm < u8 r 13 then t
    else match x.rdmQ with
      | [] => t
      | q :: rest =>
        let t := t.goTo x.busyEnd
        let b := rdmPacket q.bytes t.fresh
        let end_ := t.now + u16 r 2 * 1000 + u8 r 4 * 1000 + b.length * 44000
        let t := ({ t with lamp := { t.lamp with lines := { port := port, kind := 3, start := t.now, rec_ := r, bytes := b } :: t.lamp.lines } }).draw
        let t := t.setLp port { x with busy := 3, busyEnd := end_, rdmQ := rest, rdmNow := some { q with tries := q.tries + 1 }, pins := [1, 0, 2] }
        if rdmBroadcast (rdmDest q.bytes) then
          let rec_ := rdmResult (rdmTag q.bytes) 0 0 []
          let t := t.rdmFinish port rec_
          (t.setLp port { t.lp port with busyEnd := end_ + 176000 }).rdmDone port (some q) (some rec_)
        else t)

/-- RDM_RESPONSE_RX (R326). -/
def execRdmResponseRx (dt port : Nat) (bytes : Bytes) (s : State) : Host.Outcome State Fault Refusal :=
  let t := s.advance dt
  finish s (
    if 48 ≤ port ∨ t.lampRuns port 2 = false ∨ t.gate = false then t
    else let q := (t.lp port).rdmNow
         let (t, r) := t.rdmTakes port bytes
         t.rdmDone port q r)

/-- RDM_TIMEOUT (R326): no response began within 2.8 ms of the request's end. -/
def execRdmTimeout (port : Nat) (s : State) : Host.Outcome State Fault Refusal :=
  finish s (
    if 48 ≤ port ∨ s.lampRuns port 2 = false ∨ s.gate = false ∨ (s.lp port).rdmNow.isNone then s
    else
      let t := (s.goTo ((s.lp port).busyEnd + 2800000)).count Od.rdmTimeouts 1 port
      let (t, r) := t.rdmFails port 4
      t.rdmDone port (s.lp port).rdmNow r)

/-- RET_RX (R302, R303, R383): a RET that acknowledges a PARAM answers the write that made it. -/
def execRetRx (dt lane : Nat) (f : ZhFrame) (s : State) : Host.Outcome State Fault Refusal :=
  let t := s.advance dt
  finish s (
    if t.tileLane lane = false then t
    else
      let before := t
      match t.retFrame lane f with
      | (t, some (n, _)) =>
        match (before.tile n).param with
        | some (_, frame, p, _) =>
          match t.aq.params.find? fun w => w.dst == n && w.tag == frame && w.msg.payload == p with
          | some w => ({ t with aq := { t.aq with params := t.aq.params.erase w } }).aqDone w.msg
          | none => t
        | none => t
      | (t, none) => t)

/-- AQ_PARAM_TIMEOUT (R383): no acknowledgement within AQ_PARAM_FRAMES frames. -/
def execAqParamTimeout (tile : Nat) (s : State) : Host.Outcome State Fault Refusal :=
  finish s (match s.aq.params.find? fun w => w.dst == tile with
    | some w =>
      if s.domOn 1 = false then s
      else
        let t := s.goTo (tickTime s.tl.rate w.deadline)
        ({ t with aq := { t.aq with params := t.aq.params.erase w } }).aqFails w.msg 1 0
    | none => s)

/-- AQ_ERROR_LOG (R384). -/
def State.aqErrorLog (s : State) : Bytes := s.aq.log.flatten

end Sys2Proof.Machine
end

