-- ==== Sys2Proof/Machine/Views.lean ====
section
/-!
DEFINITION. What a read of an entry returns (R51, R57, R80): the entries whose value is computed from the state rather than held as
a register, the reads that clear (R47 and the Range columns), and the group SNAPSHOT and RESET (R21, R22, R80).
-/
namespace Sys2Proof.Machine

/-- The first of the views that gives an entry its value. -/
def pickView (key : Nat) : List (OdRow × (Nat → OdVal)) → Option OdVal
  | [] => none
  | (r, f) :: t => if r.key ≤ key ∧ key < r.key + r.n then some (f (key - r.key)) else pickView key t

/-- One SUBSCRIBERS record (R86): LEASE_LEFT in whole seconds, rounded up (log entry 71). -/
def State.subRecord (s : State) (slot : Nat) : Bytes :=
  match kvGet slot s.od.subs with
  | none => List.replicate 24 0#8
  | some b =>
    let spi := b.src.port == 26
    natBE 16 (if spi then 0 else b.src.addr) ++ natBE 2 (if spi then 0 else b.src.udp) ++ natBE 2 b.lo ++ natBE 2 b.hi ++
      natBE 2 (ceilDiv (b.expires - s.now) 1000000000)

/-- The B of R4 for the frame rate in force, less what is out of service (R238). -/
def State.budget (s : State) : Nat := s.pxBudget (pixelLimit (s.tl.cur.num Od.frameRate))

/-- Views of spec/01 to spec/05. -/
def State.views1 (s : State) : List (OdRow × (Nat → OdVal)) :=
  [(Od.serial, fun _ => .tab (natBE 16 Config.serial)),
   (Od.imageVersion, fun _ => .num s.version),
   (Od.odSchema, fun _ => .num s.schema),
   (Od.pxPerFrame, fun _ => .num (outputPixels s.boundCfg)),
   (Od.pxBudget, fun _ => .num s.budget),
   (Od.tilesUsed, fun _ => .num (s.boundCfg.recs Od.tileMap).length),
   (Od.feedsUsed, fun _ => .num (s.boundCfg.recs Od.feeds).length),
   (Od.endpointsUsed, fun _ => .num (s.boundCfg.recs Od.endpointMap).length),
   (Od.samplesUsed, fun _ => .num (Sys2Proof.Machine.samplesUsed s.boundCfg)),
   (Od.univInUsed, fun _ => .num (s.boundCfg.recs Od.sacnIn).length),
   (Od.univOutUsed, fun _ => .num (s.boundCfg.recs Od.sacnOut).length),
   (Od.pendingCommits, fun _ => .num s.tl.waiting.length),
   (Od.dirtyCount, fun _ => .num (min s.tl.dirty.length 65535)),
   (Od.persistPending, fun _ => .num (b2n s.persistWaits)),
   (Od.postedLog, fun _ => .tab s.od.posted.flatten),
   (Od.subscribers, fun _ => .tab ((List.range 16).flatMap s.subRecord)),
   (Od.eventLog, fun _ => .tab (s.od.log.flatMap Event.bytes)),
   (Od.deviceTime, fun _ => .num (timeOfNs s.now)),
   (Od.slewRemaining, fun _ => .num s.slewRemaining),
   (Od.baseMac, fun _ => .num (Config.baseMac % 2 ^ 48)),
   (Od.exact, fun p => .tab (s.exactTable p)),
   (Od.mcastHash, fun p => .tab (s.mcastHash p)),
   (Od.txqPound, fun p => .tab (s.txqTable p))]

/-- A POINTS page as it reads under these ENDPOINT_MAP records: the reserved bytes of a record that universe samples alone refer to read 0
(R9, R179, R180). -/
def pointsView (maps : List Bytes) (page : Nat) (b : Bytes) : Bytes :=
  let names (r : Bytes) (i : Nat) : Bool := decide (u32 r 4 ≤ page * 1048576 + i) && decide (page * 1048576 + i < u32 r 4 + u32 r 8)
  let univ := maps.filter fun r => u8 r 2 == 2
  let rest := maps.filter fun r => u8 r 2 != 2
  if univ.isEmpty then b
  else (records 8 b).zipIdx.flatMap (fun (r, i) => if univ.any (names · i) && !rest.any (names · i) then r.take 6 ++ natBE 2 0 else r) ++
    b.drop (b.length / 8 * 8)

/-- Views of spec/06 to spec/09. -/
def State.views2 (s : State) : List (OdRow × (Nat → OdVal)) :=
  let lut (i : Nat) : OdVal := .tab ((List.range 4096).flatMap fun e => natBE 4 (eotfEntry s.tl.cur i e))
  [(Od.strPathState, fun _ => .num (s.pathState 0)),
   (Od.strPathState.inst 1, fun _ => .num (s.pathState 1)),
   (Od.sacnStatus, fun _ => .tab s.sacnStatus),
   (Od.sacnCid, fun _ => .tab s.sacnCid),
   (Od.mapEotfLut, fun _ => lut 0),
   (Od.mapEotfLut.inst 1, fun _ => lut 1),
   (Od.univLut, fun _ => .tab ((List.range 4096).flatMap fun e => natBE 4 (univEntry s.tl.cur e))),
   (Od.points, fun p => .tab (pointsView (s.tl.cur.recs Od.endpointMap) p (s.tl.cur.tab Od.points p))),
   (Od.sampleBlocks, fun _ => .num (Sys2Proof.Machine.sampleBlocks s.boundCfg).length),
   (Od.tapRate, fun _ => .num (Sys2Proof.Machine.tapRate s.boundCfg)),
   (Od.offCanvasPx, fun _ => .num (Sys2Proof.Machine.offCanvasPx s.boundCfg)),
   (Od.calCachePending, fun _ => .num s.col.calQueue.length),
   (Od.calPages, fun _ => .tab s.calPagesTab),
   (Od.calCacheFree, fun _ => .num (s.calFree / 1024)),
   (Od.ageGain, fun _ => .tab s.ageGain),
   (Od.ageLedger, fun _ => .tab s.ageLedger),
   (Od.tileTemp, fun _ => .tab s.tileTemp),
   (Od.deadPx, fun _ => .num (countFlag s.boundCfg 15)),
   (Od.maskedPx, fun _ => .num (countFlag s.boundCfg 14)),
   (Od.sparePx, fun _ => .num (countFlag s.boundCfg 13)),
   (Od.feedStatus, fun _ => .tab s.feedStatus),
   (Od.clockLevel, fun _ => .num s.weir.level),
   (Od.activeMask, fun _ => .tab s.activeMask),
   (Od.critState, fun _ => .num (b2n s.weir.crit))]

/-- Views of spec/10 to spec/12. -/
def State.views3 (s : State) : List (OdRow × (Nat → OdVal)) :=
  [(Od.cellState, fun _ => .tab s.cellStates),
   (Od.cellsInService, fun _ => .tab s.cellsInService),
   (Od.sparesLeft, fun _ => .tab s.sparesLeft),
   (Od.delayLevel, fun _ => .tab s.delayLevel),
   (Od.cellBusy, fun _ => .tab s.cellBusy),
   (Od.readyDepth, fun _ => .tab s.readyDepth),
   (Od.waitHist, fun _ => .tab s.waitHistogram),
   (Od.flightOcc, fun _ => .tab s.flightOcc),
   (Od.graphSize, fun _ => .tab s.graphSize),
   (Od.poundConfig, fun _ => .tab ((List.range 4096).flatMap s.poundConfigRec)),
   (Od.poundStatus, fun _ => .tab s.poundStatus),
   (Od.poundEvents, fun _ => .tab s.poundEvents),
   (Od.poundCredits, fun _ => .tab s.poundCredits),
   (Od.sluiceState, fun _ => .tab s.sluiceState),
   (Od.tileStatus, fun _ => .tab s.tileStatus),
   (Od.sealStatus, fun _ => .tab s.sealStatus),
   (Od.highestEpochSeen, fun _ => .num s.nv.highest)]

/-- Views of spec/13 to spec/17. -/
def State.views4 (s : State) : List (OdRow × (Nat → OdVal)) :=
  [(Od.portClaim, fun p => .num (s.portClaim p)),
   (Od.chainStatus, fun p => .tab (s.chainStatus p)),
   (Od.rdmUids, fun p => .tab ((s.lp p).uids.flatMap fun u => natBE 6 u.1)),
   (Od.rdmResults, fun p => .tab ((s.lp p).results.flatMap (padTo 237))),
   (Od.gpioIn, fun p => .num (s.gpioIn p)),
   (Od.matrixFaults, fun g => .tab (s.matrixFaults g)),
   (Od.stringCfg, fun n => .tab (Sys2Proof.Machine.stringCfg s.tl.cur n)),
   (Od.stringStatus, fun _ => .tab s.stringStatus),
   (Od.senseGain, fun _ => .tab s.senseGains),
   (Od.lampHeat, fun _ => .tab s.lampHeat),
   (Od.rsTiming, fun _ => .tab s.rsShadow.1),
   (Od.rsScan, fun _ => .tab s.rsShadow.2),
   (Od.rsActive, fun _ => .tab s.rsActive),
   (Od.aqErrorLog, fun _ => .tab s.aqErrorLog),
   (Od.towState, fun _ => .num s.tow.state),
   (Od.epoch, fun _ => .num s.nv.epoch),
   (Od.pinState, fun _ => .num s.pinState),
   (Od.lastMirroredEpoch, fun _ => .num s.nv.mirrored),
   (Od.holdoffLeft, fun _ => .num s.holdoffLeft),
   (Od.mirrorStatus, fun _ => .tab s.mirrorStatus)]

/-- Views of spec/18 to spec/21. -/
def State.views5 (s : State) : List (OdRow × (Nat → OdVal)) :=
  [(Od.keyRegStatus, fun _ => .tab s.keyRegStatus),
   (Od.slotStatus, fun _ => .tab s.slotStatus),
   (Od.drbgState, fun _ => .num s.keys.drbg),
   (Od.updateState, fun _ => .num s.updateState),
   (Od.sessionInfo, fun _ => .tab s.sessionInfo),
   (Od.pieceBitmap, fun _ => .tab s.pieceBitmap),
   (Od.imageSlots, fun _ => .tab s.imageSlots),
   (Od.rollbackFloor, fun _ => .num s.upd.floor),
   (Od.lastResult, fun _ => .tab s.upd.lastResult),
   (Od.trimTStatus, fun _ => .tab s.trimTStatus),
   (Od.trimTTaps, fun _ => .tab s.trimTTaps),
   (Od.trimLog, fun _ => .tab s.trim.log.flatten),
   (Od.trimARecord, fun _ => .tab s.trimARecordRead),
   (Od.trimAState, fun _ => .num s.trim.aState),
   (Od.lifeUsed, fun _ => .num s.lifeUsed),
   (Od.powerOnTime, fun _ => .num s.trim.seconds),
   (Od.tjHistory, fun _ => .tab s.tjHistory),
   (Od.tjMaxSeen, fun _ => .num (ofS 16 (s.trim.tjMax.getD 0))),
   (Od.sramRepair, fun _ => .tab s.sramRepair),
   (Od.envmWear, fun _ => .num s.envmWear),
   (Od.capacity, fun _ => .tab (s.capacity s.budget)),
   (Od.powerState, fun _ => .num s.pwr.state),
   (Od.lastReset, fun _ => .num s.pwr.cause),
   (Od.domainState, fun _ => .tab (natBE 1 (b2n s.alive) ++ (s.pwr.doms.drop 1).flatMap (natBE 1))),
   (Od.strapsLive, fun _ => .num s.pwr.strapLive),
   (Od.resetCounts, fun _ => .tab (s.pwr.resetCounts.flatMap (natBE 2))),
   (Od.shutdowns, fun _ => .num s.nv.shutdowns),
   (Od.dieTemp, fun _ => .tab s.dieTemp),
   (Od.tjHottest, fun _ => .num (ofS 16 s.weir.tjHottest)),
   (Od.railMv, fun _ => .tab ((List.range 8).flatMap fun r => natBE 2 (Config.railMv s.fresh r)))]

/-- The views by chapter: only the list that can hold the entry is looked through. -/
def State.view (s : State) (key : Nat) : Option OdVal :=
  if key < 0x280000 then pickView key s.views1
  else if key < 0x400000 then pickView key s.views2
  else if key < 0x540000 then pickView key s.views3
  else if key < 0x700000 then pickView key s.views4
  else if key < 0x780000 then pickView key s.views2
  else if key < 0xB00000 then pickView key s.views5
  else if key < 0xE00000 then pickView key s.views4
  else pickView key s.views5

/-- The value in force of an entry (R51): of a shadowed entry, the value for CURRENT_FRAME. A calibration page is named by CAL_TARGET
(R212). -/
def State.entry (s : State) (r : OdRow) (i : Nat) : OdVal :=
  let key := r.key + i
  if key = Od.calData.key then .tab (kvGetD (calBase + s.reg Od.calTarget) [] s.tl.cur.tabs)
  else
    match s.view key with
    | some v => v
    | none => if r.acc = .rws then s.tl.cur.val r i else s.od.regs.val r i

/-- The key under which a shadow holds an entry: the pages of CAL_DATA are values of their own (R212). -/
def State.shadowKey (s : State) (key : Nat) : Nat := if key = Od.calData.key then calBase + s.reg Od.calTarget else key

/-- The shadow copy of a shadowed entry (R57): its value in the dirty set, or else the value in force. A POINTS page reads as the shadow copy
of ENDPOINT_MAP has it. -/
def State.shadowOf (s : State) (r : OdRow) (i : Nat) : OdVal :=
  let v := (kvGet (s.shadowKey (r.key + i)) s.tl.dirty).getD (s.entry r i)
  if r.key = Od.points.key then
    let maps := match kvGet Od.endpointMap.key s.tl.dirty with | some (.tab b) => records 16 b | _ => s.tl.cur.recs Od.endpointMap
    match v with | .tab b => .tab (pointsView maps i b) | .num _ => v
  else v

/-! ## Reads that clear -/

/-- What a read of an entry clears (Range column): the entry's counter, or the fields of its table. -/
def State.clearOnRead (s : State) (r : OdRow) (i : Nat) : State :=
  if r.clr = false then s
  else if r.key = Od.waitHist.key then { s with lk := { s.lk with waitHist := List.replicate 64 0 } }
  else if r.key = Od.poundEvents.key then s.clearPoundEvents
  else if r.key = Od.resetCounts.key then { s with pwr := { s.pwr with resetCounts := List.replicate 9 0 } }
  else s.setReg r 0 i

/-- Every row that a read clears. -/
def Od.clears : List OdRow := Od.table.filter OdRow.clr

/-- A group RESET clears everything that a read clears (R22). -/
def State.clearAll (s : State) : State :=
  Od.clears.foldl (fun (s : State) r => (List.range r.n).foldl (fun (s : State) i => s.clearOnRead r i) s) s

/-! ## Snapshot (R80) -/

/-- Entries that have a snapshot copy: those of access R and the sticky flags. -/
def snapshotRow (r : OdRow) : Bool := r.acc == .r || r.key == Od.tsqOvf.key || r.key == Od.rxOvf.key || r.key == Od.irqPending.key

/-- The copy a group SNAPSHOT latches. -/
def State.snapshotCopy (s : State) : List (Nat × OdVal) :=
  (Od.table.filter snapshotRow).flatMap fun r => (List.range r.n).map fun i => (r.key + i, s.entry r i)

/-- SNAPSHOT_LATCH: the whole copy is replaced (R80). -/
def State.latchSnapshot (s : State) (frame : Nat) : State :=
  let s := s.setReg Od.snapshotFrame frame
  { s with od := { s.od with snapshot := some s.snapshotCopy } }

end Sys2Proof.Machine
end

