-- ==== Sys2Proof/Machine/Writes.lean ====
section
/-!
DEFINITION. What an accepted write of an RW or W entry does when it takes effect (R56): at the first tick after it was accepted,
unless the owning chapter sets another boundary.
-/
namespace Sys2Proof.Machine

/-- RASTER_EN takes effect (R360): the raster starts at its next frame start; disabled, its pairs are released. -/
def State.rasterEnabled (s : State) (v : Nat) : State :=
  if v = 1 then { s with ras := { s.ras with inFrame := false, rate := s.tl.rate, rateChange := false } }
  else { s with ras := { s.ras with inFrame := false, pins := [0, 0] } }

/-- LANE_EN takes effect (R124). -/
def State.laneEnabled (s : State) (p v : Nat) : State := if v = 0 then s.stopPort p else s

/-- A pound binding of a disabled port takes effect (R127, R134, R137, R279): the pounds it names have a block now. -/
def State.bindPounds (s : State) (key : Nat) : State :=
  let cfg := s.tl.newest
  if Od.txqPound.holds key then
    let p := key - Od.txqPound.key
    (List.range 8).foldl (fun (s : State) q => s.takePound cfg (s.txPound p q) 1) s
  else if Od.txComplPound.holds key then s.takePound cfg (s.reg Od.txComplPound (key - Od.txComplPound.key)) 2
  else
    let b := s.reg Od.badPound (key - Od.badPound.key)
    if b < 4096 then s.takePound cfg b 3 else s

/-- What a new value of an entry does beside standing in it; `old` is the value before. -/
def State.afterWrite (s : State) (key : Nat) (old new : OdVal) : State :=
  let n (v : OdVal) : Nat := match v with | .num n => n | .tab _ => 0
  if Od.laneEn.holds key then s.laneEnabled (key - Od.laneEn.key) (n new)
  else if Od.role.holds key ∨ key = Od.ptpEnable.key ∨ key = (Od.ptpEnable.inst 1).key then s.ptpChecks
  else if Od.portEn.holds key then (s.portEnabled (key - Od.portEn.key) (n old) (n new)).lampPins
  else if Od.portMode.holds key ∨ Od.gpio.holds key then s.lampPins
  else if Od.txqPound.holds key ∨ Od.txComplPound.holds key ∨ Od.badPound.holds key then s.bindPounds key
  else if key = Od.rasterEn.key then s.rasterEnabled (n new)
  else if key = Od.tickOutEn.key ∨ key = Od.ppsOutEn.key then s.timePins
  else if key = Od.autoSwitch.key then s.autoSwitch
  else if key = Od.switchSlew.key then s.resumeSlew
  else if key = Od.sluiceMap.key then s.applySluiceMap
  else if Od.rate.holds key then s.setPathDelays (key - Od.rate.key)
  else if Od.fec.holds key then s.setPathDelays (key - Od.fec.key)
  else if key = Od.mgmt0Speed.key then (if n old = n new then s else s.mgmtSpeedSet 24 (n new))
  else if key = Od.mgmt1Speed.key then (if n old = n new then s else s.mgmtSpeedSet 25 (n new))
  else s

/-- A write takes effect. A write of 0 clears a sticky flag and a write of 1 leaves it (R108, R139); AGE_LEDGER takes the units it
names (R199); TRIM_A_APPLY_AT holds one waiting application (R453); the rest take the value whole (R56), and persisted ones are to
be journalled (R53). -/
def State.applyWrite (s : State) (key : Nat) (v : OdVal) : State :=
  match Od.find key with
  | none => s
  | some (r, i) =>
    let old := s.od.regs.val r i
    match v with
    | .num n =>
      if r.key = Od.tsqOvf.key ∨ r.key = Od.rxOvf.key then (if n = 0 then s.setReg r 0 i else s)
      else if r.key = Od.trimAApplyAt.key then s.writeApplyAt n
      else
        let s := s.setReg r n i
        let s := if r.persist then s.noteJournal key v else s
        s.afterWrite key old v
    | .tab b =>
      if r.key = Od.ageLedger.key then s.setLedgers b
      else
        let s := s.setRegTab r b i
        let s := if r.persist then s.noteJournal key v else s
        s.afterWrite key old v

/-- A write is accepted and waits for the next tick (R56). -/
def State.pendWrite (s : State) (key : Nat) (v : OdVal) : State :=
  { s with od := { s.od with pend := s.od.pend ++ [(key, v, s.now)] } }

/-- The value an entry has once the writes that wait have taken effect. -/
def State.soon (s : State) (r : OdRow) (i : Nat := 0) : Nat :=
  s.od.pend.foldl (fun (a : Nat) (p : Nat × OdVal × Nat) =>
    match p.2.1 with
    | .num n => if p.1 = r.key + i then n else a
    | .tab _ => a) (s.reg r i)

/-- Of several writes to one entry the last (R56). -/
def lastWrites : List (Nat × OdVal × Nat) → List (Nat × OdVal × Nat)
  | [] => []
  | p :: t => if t.any fun q => q.1 == p.1 then lastWrites t else p :: lastWrites t

/-- The writes that take effect at this tick: those accepted before it, of each entry the last (R56). A write of DOMAIN_EN is among them or
not. -/
def State.applyPend (s : State) : State :=
  let due := s.od.pend.filter fun p => p.2.2 != s.now
  let s := { s with od := { s.od with pend := s.od.pend.filter fun p => p.2.2 == s.now } }
  let s := (lastWrites due).foldl (fun (s : State) p => s.applyWrite p.1 p.2.1) s
  s.applyDomainEn (due.any fun p => p.1 == Od.domainEn.key)

end Sys2Proof.Machine
end

