-- ==== Sys2Proof/Machine/Timeline.lean ====
section
/-!
DEFINITION. The timeline (spec/02): cut-offs, ticks in the order of R46, missed ticks, hold decisions, launches and presentation.
-/
namespace Sys2Proof.Machine

/-! ## The instants of a frame (R28, R29) -/

/-- D of a frame (R28). -/
def Frame.d (f : Frame) : Nat := f.cfg.num Od.presentDelay

/-- The tick of its own grid that presents a frame. -/
def Frame.presentTick (f : Frame) : Nat := f.k + f.d

/-- t_{k+D}. -/
def Frame.presentAt (f : Frame) : Nat := tickTime f.rate f.presentTick

/-- L_o (R29). -/
def Frame.launchAt (f : Frame) (o : OutFrame) : Nat := ((f.presentAt : Int) - o.lam).toNat

def State.running (s : State) : Bool := s.reg Od.timelineState == 1

/-- The tiles of a frame that hold in their lanes' plans after they launched (R294). -/
def State.planHeld (s : State) (f : Frame) (o : Out) : Bool :=
  match o with
  | .tile n => match s.planOf f.k n with | some (_, _, t) => t.hold | none => false
  | _ => false

/-! ## Cut-off (R35–R41, R204, R199, R164) -/

/-- What a change of resets a unit's residuals (R204). -/
def unitShape (cfg : Store) (unit : Nat) : List Nat :=
  let n := unit % 65536
  match unit / 65536 with
  | 0 => [u16 (tileColourRec cfg n) 2, b2n (bit (u8 (tileColourRec cfg n) 6) 0), u16 (tileMapRec cfg n) 4, u16 (tileMapRec cfg n) 6]
  | 1 => [epBits (packRec cfg n), epChannels (packRec cfg n), b2n (epDither (packRec cfg n)), epCount cfg n]
  | _ =>
    let c := cfg.rec1 Od.rasterColour
    let m := cfg.rec1 Od.rasterMap
    [u16 c 2, b2n (bit (u8 c 6) 0), u16 m 4, u16 m 6]

/-- Units whose residuals the settings `new` reset, coming after `old` (R204). -/
def State.resetUnits (s : State) (old new : Store) : List Nat :=
  let was := (unitsOf old).map UnitDef.unit
  ((unitsOf new).map UnitDef.unit).filter fun u => s.col.ditherReset || (was.contains u && unitShape old u != unitShape new u)

/-- Commits bound to frame `k` or an earlier one, in the order their values apply (R38, R43). -/
def State.dueCommits (s : State) (k : Nat) : List Commit := inOrder (s.tl.waiting.filter fun c => decide (c.bound ≤ k))

/-- The settings of frame `k` (R38). -/
def State.settingsAt (s : State) (k : Nat) : Store :=
  applyCommits s.tl.newest ((s.dueCommits k).map fun (c : Commit) => { c with bound := k })

/-- The commits bound to frame `k` are fixed into its settings (R38). -/
def State.fixSettings (s : State) (k : Nat) : State :=
  let new := s.settingsAt k
  let old := s.tl.newest
  let bound := !(s.dueCommits k).isEmpty
  let t := { s with tl := { s.tl with newest := new, waiting := s.tl.waiting.filter fun c => decide (k < c.bound) } }
  if bound then t.bindTiles old new k else t

/-- Group SNAPSHOT and RESET bound to frame `k` act as its intake begins (R21, R22, R80). -/
def State.actGroups (s : State) (k : Nat) : State :=
  let due (g : GroupCmd) : Bool := g.kind != 0 && !g.acted && decide (g.bound ≤ k)
  let acts := s.od.groups.filter due
  let left := (s.od.groups.map fun (g : GroupCmd) => if due g then { g with acted := true } else g).filter fun g => !(g.acted && g.replied)
  let s := { s with od := { s.od with groups := left } }
  acts.foldl (fun (s : State) g => if g.kind = 1 then s.latchSnapshot (frameNo k) else s.clearAll) s

/-- sACN output universes of a configuration. -/
def sacnUniverses (cfg : Store) : List (Nat × Bytes) := (cfg.recs Od.sacnOut).map fun r => (u16 r 0, r)

/-- Universes that the settings of a frame drop send Stream_Terminated in three frames, the last bound frame the first (R164). -/
def State.endUniverses (s : State) (old new : Store) : State :=
  let now := sacnUniverses new
  let gone := (sacnUniverses old).filter fun u => !now.any fun v => v.1 == u.1
  let back (u : Nat) : Bool := now.any fun v => v.1 == u
  let last := s.tl.frames.getLast?.map Frame.k
  let frames := s.tl.frames.map fun (f : Frame) => if some f.k = last then { f with ending := f.ending ++ gone } else f
  let ending := (s.intake.ending.filter fun e => !back e.1) ++ gone.map fun u => (u.1, 2, u.2)
  { s with tl := { s.tl with frames := frames }, intake := { s.intake with ending := ending } }

/-- Frame `k` enters (R28): its settings and ageing gains are fixed, and the units whose residuals it resets. With D lowered, frames
that would be presented no later than an earlier one of their grid are skipped (R40). -/
def State.openFrame (s : State) (k : Nat) (prev : Store) : State :=
  let cfg := s.tl.newest
  let s := s.endUniverses prev cfg
  let resets := s.resetUnits prev cfg
  let latest := (s.tl.frames.filter fun f => !f.old && !f.skipped).foldl (fun (a : Nat) f => max a f.presentTick) 0
  let skipped := decide (k + cfg.num Od.presentDelay ≤ latest)
  let f : Frame := { k := k, rate := s.tl.rate, cfg := cfg, skipped := skipped, ord := s.tl.opened
                     gains := if cfg.bool Od.ageEn then s.col.gains else [], ending := s.intake.ending.map fun e => (e.1, e.2.2) }
  let ending := (s.intake.ending.map fun e => (e.1, e.2.1 - 1, e.2.2)).filter fun e => e.2.1 != 0
  let s := { s with tl := { s.tl with frames := s.tl.frames ++ [f], nextCut := k + 1, opened := s.tl.opened + 1 }
                    intake := { s.intake with ending := ending }
                    col := { s.col with ditherReset := false, resetFrom := s.col.resetFrom ++ resets.map fun u => (u, f.ord) } }
  let s := s.count Od.residualResets resets.length
  if skipped then s.count Od.skippedFrames else s

/-- A FRAME_RATE change bound to frame `k` of the old grid (R41): frame k − 1 was its last frame, the new grid begins with the frame
whose tick is the first at or after old tick k, and old ticks go on for the old frames in flight. A group SNAPSHOT or RESET that waits
binds anew on the new grid (R22). Where the commit changes PRESENT_DELAY too, the frames of the new grid have the new D from its first
frame on, and none is skipped for want of one across the two grids: the model's choice (log entry 126). -/
def State.changeRate (s : State) (k rate : Nat) : State :=
  let old := s.tl.rate
  let j := tickFrom rate (tickTime old k)
  let d := s.tl.newest.num Od.presentDelay
  let last := s.tl.frames.foldl (fun (a : Nat) f => if f.old then a else max a f.presentTick) (k - 1)
  let s := s.reindex rate k j
  { s with
    tl := { s.tl with rate := rate, nextTick := j, nextCut := j, first := j, oldGrids := s.tl.oldGrids ++ [(old, s.tl.nextTick, last, k)]
                      frames := s.tl.frames.map fun (f : Frame) => { f with old := true } }
    ras := { s.ras with rateChange := true }
    od := { s.od with groups := s.od.groups.map fun (g : GroupCmd) => if g.acted then g else { g with bound := max j (frameAsked (fun _ => d) (tickFrom rate g.execNs)) } } }

/-- A cut-off while the timeline is STOPPED: settings and grid move on, and no frame enters. -/
def State.cutStopped (s : State) (k : Nat) (prev : Store) : State :=
  let cfg := s.tl.newest
  let resets := s.resetUnits prev cfg
  let s := { s with
    col := { s.col with ditherReset := false, residuals := s.col.residuals.filter fun r => !resets.contains r.1
                        resetFrom := s.col.resetFrom.filter fun r => !resets.contains r.1 }
    tl := { s.tl with nextCut := k + 1 } }
  let s := s.count Od.residualResets resets.length
  if cfg.num Od.frameRate = s.tl.rate then s
  else ({ s with tl := { s.tl with rate := cfg.num Od.frameRate }, ras := { s.ras with rateChange := true } }).retick

/-- The cut-off of frame `k` (R38). -/
def State.cutOff (s : State) (k : Nat) : State :=
  let prev := (s.tl.frames.getLast?.map Frame.cfg).getD s.tl.newest
  let s := (s.fixSettings k).actGroups k
  if !s.running then s.cutStopped k prev
  else if s.tl.newest.num Od.frameRate = s.tl.rate then s.openFrame k prev
  else s.changeRate k (s.tl.newest.num Od.frameRate)

/-- The frame whose cut-off falls next; a cut-off that passed while PD_CORE was off is gone. -/
def State.cutIndex (s : State) : Nat :=
  if s.running then s.tl.nextCut else max s.tl.nextCut (tickFrom s.tl.rate (s.now + s.reg Od.commitCutoff * 1000))

/-- FRAME_CUTOFF (R28, R38): at tick k − COMMIT_CUTOFF. -/
def execFrameCutoff (s : State) : Host.Outcome State Fault Refusal :=
  finish s (
    if s.domOn 1 then (s.goTo (tickTime s.tl.rate s.cutIndex - s.reg Od.commitCutoff * 1000)).cutOff s.cutIndex else s)

/-! ## Decisions and launches (R29–R33) -/

/-- What stands for an output in a frame. -/
def Frame.out? (f : Frame) (o : Out) : Option OutFrame := f.outs.find? fun x => x.out == o

def Frame.setDecision (f : Frame) (o : Out) (d : Nat) : Frame :=
  { f with outs := f.outs.map fun (x : OutFrame) => if x.out = o then { x with decision := d } else x }

def State.outState (s : State) (o : Out) : OutState := ((s.tl.outs.find? fun p => p.1 == o).map (·.2)).getD {}

def State.setOut (s : State) (o : Out) (x : OutState) : State :=
  { s with tl := { s.tl with outs := (s.tl.outs.filter fun p => p.1 != o) ++ [(o, x)] } }

/-- A universe the frame sends only to end it (R164). -/
def Frame.endsOnly (f : Frame) (o : Out) : Bool :=
  match o with
  | .sacn u => (f.cfg.recOf Od.sacnOut u).isNone
  | _ => false

/-- Zero drive for an output that has presented nothing since the timeline started (R33). -/
def State.zeroDrive (s : State) (o : Out) : State :=
  match o with
  | .matrix g => s.setMg g { s.mg g with shown := none, next := none }
  | .str n => s.setStr n { s.str n with setpoint := none }
  | .raster _ => { s with ras := { s.ras with shown := none, next := none } }
  | .dmx p => s.setLp p { s.lp p with launched := none, carried := true }
  | _ => s

/-- The output's LATCH says HOLD (R293). -/
def State.latchHolds (s : State) (f : Frame) (o : Out) : State :=
  match o with
  | .tile n =>
    let tiles (l : LanePlan) : LanePlan := { l with tiles := l.tiles.map fun (t : PlanTile) => if t.tile = n then { t with hold := true } else t }
    { s with zl := { s.zl with plans := s.zl.plans.map fun (l : LanePlan) => if l.frame = f.k then tiles l else l } }
  | _ => s

/-- The feeds of the units that give an output its data. -/
def outFeeds (cfg : Store) (o : Out) : List Nat := (((unitsOf cfg).filter fun u => u.outs.contains o).filterMap UnitDef.feed).eraseDups

/-- PRESENTED_IN of the output's feeds, once all their outputs are decided (R225). -/
def State.presentFeeds (s : State) (k : Nat) (o : Out) : State :=
  match s.frame? k with
  | none => s
  | some f => (outFeeds f.cfg o).foldl (fun (s : State) feed => s.presentFeed f feed) s

/-- The output holds in the frame (R31–R33). -/
def State.holdOut (s : State) (f : Frame) (o : Out) : State :=
  let s := (s.setFrame (f.setDecision o 2)).settleOutput f o false
  let s := (s.count Od.holds).setReg Od.heldLast (frameNo f.k)
  let s := s.latchHolds f o
  (if (s.outState o).shown then s else s.zeroDrive o).presentFeeds f.k o

/-- Some unit that gives the output its data is forced to hold (R224). -/
def Frame.forcedOut (f : Frame) (o : Out) : Bool := (unitsInto f.cfg o).any f.forced.contains

/-- The output can launch (R30, R31, R224, R260, R292, R307). -/
def State.canLaunch (s : State) (f : Frame) (o : Out) : Bool :=
  f.endsOnly o ||
    (!f.abandoned && s.outComplete f o && !(s.outState o).latOver && !f.forcedOut o &&
      (match o with | .tile n => s.tileCanLaunch f.cfg f.k n | _ => true))

/-- The decision on an output (R31). -/
def State.decide_ (s : State) (f : Frame) (o : Out) : State :=
  if s.canLaunch f o then ((s.setFrame (f.setDecision o 1)).settleOutput f o true).presentFeeds f.k o else s.holdOut f o

/-- HOLD_DECISION (R31): at L_o − LAUNCH_GUARD, for the earliest closed frame in which the output is undecided. -/
def execHoldDecision (o : Out) (s : State) : Host.Outcome State Fault Refusal :=
  finish s (
    match s.tl.frames.find? fun f => f.closed && (match f.out? o with | some x => x.decision == 0 | none => false) with
    | none => s
    | some f =>
      match f.out? o with
      | none => s
      | some x => if s.domOn 1 then (s.goTo (f.launchAt x - s.reg Od.launchGuard * 1000)).decide_ f o else s)

/-- The SACN_OUT record of a universe in a frame, or of one it ends. -/
def Frame.sacnRec (f : Frame) (u : Nat) : Bytes :=
  match f.cfg.recOf Od.sacnOut u with
  | some r => r
  | none => ((f.ending.find? fun e => e.1 == u).map (·.2)).getD []

/-- A synchronisation packet follows the frame's last data packet on a lane (R164). -/
def State.syncLane (s : State) (k lane : Nat) : State :=
  match s.frame? k with
  | none => s
  | some f =>
    let mine (x : OutFrame) : Bool := match x.out with | .sacn u => u8 (f.sacnRec u) 2 == lane | _ => false
    let outs := f.outs.filter mine
    let sent (x : OutFrame) : Bool := x.decision == 3 || (s.outState x.out).shown
    if (outs.all fun x => decide (3 ≤ x.decision)) && outs.any sent then s.sendSacnSync f.cfg lane else s

/-- A universe's packet at L_o: its new slots where it launches, or else those it presented last, where there are any (R164). -/
def State.sendSlots (s : State) (f : Frame) (u : Nat) (new : Bool) : State :=
  let r := f.sacnRec u
  let old := kvGetD 0 [] (s.outState (.sacn u)).data
  let slots := if new && !f.endsOnly (.sacn u) then slotBytes (u16 r 3) (f.data (.sacn u)) else old
  let ends := f.ending.any fun e => e.1 == u
  if slots.isEmpty then s
  else (s.setOut (.sacn u) { s.outState (.sacn u) with data := [(0, slots)] }).sendUniverse f.cfg r slots ends

/-- The data of a launched output leaves (R29). -/
def State.launchOut (s : State) (f : Frame) (o : Out) : State :=
  match o with
  | .tile n => s.launchTile f.cfg f.k n (tilePayload (formatQ (u16 (tileColourRec f.cfg n) 2)) (f.data o))
  | .chain p => s.launchChain f.cfg f.k p (f.data o)
  | .dmx p => s.launchDmx f.cfg f.k p (f.data o)
  | .matrix g => s.launchMatrix f.cfg g (f.data o)
  | .str n => s.launchString f.cfg n (u16 (kvGetD 0 [] (f.data o)) 0)
  | .raster _ =>
    let m := f.cfg.rec1 Od.rasterMap
    s.launchRaster (u16 (f.cfg.rec1 Od.rasterColour) 2) (u16 m 4) (u16 m 6) ((f.data o).flatMap (·.2))
  | .sacn u => s.sendSlots f u true

/-- What a held output sends at L_o (R164, R322); a chain that has presented nothing since the timeline started receives nothing
(R33). -/
def State.resendOut (s : State) (f : Frame) (o : Out) : State :=
  match o with
  | .chain p => if (s.outState o).shown then s.holdChain f.cfg p else s
  | .sacn u => s.sendSlots f u false
  | _ => s

/-- After an output's instant L_o: the lane's synchronisation packet, where the output is a universe. -/
def State.afterLaunch (s : State) (f : Frame) (o : Out) : State :=
  match o with
  | .sacn u => s.syncLane f.k (u8 (f.sacnRec u) 2)
  | _ => s

/-- A tile's plan keeps how the tile stood before this launch, until its LATCH is out (R294). -/
def State.keepTile (s : State) (f : Frame) (o : Out) : State :=
  match o with
  | .tile n =>
    let was := s.tileWas f n
    let keep (l : LanePlan) : LanePlan := { l with tiles := l.tiles.map fun (t : PlanTile) => if t.tile = n ∧ t.hold = false then { t with was := some was } else t }
    { s with zl := { s.zl with plans := s.zl.plans.map fun (l : LanePlan) => if l.frame = f.k then keep l else l } }
  | _ => s

/-- L_o of an output that was decided (R29). -/
def State.atLaunch (s : State) (f : Frame) (x : OutFrame) : State :=
  if x.decision = 1 then
    let s := (s.setFrame (f.setDecision x.out 3)).launchOut f x.out
    let s := s.setOut x.out { s.outState x.out with shown := (s.outState x.out).shown || !f.endsOnly x.out }
    let s := s.keepTile f x.out
    (if s.planHeld f x.out then s else (unitsInto f.cfg x.out).foldl (fun (s : State) u => s.unitLaunched f u) s).afterLaunch f x.out
  else ((s.setFrame (f.setDecision x.out 4)).resendOut f x.out).afterLaunch f x.out

/-- OUTPUT_LAUNCH (R29): at L_o, for the earliest frame in which the output is decided and has not had its instant. -/
def execOutputLaunch (o : Out) (s : State) : Host.Outcome State Fault Refusal :=
  finish s (
    match s.tl.frames.find? fun f => (match f.out? o with | some x => x.decision == 1 || x.decision == 2 | none => false) with
    | none => s
    | some f =>
      match f.out? o with
      | none => s
      | some x => if s.domOn 1 then (s.goTo (f.launchAt x)).atLaunch f x else s)

/-! ## The close of a frame (R46 step 3) -/

/-- λ_o at a close (R29, R164, R291, R317, R324, R331, R345, R369). -/
def State.outLambda (s : State) (f : Frame) (o : Out) : Int :=
  match o with
  | .tile n => match s.planOf f.k n with | some (_, _, t) => t.lam | none => 0
  | .chain p => s.chainLambda f.cfg p
  | .dmx p => u32 (dmxRec f.cfg p) 8
  | .matrix g => mxLoad (matrixRec f.cfg g)
  | .str n => s.stringLambda n
  | .raster _ => s.rasterLambda
  | .sacn u => u32 (f.sacnRec u) 22

/-- λ_o + LAUNCH_GUARD exceeds T − 500 µs (R30). -/
def latencyOver (rate : Nat) (lam : Int) (guard : Nat) : Bool :=
  decide ((((rateOf rate).2 * 1000000000 : Nat) : Int) < (lam + ((guard * 1000 + 500000 : Nat) : Int)) * (rateOf rate).1)

/-- R30 for one output: held at every frame, and reported at the first. -/
def State.checkLatency (s : State) (rate : Nat) (x : OutFrame) : State :=
  let tooLate := latencyOver rate x.lam (s.reg Od.launchGuard)
  let was := s.outState x.out
  if tooLate = was.latOver then s
  else
    let s := s.setOut x.out { was with latOver := tooLate }
    if tooLate then s.raise 0x1414 else s

/-- Every output of the frame, with the λ_o fixed now (R29, R30, R292). -/
def State.fixOuts (s : State) (f : Frame) : State :=
  let s := s.closePlans f.cfg f.rate f.k f.d
  let outs := (outputsOf f.cfg ++ f.ending.map fun e => Out.sacn e.1).eraseDups
  let xs := outs.map fun o => ({ out := o, lam := s.outLambda f o } : OutFrame)
  let s := s.setFrame { f with outs := xs }
  xs.foldl (fun (s : State) x => s.checkLatency f.rate x) s

/-- At the first close after the timeline started, the blocks that stayed on switch to the new code (R440). -/
def State.switchCode (s : State) : State :=
  if s.upd.newCode then
    let im := s.image s.upd.running
    ({ s with upd := { s.upd with newCode := false } }).raise 0xA002 (natBE 4 im.version ++ natBE 1 im.tries)
  else s

/-- What a close fixes (R154, R163, R193, R204, R306, R317, R346, R352, R376). -/
def State.closeContent (s : State) (f : Frame) : State × Frame :=
  let (s, f) := s.intakeClose f
  let (s, f) := s.closeTemps f
  let f := f.aqRoutes
  let s := (s.closeStrings f.cfg).closeChains f.cfg
  ((s.closeSeals f.cfg f.ord).switchCode, f)

/-- Step 3: frame `f` closes, with its content where the tick is acknowledged and the frame was not abandoned. -/
def State.closeFrame (s : State) (f : Frame) (content : Bool) : State :=
  if content then let (s, f) := s.closeContent f; s.fixOuts f
  else s.fixOuts { f with closed := true }

/-! ## Presentation -/

/-- A frame is presented (R28, R31): outputs still undecided hold, and the tick's holds are reported once. -/
def State.present (s : State) (f : Frame) : State :=
  let s := (f.outs.filter fun x => x.decision == 0).foldl (fun (s : State) x =>
    match s.frame? f.k with | some g => s.holdOut g x.out | none => s) s
  let g := (s.frame? f.k).getD f
  let held := (g.outs.filter fun x => (x.decision != 1 && x.decision != 3) || s.planHeld g x.out).length
  let s := if held = 0 then s else s.raise 0x1410 (natBE 2 held)
  let s := s.setReg Od.presentedFrame (frameNo f.k)
  ({ s with tl := { s.tl with pres := f.cfg, anyShown := true, frames := s.tl.frames.filter fun x => x.k != f.k } } : State).dropStrings f.cfg

/-- The tick belongs to the grid whose frames are presented now: that of the oldest frame in flight (R41). -/
def State.presents (s : State) (rate : Nat) (main : Bool) : Bool :=
  match s.tl.frames.find? fun f => !f.skipped with
  | some f => if f.old then !main && f.rate == rate else main
  | none => main

/-- The presentation of one tick; at a tick of the grid being presented at which no frame is due, after a raised D or until the new
grid's first frame is presented, every output holds (R40, R41). -/
def State.presentAtTick (s : State) (rate k : Nat) (main : Bool) : State :=
  match s.tl.frames.find? fun f => f.rate == rate && f.old == !main && !f.skipped && f.presentTick == k with
  | some f => s.present f
  | none =>
    if s.running && s.tl.anyShown && s.presents rate main then s.count Od.transitionHolds (outputsOf s.tl.pres).length else s

/-! ## The tick (R46) -/

/-- Step 1: TICK_OUT (R45). -/
def State.tickOutRise (s : State) (k : Nat) : State :=
  if s.reg Od.tickOutEn == 1 && s.timeLocked && k % max (s.reg Od.tickOutDiv) 1 == 0 then
    { s with tl := { s.tl with tickOut := 1, tickOutEnd := s.now + 1000 } }
  else s

/-- Writes, switches and hand-overs that wait for the tick (R56, R99, R402), and the hold-off's condition (R397). -/
def State.tickBoundary (s : State) : State :=
  let s := if s.reg Od.missedRun = 0 then { s with tow := { s.tow with calm := true } } else s
  let s := s.applyPend.selectAtTick
  if s.tow.handover then s.towRelease 1 1 else s

/-- Steps 1 and 2 at a tick of the generator, with what takes effect at the next tick. -/
def State.tickHead (s : State) (k : Nat) : State :=
  let s := (s.tickBoundary.tickOutRise k).applyTrim
  let s := s.applyTrimA s.now
  if s.domOn 1 then s.addDrive else s

/-- Step 4 (R227, R228). -/
def State.tickWeir (s : State) : State := if s.domOn 1 then s.raiseClock.publishAllowance else s

/-- The old grid whose tick is due before the generator's, if any. -/
def State.oldDue (s : State) : Option (Nat × Nat × Nat × Nat) :=
  let main := tickTime s.tl.rate s.tl.nextTick
  s.tl.oldGrids.foldl (fun (a : Option (Nat × Nat × Nat × Nat)) g =>
    let t := tickTime g.1 g.2.1
    let best := match a with | some b => tickTime b.1 b.2.1 | none => main
    if t < best then some g else a) none

/-- The frame that closes at tick `k` of a grid: j = k − D + 1 (R28, R46). -/
def State.closing (s : State) (rate k : Nat) (main : Bool) : Option Frame :=
  s.tl.frames.find? fun f => f.rate == rate && f.old == !main && !f.skipped && !f.closed && f.presentTick == k + 1

/-- Step 3 for the frame that closes at tick `k`, if any; `ok` where the frame engine acknowledges (R42). -/
def State.tickClose (s : State) (rate k : Nat) (main ok : Bool) : State :=
  match s.closing rate k main with
  | none => s
  | some f => s.closeFrame f (ok && !f.abandoned)

/-- Step 5 at tick `k`: the graph of frame j is released, where the tick is acknowledged and the frame was not abandoned. At a missed
tick nothing of the release takes place (R259); where there is no graph to release, barges whose DEADLINE has come are retired
(R240; log entry 127). -/
def State.tickRelease (s : State) (rate k : Nat) (main ok : Bool) : State :=
  match s.tl.frames.find? fun f => f.rate == rate && f.old == !main && !f.skipped && f.presentTick == k + 1 with
  | some f => if !ok then s else if f.abandoned then s.retireBarges k else s.releaseGraph f k f.presentAt
  | none => if ok && main && s.domOn 1 then s.retireBarges k else s

/-- Skipped frames of a grid close with the tick before the one that would present them, and go with that one (R40). -/
def State.sweepSkipped (s : State) (rate k : Nat) (main : Bool) : State :=
  let mine (f : Frame) : Bool := f.skipped && f.rate == rate && f.old == !main
  let frames := s.tl.frames.filter fun f => !(mine f && decide (f.presentTick ≤ k))
  { s with tl := { s.tl with frames := frames.map fun (f : Frame) => if mine f && decide (f.presentTick ≤ k + 1) then { f with closed := true } else f } }

/-- Frame `k` becomes the current frame: its pound settings take effect, and its outputs take their pounds (R279, R281). -/
def State.enterFrame (s : State) (k : Nat) (main : Bool) : State :=
  let old := s.tl.cur
  let s :=
    if !s.running then { s with tl := { s.tl with cur := s.tl.newest } }
    else
      match s.tl.frames.find? fun f => f.old == !main && f.k == k with
      | some f => ({ s with tl := { s.tl with cur := f.cfg } }).setReg Od.currentFrame (frameNo k)
      | none => s
  ((s.applyPoundConfig old s.tl.cur).takeOutPounds s.tl.cur).applyStreams

/-- Acknowledgement of tick `k` of a grid (R42, R397, R443): none is due before the timeline's first frame. -/
def State.acknowledge (s : State) (rate k : Nat) (main ack : Bool) : State :=
  let due := s.running && (!main || decide (s.tl.first ≤ k))
  if due && ack then
    let s := s.setReg Od.missedRun 0
    { s with tow := { s.tow with missed := 0 }
             upd := { s.upd with calmSince := match s.upd.calmSince with | some t => some t | none => if s.upd.trial then some s.now else none } }
  else if due || (s.tow.engineRan && !s.running) then { s with tl := { s.tl with awaitAck := some (rate, k) } }
  else s

/-- What the mode asks for at a tick: mooring and its end (R392), and the restart that SHUT_AUTO_RESTART allows (R474). -/
def State.tickModes (s : State) : State :=
  if s.pair && s.tow.state == 1 && s.pwr.state == 2 && s.reg Od.standbyMode == 1 then s.enterMooring
  else if s.tow.state == 4 && s.pwr.state == 3 && s.reg Od.standbyMode == 0 then s.leaveMooring
  else if s.pwr.state == 5 && !s.pwr.shutLatched && s.reg Od.shutAutoRestart == 1 then s.thermalStart
  else s

/-- A tick of the generator (R46), at its instant: `rate` is that of its grid, an old one until its boundary (R41). `ack` is how long after
the tick the frame engine acknowledges it; step 5 takes place at that instant (R42; log entry 125). -/
def State.fullTick (s : State) (rate k : Nat) (main : Bool) (ack : Option Nat) : State :=
  let after := s.tl.rate
  let s := { s with tl := { s.tl with rate := rate } }
  let s := s.presentAtTick rate k main
  let s := s.tickHead k
  let s := if s.domOn 1 then (s.sweepSkipped rate k main).enterFrame k main else s
  let s := (s.tickClose rate k main ack.isSome).tickWeir
  let s := match ack with | some d => s.goTo (s.now + d) | none => s
  let s := s.tickRelease rate k main ack.isSome
  let s := if s.domOn 1 then (s.actFrameLists k).closePeriod else s
  ({ s with tl := { s.tl with rate := after } }).acknowledge rate k main ack.isSome

/-- A tick of an old grid: presentation, close and release alone, once its boundary has passed (R41); the tick before that is the
generator's. -/
def State.oldTick (s : State) (g : Nat × Nat × Nat × Nat) (ack : Option Nat) : State :=
  let k := g.2.1
  let s := s.goTo (tickTime g.1 k)
  let step (o : Nat × Nat × Nat × Nat) : Nat × Nat × Nat × Nat := if o = g then (o.1, k + 1, o.2.2) else o
  let s := { s with tl := { s.tl with oldGrids := (s.tl.oldGrids.map step).filter fun o => decide (o.2.1 ≤ o.2.2.1) } }
  if k < g.2.2.2 then s.fullTick g.1 k false ack
  else (((s.presentAtTick g.1 k false).sweepSkipped g.1 k false).tickClose g.1 k false true).tickRelease g.1 k false true

/-- The generator's tick. -/
def State.mainTick (s : State) (ack : Option Nat) : State :=
  let k := s.tl.nextTick
  let s := s.goTo (tickTime s.tl.rate k)
  let s := { s with tl := { s.tl with nextTick := k + 1 } }
  (s.fullTick s.tl.rate k true ack).tickModes

/-- What a missed tick of a grid abandons and counts (R42). -/
def State.missFrames (s : State) (rate k : Nat) : State :=
  let lost (f : Frame) : Bool := f.rate == rate && (f.k == k || f.presentTick == k + 1)
  let s := { s with tl := { s.tl with frames := s.tl.frames.map fun (f : Frame) => if lost f then { f with abandoned := true } else f } }
  ((s.count Od.missedTicks).count Od.missedRun).raise 0x1411

/-- The AO count of unacknowledged ticks and its limit (R397, R439). -/
def State.countMissed (s : State) : State :=
  let held := match s.upd.suspendUntil with | some t => decide (s.now < t) | none => false
  if held then s
  else
    let s := { s with tow := { s.tow with missed := s.tow.missed + 1 } }
    if s.tow.state == 3 && decide (s.reg Od.wdTicks ≤ s.tow.missed) then (s.count Od.wdDrops).towRelease 1 2 else s

/-- A tick is missed 100 µs after it (R42). -/
def State.missTick (s : State) (rate k : Nat) : State :=
  let s := { s with tl := { s.tl with awaitAck := none } }
  let s := if s.running then s.missFrames rate k else s
  let s := { s with upd := { s.upd with calmSince := none } }
  s.countMissed

/-- The miss of a tick that still waits comes before anything later. -/
def State.settleMiss (s : State) : State :=
  match s.tl.awaitAck with
  | some (rate, k) => (s.goTo (tickTime rate k + 100000)).missTick rate k
  | none => s

/-- An acknowledgement after the limit of 100 µs has no effect (R42). -/
def inTime (ack : Option Nat) : Option Nat := match ack with | some d => if d ≤ 100000 then some d else none | none => none

/-- TICK (R46): `ack` tells how long after the tick the frame engine acknowledges it, where it does (R42). -/
def execTick (ack : Option Nat) (s : State) : Host.Outcome State Fault Refusal :=
  finish s (
    if s.alive = false then s
    else
      let s := s.settleMiss
      match s.oldDue with
      | some g => s.oldTick g (inTime ack)
      | none => s.mainTick (inTime ack))

/-- TICK_MISSED (R42). -/
def execTickMissed (s : State) : Host.Outcome State Fault Refusal := finish s (if s.alive then s.settleMiss else s)

/-- TICK_OUT_FALL (R45): the pulse is high for 1 µs. -/
def execTickOutFall (s : State) : Host.Outcome State Fault Refusal :=
  finish s (
    if s.tl.tickOut = 1 then
      let s := s.goTo s.tl.tickOutEnd
      { s with tl := { s.tl with tickOut := 0 } }
    else s)

/-! ## The start of the timeline (R44, R503) -/

/-- The conditions of R44. -/
def State.mayStart (s : State) : Bool :=
  !s.running && s.timeLocked && s.domOn 1 && s.pwr.state == 2 && (!s.tl.invalid || s.tl.startFrame.isSome)

/-- TIMELINE_STATE goes to RUNNING (R44, R47, R220, R222, R305, R440, R444). -/
def State.startTimeline (s : State) : State :=
  let first := tickFrom s.tl.rate (s.now + s.reg Od.commitCutoff * 1000 + 1)
  let first := match s.tl.startFrame with | some f => max first f | none => first
  let r := s.upd.running
  let s := ((s.setReg Od.timelineState 1).setReg Od.holds 0).resetWeir
  let s := { s with
    tl := { s.tl with outs := [], frames := [], first := first, nextCut := first, anyShown := false, invalid := false, startFrame := none }
    intake := { s.intake with streams := s.intake.streams.map fun (x : StreamSt) => { x with lastCanvas := none } }
    tow := { s.tow with engineRan := true, missed := 0 }
    col := { s.col with drive := [] }
    upd := { s.upd with restarting := none, suspendUntil := none, tryStart := if s.upd.trial then some s.now else none
                        calmSince := if s.upd.trial then some s.now else none } }
  let s := if s.upd.trial ∧ (s.image r).tries = 0 then (s.setImage r { s.image r with tries := 1 }).writeBoot else s
  s.nonceGuard s.linkCfg first

/-- TIMELINE_START (R44). -/
def execTimelineStart (dt : Nat) (s : State) : Host.Outcome State Fault Refusal :=
  let t := s.advance dt
  finish s (if t.mayStart then t.startTimeline else t)

end Sys2Proof.Machine
end

