-- ==== Sys2Proof/Machine/Commits.lean ====
section
/-!
DEFINITION. Commits (R34–R41, R60, R403): acceptance, the frame a commit binds to, what it mirrors and journals, and CANCEL_PENDING.
-/
namespace Sys2Proof.Machine

/-! ## Binding (R22, R35, R36) -/

/-- The first frame whose cut-off lies strictly after now (R35). -/
def State.firstFrame (s : State) : Nat := max (tickFrom s.tl.rate (s.now + s.reg Od.commitCutoff * 1000 + 1)) s.tl.nextCut

/-- The frame bound to a time of presentation, where frame j is presented at tick j + d j: the first whose presentation tick is at or
after it, or the earliest still reachable; and whether the one asked for is out of reach (R22, R36). -/
def State.bindAt (s : State) (time : Option Nat) (d : Nat → Nat) : Nat × Bool :=
  match time with
  | none => (s.firstFrame, false)
  | some t =>
    let k := frameAsked d (tickFrom s.tl.rate t)
    if k < s.firstFrame then (s.firstFrame, true) else (k, false)

/-- The settings frame `k` would have with these commits waiting, where `first` is the next frame whose settings are fixed (R38, R43). -/
def settingsWith (base : Store) (ws : List Commit) (first k : Nat) : Store :=
  applyCommits base ((inOrder (ws.filter fun c => decide (c.bound ≤ k))).map fun (c : Commit) => { c with bound := max c.bound first })

/-- D of frame `k` (R28), were `vals` committed to it: a frame already fixed has its own, a later one that of the settings it would have.
A timed commit that changes PRESENT_DELAY is therefore bound by the D it brings (DEDUCED, log entry 128). -/
def State.delayOf (s : State) (vals : List (Nat × OdVal)) (k : Nat) : Nat :=
  if k < s.tl.nextCut then
    match s.tl.frames.find? fun f => !f.old && f.k == k with
    | some f => f.d
    | none => s.tl.newest.num Od.presentDelay
  else (settingsWith s.tl.newest (s.tl.waiting ++ [{ bound := k, vals := vals }]) s.tl.nextCut k).num Od.presentDelay

/-! ## Validation (R20, R34) -/

/-- Every frame the commit `w` would change passes (R34); a calibration page is judged under the settings of its own bound frame
(R212). -/
def State.commitOk (s : State) (w : Commit) : Bool :=
  let ws := s.tl.waiting ++ [w]
  let later := (s.tl.waiting.filter fun c => decide (w.bound < c.bound)).map Commit.bound
  valsOk w.vals && s.persistFits w.vals &&
    (w.bound :: later).all fun k =>
      let cfg := settingsWith s.tl.newest ws s.tl.nextCut k
      s.configOk cfg && (ws.filter fun c => c.bound == k).all fun c => calOk cfg c.vals

/-- A waiting commit changes FRAME_RATE (R41). -/
def State.rateWaits (s : State) : Bool := s.boundCfg.num Od.frameRate != s.tl.newest.num Od.frameRate

/-! ## Acceptance -/

/-- A tile or endpoint all of whose positions lie outside its canvas (R186). -/
def offCanvasArgs (cfg : Store) : List Bytes :=
  ((cfg.recs Od.tileMap).filter fun m => u16 m 4 * u16 m 6 != 0 && tileOff cfg m == u16 m 4 * u16 m 6).map (fun m => natBE 2 (u16 m 0) ++ natBE 1 0) ++
    ((cfg.recs Od.endpointMap).filter fun m => u32 m 8 != 0 && endpointOff cfg m == u32 m 8).map fun m => natBE 2 (u16 m 0) ++ natBE 1 1

/-- Entries as the mirror names them: a calibration page goes as CAL_DATA (R402, R403). -/
def mirrorVals (cfg : Store) (vals : List (Nat × OdVal)) : List (Nat × Bytes) :=
  vals.filterMap fun v =>
    if calBase ≤ v.1 then some (Od.calData.key, kvGetD v.1 [] cfg.tabs)
    else if mirrored v.1 then (Od.find v.1).map fun r => (v.1, r.1.wire v.2)
    else none

/-- What the ACTIVE unit of a pair mirrors after a commit: its values, and what changed without a commit before it; while the peer link is
lost it is owed (R403, R405). -/
def State.mirrorCommit (s : State) (cfg : Store) (w : Commit) (vals : List (Nat × OdVal)) : State :=
  let more := s.tow.changed
  let ms := mirrorVals cfg vals ++ more.flatMap s.mirrorNow
  if s.pair = false ∨ s.tow.state ≠ 3 ∨ w.mirror then s
  else
    let s := { s with tow := { s.tow with changed := [] } }
    if s.tow.linkLost then
      let keys := (vals.filter fun v => calBase ≤ v.1 || mirrored v.1).map (·.1)
      { s with tow := { s.tow with owed := (s.tow.owed ++ more ++ keys).eraseDups } }
    else s.mirrorSend ms (frameNo w.bound) (tickTime s.tl.rate (w.bound + cfg.num Od.presentDelay))

/-- The persisted values are journalled (R53), and calibration pages wait for the cache (R213). -/
def State.keepCommit (s : State) (cfg : Store) (vals : List (Nat × OdVal)) : State :=
  let s := (persistedVals vals).foldl (fun (s : State) v => s.noteJournal v.1 v.2) s
  (vals.filter fun v => decide (calBase ≤ v.1)).foldl (fun (s : State) v => s.queueCal (v.1 - calBase) (kvGetD v.1 [] cfg.tabs)) s

/-- A commit that passed is accepted (R34–R36, R186, R503). The graph's BARGE_ENERGY is the one in force now (R261). -/
def State.acceptCommit (s : State) (w : Commit) (late : Bool) : State :=
  let vals := w.vals
  let energy : OdVal := .tab (s.regTab Od.bargeEnergy)
  let w : Commit := { w with vals := vals ++ [(Od.bargeEnergy.key, energy)] }
  let cfg := settingsWith s.tl.newest (s.tl.waiting ++ [w]) s.tl.nextCut w.bound
  let s := { s with tl := { s.tl with waiting := s.tl.waiting ++ [w], dirty := if w.mirror then s.tl.dirty else []
                                      startFrame := if s.tl.invalid && s.tl.startFrame.isNone then some w.bound else s.tl.startFrame } }
  let s := (s.setReg Od.boundFrame (frameNo w.bound)).keepCommit cfg vals
  let s := if late then (if s.running then s.count Od.lateBoundCount else s).raise 0x1413 (natBE 4 (frameNo w.bound)) else s
  let s := (offCanvasArgs cfg).foldl (fun (s : State) a => s.raise 0x3401 a) s
  s.mirrorCommit cfg w vals

/-- Commit `vals`, at a time asked for or not: the state, the status and the full index of the bound frame (R34–R37, R41). -/
def State.commitVals (s : State) (time : Option Nat) (vals : List (Nat × OdVal)) (mirror : Bool) : State × Nat × Nat :=
  let after := s.boundCfg.setVals vals
  let changes := after.num Od.frameRate != s.boundCfg.num Od.frameRate
  let far : Bool := match time with | some t => decide (s.now + 86400000000000 < t) | none => false
  let (k, late) := s.bindAt time (s.delayOf vals)
  let w : Commit := { bound := k, vals := vals, mirror := mirror }
  if 4 ≤ s.tl.waiting.length ∨ s.rateWaits ∨ (changes ∧ s.tl.waiting ≠ []) then (s, stBusy, 0)
  else if far ∨ s.commitOk w = false then (s, stRange, 0)
  else (s.acceptCommit w late, if late then stLateBound else stOk, k)

/-- An entry in the dirty set whose Classes column lacks O (R60). -/
def State.dirtyBeyondO (s : State) : Bool :=
  s.tl.dirty.any fun v => calBase ≤ v.1 || (match Od.find v.1 with | some (r, _) => r.cls / 2 % 2 == 0 | none => false)

/-- A host's commit takes the dirty set (R34, R60): state, status, bound frame. -/
def State.commitDirty (s : State) (cls : Nat) (time : Option Nat) : State × Nat × Nat :=
  if cls = 2 ∧ s.dirtyBeyondO then (s.count Od.noRightCount, stNoRight, 0) else s.commitVals time s.tl.dirty false

/-- CANCEL_PENDING (R37): the entries of every waiting commit return to the dirty set, under anything written since; the mirror's own
are discarded. A commit that satisfied R503 satisfied it as it was accepted: cancelled, it leaves the start frame set (DEDUCED, log
entry 129). -/
def State.cancelPending (s : State) : State :=
  let back := (s.tl.waiting.filter fun c => !c.mirror).flatMap fun c => c.vals.filter fun v => v.1 != Od.bargeEnergy.key
  let dirty := (back ++ s.tl.dirty).foldl (fun (l : List (Nat × OdVal)) v => kvSet v.1 v.2 l) []
  { s with tl := { s.tl with dirty := dirty, waiting := [] } }

/-! ## The mirror's commits (R402, R403) -/

/-- The value a mirror part carries, under its entry. -/
def State.partVal (s : State) (p : MirrorPart) : Option (Nat × OdVal) :=
  (Od.find p.key).map fun r => (s.shadowKey p.key, r.1.parse p.key p.value)

/-- A value of a shadowed entry, or a calibration page. -/
def shadowed (key : Nat) : Bool := calBase ≤ key || (match Od.find key with | some (r, _) => r.acc == .rws | none => false)

/-- A complete set: a hot standby commits its shadowed values at PRESENT_AT, and the others take effect as RW writes at its next tick; a
moored one journals it for its next start (R403; log entry 143). -/
def State.applyMirror (s : State) (ps : List MirrorPart) : State × Nat :=
  let vals := (sortBy (fun (a b : MirrorPart) => decide (a.part ≤ b.part)) ps).filterMap s.partVal
  let at_ := (ps.headD { tag := 0, part := 0, parts := 0, key := 0, boundFrame := 0, presentAt := 0, value := [], first := 0 }).presentAt
  if s.tow.state = 4 then (s.keepCommit (s.tl.newest.setVals vals) vals, stOk)
  else
    let s := (vals.filter fun v => !shadowed v.1).foldl (fun (s : State) v => s.pendWrite v.1 v.2) s
    let vals := vals.filter fun v => shadowed v.1
    let (t, st, _) := if vals.isEmpty then (s, stOk, 0) else s.commitVals (some at_) vals true
    (t, if st = stLateBound then stOk else st)

/-- A value under an older OD_SCHEMA passes the migration table alone (R403, R442): the value as an entry of this image, and whether the
entry is dropped; none where it cannot be carried. -/
def State.migratePart (s : State) (b : Bytes) : Option (Bytes × Bool) :=
  let key := entryKey (u16 b 0) (u8 b 2)
  if s.ownSchema ≤ s.peerSchema ∨ b.length < 24 then some (b, false)
  else
    let v : OdVal := match Od.find key with | some (r, _) => r.parse key (b.drop 24) | none => .tab (b.drop 24)
    match migrateEntry s.peerSchema s.ownSchema key v with
    | (some w, false) =>
      let value := match Od.find w.1 with | some (r, _) => r.wire w.2 | none => b.drop 24
      some (natBE 2 (w.1 / 256) ++ natBE 1 w.1 ++ slice b 3 21 ++ value, false)
    | (none, false) => some (b, true)
    | _ => none

/-- A write of MIRROR_TABLE (R403). -/
def State.takeMirror (s : State) (src : Src) (b : Bytes) : Eff :=
  match s.migratePart b with
  | none => s.mirrorRefuse
  | some (b, gone) =>
  match s.takePart src b gone with
  | (t, .refused) => effNo t stRange
  | (t, .collected) => effOk t
  | (t, .ledger v) => effOk (t.pendWrite Od.ageLedger.key (.tab v))
  | (t, .complete ps) => let (u, st) := t.applyMirror ps; (u, st, none)

/-- AGE_LEDGER_MIRROR_SEND (R402): every 600 s the ACTIVE unit sends its ledgers with PARTS = 1. -/
def execAgeLedgerMirrorSend (s : State) : Host.Outcome State Fault Refusal :=
  finish s (
    if s.tow.state ≠ 3 ∨ s.pair = false ∨ s.alive = false then s
    else
      let t := s.goTo s.tow.nextLedger
      let t := t.mirrorSend [(Od.ageLedger.key, t.ageLedger)] (t.reg Od.boundFrame) t.now
      { t with tow := { t.tow with nextLedger := t.now + 600000000000 } })

end Sys2Proof.Machine
end

