-- ==== Sys2Proof/Machine/Pounds.lean ====
section
/-!
DEFINITION. The commands of pounds and sluices (spec/11).
-/
namespace Sys2Proof.Machine

/-- SLUICE_PIN_UPDATE (R276): a pin that has held its level for WIDTH shows its next pending transition. -/
def execSluicePinUpdate (dt pin : Nat) (s : State) : Host.Outcome State Fault Refusal :=
  let t := s.advance dt
  let x := t.net.sluices.getD pin {}
  let width := u16 (sluiceRec t pin) 4 * 10
  finish s (
    if 8 ≤ pin ∨ t.domOn 1 = false ∨ x.pending = 0 ∨ x.level = 2 ∨ t.now < x.since + width then t
    else { t with net := { t.net with sluices := setAt t.net.sluices pin { level := 1 - x.level, since := t.now, pending := x.pending - 1 } } })

/-- A pound exists: PD_CORE has them all, and while it is off the AO supervisor keeps those of the MGMT ports (R144). -/
def State.poundServed (s : State) (p : Nat) : Bool := decide (p < 4096) && (s.domOn 1 || (s.alive && s.mgmtPounds.any fun x => x.1 == p))

/-- POUND_WRITE (R265, R266). -/
def execPoundWrite (dt pound slot prio : Nat) (data : Bytes) (s : State) : Host.Outcome State Fault Refusal :=
  let t := s.advance dt
  finish s (
    if t.poundServed pound = false ∨ 8 ≤ slot ∨ 8 ≤ prio then t
    else (t.writePound pound slot prio data).1)

/-- POUND_READ (R267–R271): where the head is empty, and the next burst of the spill is not back yet, the read waits for it. -/
def execPoundRead (dt pound : Nat) (headEmpty : Bool) (s : State) : Host.Outcome State Fault Refusal :=
  let t := s.advance dt
  let x := t.pound pound
  finish s (
    if t.poundServed pound = false then t
    else if headEmpty && x.headEmpty then t.setPound pound { x with fetching := true }
    else t.readOut pound)

/-- SPILL_FETCH_DONE (R271, R272): `bad` spilled entries are discarded, then the read returns the next; a pound emptied by discards
reads its last value without UNDERRUN. -/
def execSpillFetchDone (dt pound bad : Nat) (s : State) : Host.Outcome State Fault Refusal :=
  let t := s.advance dt
  finish s (
    if t.domOn 1 = false ∨ (t.pound pound).fetching = false then t
    else
      let t := t.setPound pound { t.pound pound with fetching := false }
      let t := t.discardSpilled pound bad
      let x := t.pound pound
      if x.entries.isEmpty then t.noteRead pound x.lastRead
      else (t.setPound pound { x with entries := unspill 16 x.entries }).readOut pound)

end Sys2Proof.Machine
end

