-- ==== Sys2Proof/Machine/Access.lean ====
section
/-!
DEFINITION. READ items (R51, R57, R71, R80) and WRITE items (R72): the checks in their order, and what an accepted item does at its
validation instant.
-/
namespace Sys2Proof.Machine

/-- The row of an entry key. In recovery only the identity entries are served (R441). -/
def State.entryRow (s : State) (key : Nat) : Option (OdRow × Nat) :=
  if s.pwr.state = 7 ∧ key / 256 ≠ 0x1000 then none else Od.find key

/-! ## READ (R51, R52, R57, R71, R74, R80) -/

/-- The bytes of a read value, or TYPE where they must move by bulk. -/
def readBytes (r : OdRow) (v : OdVal) : Nat × Nat × Bytes :=
  let b := r.wire v
  if 1024 < b.length then (stType, r.ty, []) else (stOk, r.ty, b)

/-- One item: its status, type code and value. The SNAPSHOT flag is judged before SHADOW, so an item with both has no copy of an RWS entry to
read (R80; log entry 79). -/
def State.readItem (s : State) (cls : Nat) (it : ReadItem) : Nat × Nat × Bytes :=
  match s.entryRow it.key with
  | none => (stNoEntry, 0, [])
  | some (r, i) =>
    if r.cls &&& cls = 0 then (stNoRight, r.ty, [])
    else if bit it.flags 1 then
      match (s.od.snapshot.getD []).find? fun p => p.1 == it.key with
      | some p => readBytes r p.2
      | none => (stNoEntry, r.ty, [])
    else if r.acc = .w ∨ r.acc = .x then (stNoRight, r.ty, [])
    else readBytes r (if r.acc = .rws ∧ bit it.flags 0 then s.shadowOf r i else s.entry r i)

/-- A read without the SNAPSHOT flag clears what a read clears (R80). -/
def State.clearItem (s : State) (it : ReadItem) : State :=
  match s.entryRow it.key with
  | some (r, i) => if bit it.flags 1 then s else s.clearOnRead r i
  | none => s

/-! ## WRITE: the value checks (R72 steps 5 to 7) -/

/-- An X entry with an argument reads 1 to 8 bytes (R502); "any value" has the whole range. -/
def OdRow.argOk (r : OdRow) (v : Bytes) : Bool :=
  r.hi == 18446744073709551615 || (!v.isEmpty && decide (r.lo ≤ (beNat v : Int)) && decide ((beNat v : Int) ≤ r.hi))

/-- Reserved bits of the numbers that have them read 0 (R9, R212). -/
def cleanNum (key n : Nat) : Nat := if key = Od.calTarget.key then n - n / 256 % 256 * 256 else n

/-- The value an item carries, as it would stand. -/
def itemVal (r : OdRow) (w : WriteItem) : OdVal :=
  match r.parse w.key w.value with
  | .num n => .num (cleanNum w.key n)
  | .tab b => .tab b

/-- Conditions between the settings of one PTP domain, or of both (R89, R92, R117); `t` is the state with the message's writes pending. -/
def State.ptpRangeOk (t : State) (key n : Nat) : Bool :=
  let soon (r : OdRow) (d : Nat) : Nat := t.soon (r.inst d)
  let clash : Bool := ptpClash (soon Od.ptpPort 0) (soon Od.ptpPort 1) (soon Od.ptpDomainNumber 0) (soon Od.ptpDomainNumber 1)
  let named (r : OdRow) : Bool := key == r.key || key == (r.inst 1).key
  if named Od.ptpPort || named Od.ptpDomainNumber then !clash
  else if named Od.ptpEnable && n == 1 then
    let d := if key = Od.ptpEnable.key then 0 else 1
    ptpTransportOk (soon Od.ptpProfile d) (soon Od.ptpTransport d)
  else if named Od.ptpLockThreshold || named Od.ptpUnlockThreshold then
    let d := if key = Od.ptpLockThreshold.key ∨ key = Od.ptpUnlockThreshold.key then 0 else 1
    decide (soon Od.ptpLockThreshold d < soon Od.ptpUnlockThreshold d)
  else true

/-- Conditions of a number on other entries, as they will stand (R92, R119, R137, R212, R227). -/
def State.numRangeOk (t : State) (key n : Nat) : Bool :=
  if Od.laneEn.holds key then
    let p := key - Od.laneEn.key
    n == 0 || decide (24 ≤ p) || t.soon Od.fec p == 0 || t.soon Od.rate p == 2
  else if Od.rxKeepBad.holds key then n == 0 || t.soon Od.badPound (key - Od.rxKeepBad.key) != 0xFFFF
  else if key = Od.tjThrottle.key ∨ key = Od.tjCrit.key then decide (t.soon Od.tjThrottle < t.soon Od.tjCrit)
  else if key = Od.calTarget.key then
    decide (n / 2 ^ 30 ≤ 1) && (n / 2 ^ 30 == 0 && decide (n / 65536 % 16384 ≤ 1023) || (n / 2 ^ 30 == 1 && n / 65536 % 16384 == 0))
  else t.ptpRangeOk key n

/-- RANGE of R72: the row's range, its coded fields, and what it may be beside the other settings; a persisted value must fit the
settings area (R495). -/
def State.itemRangeOk (s t : State) (r : OdRow) (w : WriteItem) : Bool :=
  if r.acc = .x then r.argOk w.value
  else
    let v := itemVal r w
    let fits : Bool := !(r.persist && r.acc == .rw) || s.persistFits [(w.key, v)]
    if Od.rdmQueue.holds w.key then true
    else if w.key = Od.rasterStill.key then decide (w.value.length ≤ s.cfg Od.stillArea * 1048576)
    else
      r.rangeOk w.key v && fits &&
        (match v with | .num n => t.numRangeOk w.key n | .tab b => r.acc == .rws || tableFieldsOk w.key b)

/-- The block a "(stopped)" entry belongs to is enabled (R59). -/
def State.blockRuns (s : State) (key : Nat) : Bool :=
  let lane (r : OdRow) : Bool := r.holds key && s.reg Od.laneEn (key - r.key) == 1
  let ptp (d : Nat) : Bool :=
    s.reg (Od.ptpEnable.inst d) == 1 && ([Od.ptpProfile, Od.ptpTransport, Od.ptpPort, Od.ptpDomainNumber].any fun r => key == (r.inst d).key)
  ptp 0 || ptp 1 || [Od.role, Od.rate, Od.fec, Od.txqPound, Od.txComplPound].any lane ||
    (Od.portMode.holds key && s.reg Od.portEn (key - Od.portMode.key) == 1)

/-- A write of DELAY_MODE is refused on a list in use, and where no list would be left for the FORCE entries of the bound graph
(R258, R261). -/
def State.delayModeOk (s : State) (v : Bytes) : Bool :=
  let old := s.regTab Od.delayMode
  ((List.range 4).all fun i => u8 v i == u8 old i || (s.lk.delays.getD i []).isEmpty) &&
    ((List.range 4).any (fun i => u8 v i == 0) || (feedsOf s.boundCfg).isEmpty)

/-- The domain of the block that a command or an immediate write acts on (R7): while it is off the block is stopped, and the write is
answered BUSY. Entries that only stand in the dictionary are served, whatever is off: the manual does not list the AO subset (DESIGN CHOICE,
log entry 136). -/
def actDomain (key : Nat) : Nat :=
  if key = Od.commit.key ∨ key = Od.commitAt.key ∨ key = Od.cancelPending.key ∨ key = Od.ditherReset.key ∨ key = Od.cellRetire.key ∨
      key = Od.cellRestore.key ∨ key = Od.trimTRun.key ∨ key = Od.trimARun.key then 1
  else if key = Od.rasterStill.key then 4
  else if key = Od.senseCapture.key ∨ Od.rdmQueue.holds key then 10
  else if key = Od.rsCommit.key then 11
  else if key = Od.keyLoad.key ∨ key = Od.keyInvalidate.key ∨ key = Od.sealRollNow.key then 12
  else 0

/-- BUSY of R72: a block whose domain is off (R7), a running block (R59), an open gate (R19), a claimed port, a domain in use (R468), a delay list in use. -/
def State.itemBusy (s : State) (r : OdRow) (w : WriteItem) : Bool :=
  if s.alive && !s.domOn (actDomain w.key) then true
  else if r.stop then s.blockRuns w.key
  else if w.key = Od.deviceNumber.key then s.gate
  else if w.key = Od.domainEn.key then !s.domainEnOk (beNat w.value)
  else if w.key = Od.delayMode.key then !s.delayModeOk w.value
  else if Od.portEn.holds w.key then !s.portEnOk (w.key - Od.portEn.key) (beNat w.value)
  else false

/-! ## WRITE: the checks in order (R72) -/

/-- MIRROR_LOCK keeps a standby's mirrored entries from every host (R404); in single-unit operation there is no standby (R408). -/
def State.lockedOut (s : State) (key : Nat) : Bool := s.pair && s.tow.state != 3 && s.reg Od.mirrorLock == 1 && mirrored key

/-- The status of one item (R72): 0 where it passes. `t` has the message's writes pending. -/
def State.checkItem (s t : State) (cls port : Nat) (bulk : Bool) (w : WriteItem) : Nat :=
  match s.entryRow w.key with
  | none => stNoEntry
  | some (r, _) =>
    if r.cls &&& cls = 0 then stNoRight
    else if w.key = Od.mgmt1Class.key ∧ beNat w.value = 0 ∧ port ≠ 24 ∧ port ≠ 26 then stNoRight
    else if r.acc = .r then stReadOnly
    else if r.acc = .rws ∧ bit w.flags 0 then stShadowOnly
    else if s.lockedOut w.key then stNotOwner
    else if r.typeOk w.ty w.value bulk = false then stType
    else if s.itemRangeOk t r w = false then stRange
    else if s.itemBusy r w then stBusy
    else stOk

/-- The state with every write of the message pending, for the checks between entries. -/
def State.hypothesis (s : State) (items : List WriteItem) : State :=
  items.foldl (fun (t : State) w =>
    match s.entryRow w.key with
    | some (r, _) => if r.acc = .rw ∧ r.isTab = false then t.pendWrite w.key (itemVal r w) else t
    | none => t) s

/-! ## What an accepted item does -/

/-- A shadow write joins the dirty set (R51, R60); for one calibration page a later value replaces an earlier one (R212). -/
def State.shadowWrite (s : State) (key : Nat) (v : OdVal) : State :=
  { s with tl := { s.tl with dirty := kvSet (s.shadowKey key) v s.tl.dirty } }

/-- Bits of IRQ_PENDING that an event set at this instant (R84). -/
def State.irqNow (s : State) : Nat := s.od.irqAt.foldl (fun a p => if p.2 = s.now then setBit a p.1 else a) 0

/-- A write of IRQ_PENDING (R84): bits written 1 clear, but for those that an event sets at this same instant. -/
def State.clearIrq (s : State) (n : Nat) : State := s.setReg Od.irqPending (w1c (s.reg Od.irqPending) (w1c n s.irqNow))

/-- DEVICE_NUMBER (R17, R19): for the next message. -/
def State.writeDevice (s : State) (n : Nat) : State :=
  ((s.setReg Od.deviceNumber n).setReg Od.numberSet 1).noteJournal Od.deviceNumber.key (.num n)

/-- MGMT1_CLASS (R63): 1 demotes at once; 0 waits for the next start. -/
def State.writeMgmt1 (s : State) (n : Nat) : State :=
  let s := s.noteJournal Od.mgmt1Class.key (.num n)
  if n = 1 then let t := s.setReg Od.mgmt1Class 1; { t with od := { t.od with demoted := true } } else s

/-- OD_UDP_PORT (R86): the reply to the write still leaves by the port as it was. -/
def State.writeUdpPort (s : State) (n : Nat) : State :=
  let t := (s.setReg Od.odUdpPort n).noteJournal Od.odUdpPort.key (.num n)
  { t with od := { t.od with replyFrom := some (s.od.replyFrom.getD (s.reg Od.odUdpPort)) } }

/-- KEY_LOAD: a TILE_MASTER key starts a roll of every section that names its slot (R418, R423). -/
def State.keyLoad (s : State) (record : Bytes) : State × Nat :=
  match s.writeKeyLoad record with
  | (t, st) =>
    if st ≠ stOk ∨ u8 record 2 ≠ 1 then (t, st)
    else
      let cfg := t.linkCfg
      let secs := (t.zl.seals.map Seal.secNo).filter fun n => tmkSlot cfg n == some (u8 record 0)
      (secs.foldl (fun (u : State) n => u.startRoll cfg n u.zl.lastOrd) t, st)

/-- SEAL_ROLL_NOW (R306): the section must be one SECTION_SEAL names. -/
def State.sealRoll (s : State) (sec : Nat) : Eff :=
  if (s.sealOf sec).isNone then effNo s stRange else effOk (s.startRoll s.linkCfg sec s.zl.lastOrd)

/-- SYNC replies once nothing waits to be journalled (R53). -/
def State.writeSync (s : State) : Eff := (s, stOk, if s.persistWaits then some 0 else none)

/-- KEY_INVALIDATE (R422): an EMPTY slot has nothing to invalidate. -/
def State.keyInvalidate (s : State) (i : Nat) : Eff := effOk (if (s.slot i).state = 0 then s else s.invalidate i false)

/-- A commit by a write: its status. -/
def State.commitEff (s : State) (cls : Nat) (time : Option Nat) : Eff :=
  let (t, st, _) := s.commitDirty cls time
  (t, st, none)

/-- The X entries, by key and argument. -/
def State.runCommand (s : State) (cls : Nat) (req : Req) (key n : Nat) : Eff :=
  if key = Od.commit.key then s.commitEff cls none
  else if key = Od.cancelPending.key then effOk s.cancelPending
  else if key = Od.sync.key then s.writeSync
  else if key = Od.ditherReset.key then s.writeDitherReset
  else if key = Od.cellRetire.key then s.writeCellRetire n
  else if key = Od.cellRestore.key then s.writeCellRestore n
  else if key = Od.sealRollNow.key then s.sealRoll n
  else if key = Od.senseCapture.key then effOk (s.senseCapture n)
  else if key = Od.towCommand.key then s.towCommand n
  else if key = Od.keyInvalidate.key then s.keyInvalidate n
  else if key = Od.trimTRun.key then effOk s.startTrim
  else if key = Od.trimARun.key then s.trimARun n req
  else if key = Od.restart.key then s.writeRestart
  else effOk s

/-- The entries that take effect at the write's validation instant, or by a rule of their own chapter (R19, R63, R84, R86, R99, R365,
R366, R403, R413, R418, R454), beside a plain write that waits for the next tick (R56). -/
def State.runWrite (s : State) (cls : Nat) (req : Req) (key : Nat) (v : OdVal) (raw : Bytes) : Eff :=
  let n := beNat raw
  if key = Od.commitAt.key then s.commitEff cls (some (nsOfTime n))
  else if key = Od.irqPending.key then effOk (s.clearIrq n)
  else if key = Od.deviceNumber.key then effOk (s.writeDevice n)
  else if key = Od.mgmt1Class.key then effOk (s.writeMgmt1 n)
  else if key = Od.odUdpPort.key then effOk (s.writeUdpPort n)
  else if key = Od.switchAt.key then s.writeSwitchAt n
  else if key = Od.select.key then effOk (s.writeSelect n)
  else if key = Od.rsTiming.key then effOk ((s.writeRsShadow 0 raw).noteJournal key v)
  else if key = Od.rsScan.key then effOk ((s.writeRsShadow 1 raw).noteJournal key v)
  else if key = Od.rsCommit.key then s.writeRsCommit n
  else if key = Od.kek.key then s.writeKeyReg 0 raw req
  else if key = Od.attest.key then s.writeKeyReg 1 raw req
  else if key = Od.update.key then s.writeKeyReg 2 raw req
  else if key = Od.keyLoad.key then (let (t, st) := s.keyLoad raw; (t, st, none))
  else if Od.rdmQueue.holds key then s.writeRdmQueue (key - Od.rdmQueue.key) raw
  else if key = Od.peerBeacon.key then s.takeBeacon req.src raw
  else if key = Od.mirrorSmall.key then s.takeSmall req.src raw
  else if key = Od.mirrorTable.key then s.takeMirror req.src raw
  else if key = Od.rasterStill.key then effOk { s with ras := { s.ras with still := memWrite 0 raw s.ras.still } }
  else effOk (s.pendWrite key v)

/-- One accepted item (R51): the state, a status where the block refuses it after all, and a reply that must wait. -/
def State.runItem (s : State) (cls : Nat) (req : Req) (w : WriteItem) : Eff :=
  match s.entryRow w.key with
  | none => effNo s stNoEntry
  | some (r, _) =>
    if r.acc = .x then s.runCommand cls req w.key (beNat w.value)
    else if r.acc = .rws then effOk (s.shadowWrite w.key (itemVal r w))
    else s.runWrite cls req w.key (itemVal r w) w.value

/-- A status that refuses: LATE_BOUND tells of a commit that was taken (R36). -/
def refuses (st : Nat) : Bool := st != stOk && st != stLateBound

/-- Every item in turn: the state, the statuses, the replies that must wait. -/
def State.runItems (s : State) (cls : Nat) (req : Req) (items : List WriteItem) : State × List Nat × List Nat :=
  items.foldl (fun (a : State × List Nat × List Nat) w =>
    let (t, st, wait) := a.1.runItem cls req w
    (t, a.2.1 ++ [st], a.2.2 ++ wait.toList)) (s, [], [])

/-- Nothing of a refused WRITE is applied; what its refusing items count stays counted. -/
def State.refuseItems (s : State) (cls : Nat) (req : Req) (items : List WriteItem) (sts : List Nat) : State :=
  (items.zip sts).foldl (fun (a : State) (p : WriteItem × Nat) =>
    if refuses p.2 then
      let (t, st, _) := a.runItem cls req p.1
      if refuses st then t else a
    else a) s

/-- A WRITE of checked items (R72): applied only if every item passes. The item statuses, and the replies that must wait. -/
def State.writeAll (s : State) (cls : Nat) (req : Req) (items : List WriteItem) (bulk : Bool) : State × List Nat × List Nat :=
  let t := s.hypothesis items
  let sts := items.map (s.checkItem t cls req.src.port bulk)
  if sts.any fun st => st != stOk then (s.count Od.noRightCount (sts.filter fun st => st == stNoRight).length, sts, [])
  else
    let (u, out, waits) := s.runItems cls req items
    if out.any refuses then (s.refuseItems cls req items out, out, []) else (u, out, waits)

end Sys2Proof.Machine
end

