-- ==== Sys2Proof/Machine/Server.lean ====
section
/-!
DEFINITION. The object dictionary server (spec/03): which messages it takes and in what order (R62–R68), the class check (R69), READ,
WRITE and WRITE_POSTED, bulk sessions, subscriptions, group commands, the SPI target and the journal.
-/
namespace Sys2Proof.Machine

/-! ## Taking a message (R61–R68, R86) -/

/-- The OD server hears this port: the SPI target and the MGMT ports while AO runs, a lane while it runs (R61, R64, R470). -/
def State.hears (s : State) (port : Nat) : Bool :=
  s.alive && (if port < 24 then s.domOn 1 && s.portRuns port else decide (port ≤ 26))

/-- A message that came through the group address and is no group command (R79). -/
def notGroup (cmd : Nat) (m : Msg) : Bool :=
  m.src.group && (!(cmd == 7 || cmd == 0xB || cmd == 0xC) || m.device % 4096 != 4095 || m.length != 16)

/-- The input queues without a message that is the first of its port there; none where it is not (R67). -/
def State.dequeue (s : State) (cmd : Nat) (m : Msg) : Option State :=
  match s.od.inQ.findIdx? fun q => q.2.2.src.port == m.src.port, s.aq.serve.findIdx? fun q => q.2.2.src.port == m.src.port with
  | some i, some j =>
    if (s.od.inQ[i]?).map (·.2) = some (cmd, m) then some { s with od := { s.od with inQ := s.od.inQ.eraseIdx i } }
    else if (s.aq.serve[j]?).map (fun q => (q.1, q.2.2)) = some (cmd, m) then some { s with aq := { s.aq with serve := s.aq.serve.eraseIdx j } }
    else none
  | some i, none =>
    if (s.od.inQ[i]?).map (·.2) = some (cmd, m) then some { s with od := { s.od with inQ := s.od.inQ.eraseIdx i } } else none
  | none, some j =>
    if (s.aq.serve[j]?).map (fun q => (q.1, q.2.2)) = some (cmd, m) then some { s with aq := { s.aq with serve := s.aq.serve.eraseIdx j } } else none
  | none, none => none

/-- A message whose turn has come, or that arrives now: the state, and whether it is executed now. One that arrives while others of its
port wait joins the queue (R67). RX_MSGS counts it as it is validated, whether it is executed, queued or dropped for a full queue (R86). -/
def State.letIn (s : State) (cmd : Nat) (m : Msg) : State × Bool :=
  match s.dequeue cmd m with
  | some t => (t, true)
  | none =>
    if s.hears m.src.port = false then (s, false)
    else if m.src.port < 24 ∧ s.reg Od.role m.src.port = 2 then (s.count Od.classTDropped, false)
    else if s.portClass m.src.port = 0 then (s, false)
    else if s.discards m || notGroup cmd m then (s.count Od.msgDiscarded, false)
    else if s.waitsOn m.src.port then ((s.count Od.rxMsgs).queueMsg cmd m, false)
    else (s.count Od.rxMsgs, true)

/-! ## Answers (R67–R69) -/

/-- What a command's execution answers: the state, STATUS and payload, kinds of work the reply waits for, no reply at all, the frame a
commit or group command is bound to, and the item a failure names. -/
structure Answer where
  s : State
  status : Nat := stOk
  payload : Bytes := []
  waits : List Nat := []
  silent : Bool := false
  bound : Nat := 0
  index : Nat := 0
  sub : Nat := 0

/-- A message refused whole, which answers an empty payload, whatever reply payload R69 gives its command (log entry 135); a refusal for
want of a right is counted (R86). -/
def State.refuse (s : State) (st : Nat) : Answer := { s := if st = stNoRight then s.count Od.noRightCount else s, status := st }

/-- Why a command is not served in this power state: in recovery only READ, WRITE, WRITE_POSTED and UPDATE_* are (R441), in mooring
no UPDATE_* but UPDATE_CONFIRM (R432), and while PD_CORE is off no command of the frame engine (R7; log entry 136). -/
def State.notServed (s : State) (cmd : Nat) : Option Nat :=
  if s.pwr.state = 7 ∧ 4 ≤ cmd ∧ cmd < 0x10 then some stNoEntry
  else if s.pwr.state = 3 ∧ 0x10 ≤ cmd ∧ cmd ≠ 0x14 then some stBusy
  else if (cmd = 7 ∨ cmd = 0xB ∨ cmd = 0xC) ∧ s.domOn 1 = false then some stBusy
  else none

/-- The message is still being executed: its reply is owed, or waits for the execute time. -/
def State.underWay (s : State) (src : Src) (seq : Nat) : Bool :=
  s.od.owed.any (fun w => whoOf w.req.src == whoOf src && w.req.seq == seq) ||
    s.od.groups.any fun g => whoOf g.src == whoOf src && g.seq == seq && !g.replied

/-- Kind of a group command's code. -/
def groupKind (cmd : Nat) : Nat := if cmd = 0xB then 1 else if cmd = 0xC then 2 else 0

/-- A group command, or a SNAPSHOT or RESET, is kept until it has acted and its reply has gone (R24, R79). -/
def State.keepGroup (s : State) (cmd : Nat) (m : Msg) (a : Answer) : State :=
  let acted := cmd == 7 || refuses a.status
  let g : GroupCmd := { kind := groupKind cmd, src := m.src, seq := m.seq, execNs := nsOfTime (beNat (slice m.payload 0 10)), bound := a.bound
                        status := a.status, acted := acted, replied := !m.src.group }
  if g.acted && g.replied then s else { s with od := { s.od with groups := s.od.groups ++ [g] } }

/-- The reply goes out, or waits. WRITE_POSTED has none, but is one of its source's last messages (R68). -/
def State.conclude (cmd : Nat) (m : Msg) (a : Answer) : State :=
  if a.silent then
    if cmd = 3 then
      { a.s with od := { a.s.od.keep m.src { seq := m.seq, cmd := 3, status := a.status, payload := none } with replyFrom := none } }
    else a.s
  else if m.src.group then a.s.keepGroup cmd m a
  else if a.waits ≠ [] then
    let w : Owed := { req := { src := m.src, seq := m.seq }, cmd := cmd, waits := a.waits, status := a.status, payload := a.payload }
    { a.s with od := { a.s.od with owed := a.s.od.owed ++ [w] } }
  else
    let s := if cmd = 0xB ∨ cmd = 0xC then a.s.keepGroup cmd m a else a.s
    s.reply m.src cmd m.seq a.status a.payload (cmd != 1)

/-- A validated message (R68, R69): executed once, by those classes that may. -/
def State.serve (s : State) (cmd : Nat) (m : Msg) (run : State → Answer) : State :=
  match s.od.kept? m.src m.seq with
  | some k => s.resend m.src k
  | none =>
    if s.aqInFlight m.src m.seq then s.count Od.aqDupInflight
    else if s.underWay m.src m.seq then s
    else if cmdClasses cmd &&& s.portClass m.src.port = 0 then State.conclude cmd m (s.refuse stNoRight)
    else match s.notServed cmd with
      | some st => State.conclude cmd m (s.refuse st)
      | none => State.conclude cmd m (run s)

/-- After a message that had waited, those of its port whose code is not defined are answered in their turn (R66, R67). -/
def State.nextOf (s u : State) (cmd : Nat) (m : Msg) : State :=
  if (s.dequeue cmd m).isSome then u.answerUndefined m.src.port 64 else u

/-- A message command: taken, and served where it is executed now. -/
def State.message (s : State) (dt cmd : Nat) (m : Msg) (run : State → Answer) : State :=
  match (s.advance dt).letIn cmd m with
  | (t, true) => (s.advance dt).nextOf (t.serve cmd m run) cmd m
  | (t, false) => t

/-- A request whose turn it is (log entry 3): from a port that is heard and has a class, and not through the group address. -/
def State.letInReq (s : State) (r : Req) : State × Bool :=
  if s.hears r.src.port = false then (s, false)
  else if r.src.port < 24 ∧ s.reg Od.role r.src.port = 2 then (s.count Od.classTDropped, false)
  else if s.portClass r.src.port = 0 then (s, false)
  else if r.src.group then (s.count Od.msgDiscarded, false)
  else (s.count Od.rxMsgs, true)

/-! ## READ (R70, R71, R80) -/

/-- The aqueduct's answer to window items; none where it took the message (R377). -/
def aqAnswer (a : State × Option AqNo) : Answer :=
  match a with
  | (s, none) => { s := s, silent := true }
  | (s, some no) => { s.refuse no.status with payload := no.payload, index := no.index, sub := no.sub }

/-- The STATUS of a message: the first item's that failed (R71). -/
def firstStatus (sts : List Nat) : Nat := (sts.find? (· != stOk)).getD stOk

/-- The items of a READ. Every item reads before any clears, so an entry that a message names twice gives its value twice (log entry 135). -/
def State.readAll (s : State) (cls : Nat) (items : List ReadItem) : Answer :=
  let res := items.map fun it => (it, s.readItem cls it)
  let payload := res.flatMap fun p => valueItem p.1 p.2.2.1 p.2.1 p.2.2.2
  if 1436 < payload.length then s.refuse stRange
  else
    let s := s.count Od.noRightCount (res.filter fun p => p.2.1 == stNoRight).length
    let s := (res.filter fun p => p.2.1 == stOk).foldl (fun (s : State) p => s.clearItem p.1) s
    { s := s, status := firstStatus (res.map fun p => p.2.1), payload := payload }

/-- READ: values that the manual leaves open are drawn anew (log entry 9). -/
def State.runRead (m : Msg) (s : State) : Answer :=
  match readItems m.payload with
  | none => s.refuse stType
  | some items =>
    if 64 < items.length then s.refuse stRange
    else if items.any fun i => inWindow i.index then aqAnswer (s.windowRead m.src m.seq items)
    else s.draw.readAll (s.portClass m.src.port) items

def execRead (dt : Nat) (m : Msg) (s : State) : Host.Outcome State Fault Refusal := finish s (s.message dt 1 m (State.runRead m))

/-! ## WRITE and WRITE_POSTED (R70, R72, R73) -/

/-- The item a message's STATUS is taken from: the first that refuses, or else the first that is not OK (R72). -/
def statusOf (items : List WriteItem) (sts : List Nat) : Nat × Nat × Nat :=
  let l := items.zip sts
  match (l.find? fun p => refuses p.2).or (l.find? fun p => p.2 != stOk) with
  | some (w, st) => (st, w.index, w.sub)
  | none => (stOk, 0, 0)

/-- The items of a WRITE; `bulk` where the value moved in a bulk session. -/
def State.writeList (s : State) (src : Src) (seq : Nat) (posted : Bool) (items : List WriteItem) (bulk : Bool) : Answer :=
  if items.any fun w => inWindow w.index then aqAnswer (s.windowWrite src seq posted items)
  else
    let (t, sts, waits) := s.writeAll (s.portClass src.port) { src := src, seq := seq } items bulk
    let (st, index, sub) := statusOf items sts
    { s := t, status := st, payload := (items.zip sts).flatMap fun p => statusItem p.1.index p.1.sub p.2, waits := waits, index := index, sub := sub }

/-- The payload of a WRITE. -/
def State.writePayload (s : State) (m : Msg) (posted : Bool) : Answer :=
  match writeItems m.payload with
  | none => s.refuse stType
  | some items => if 64 < items.length then s.refuse stRange else s.writeList m.src m.seq posted items false

def execWrite (dt : Nat) (m : Msg) (s : State) : Host.Outcome State Fault Refusal :=
  finish s (s.message dt 2 m fun s => s.writePayload m false)

/-- The 28-byte POSTED_LOG record (R73, R501). A WRITE_POSTED refused whole (R70) has no item that failed: INDEX and SUB are 0 (log entry
135). -/
def postedRecord (m : Msg) (a : Answer) : Bytes :=
  (if m.src.port = 26 then natBE 18 0 else natBE 16 m.src.addr ++ natBE 2 m.src.udp) ++ natBE 2 m.seq ++ natBE 2 a.index ++ natBE 1 a.sub ++
    natBE 1 0 ++ natBE 2 a.status ++ natBE 2 0

/-- A refused WRITE_POSTED (R73). -/
def State.postedFailed (m : Msg) (a : Answer) : State :=
  let s := a.s.count Od.postedFails
  let s := { s with od := { s.od with posted := pushLast 16 s.od.posted (postedRecord m a) } }
  s.raise 0x1001 (natBE 2 a.index ++ natBE 1 a.sub ++ natBE 2 a.status ++ natBE 2 m.seq)

/-- WRITE_POSTED: as WRITE, with no reply (R73). -/
def State.runPosted (m : Msg) (s : State) : Answer :=
  let a := s.writePayload m true
  { s := if a.silent = false && refuses a.status then State.postedFailed m a else a.s, silent := true }

def execWritePosted (dt : Nat) (m : Msg) (s : State) : Host.Outcome State Fault Refusal := finish s (s.message dt 3 m (State.runPosted m))

/-! ## Bulk sessions (R74–R77, R212, R370) -/

/-- TOTAL of a write session on CAL_DATA fits the page CAL_TARGET names (R212). -/
def State.calOpenOk (s : State) (total : Nat) : Bool :=
  let t := s.reg Od.calTarget
  let tile := t / 65536 % 16384
  let maps := match s.shadowOf Od.tileMap 0 with | .tab b => records 56 b | .num _ => []
  let limit : Nat := if t / 2 ^ 30 = 1 then 4194304 else match maps.find? fun r => u16 r 0 == tile with | some r => u16 r 4 * u16 r 6 | none => 0
  let known : Bool := t / 2 ^ 30 == 1 || maps.any fun r => u16 r 0 == tile
  known && total % 20 == 0 && decide (total ≤ 10485760) && decide (t % 256 * 524288 + total / 20 ≤ limit)

/-- TOTAL of a write session is within what the entry can take (R50, R185, R212, R370). -/
def State.totalOk (s : State) (key total : Nat) : Bool :=
  if key = Od.calData.key then s.calOpenOk total
  else if key = Od.rasterStill.key then decide (total ≤ 16777216) && decide (total ≤ s.cfg Od.stillArea * 1048576)
  else if Od.points.holds key then decide (total ≤ 8388608)
  else decide (total ≤ 16777216)

/-- The next handle that no session has. -/
def OdState.freeHandle (o : OdState) : Nat :=
  (((List.range 9).map fun i => (o.nextHandle + i) % 65536).find? fun h => o.bulks.all fun b => b.handle != h).getD o.nextHandle

/-- A new session, under a free handle. -/
def State.openBulk (s : State) (src : Src) (key : Nat) (isWrite : Bool) (total : Nat) (data : Bytes) : Answer :=
  let h := s.od.freeHandle
  let b : Bulk := { handle := h, src := src, key := key, isWrite := isWrite, total := total, data := data, parts := [], lastSeen := s.now }
  { s := { s with od := { s.od with bulks := s.od.bulks ++ [b], nextHandle := (h + 1) % 65536 } }
    payload := natBE 2 h ++ natBE 2 0 ++ natBE 4 total }

/-- The entry a session is on: a page of CAL_DATA is a value of its own, but CAL_DATA is one entry (R212). -/
def Bulk.entry (b : Bulk) : Nat := if calBase ≤ b.key then Od.calData.key else b.key

/-- BULK_OPEN (R74, R75): a DIR other than 0 and 1 answers RANGE (log entry 135). A read session clears what a read clears as it takes its
copy (R80, R274). -/
def State.runBulkOpen (m : Msg) (s : State) : Answer :=
  let p := m.payload
  let index := u16 p 0
  let key := entryKey index (u8 p 2)
  let dir := u8 p 3
  if p.length ≠ 12 then s.refuse stType
  else if inWindow index then s.refuse (match s.windowRoute m.src [index] with | .error st => st | .ok _ => stSize)
  else
    match s.entryRow key with
    | none => s.refuse stNoEntry
    | some (r, i) =>
      if r.cls &&& s.portClass m.src.port = 0 ∨ (dir = 0 ∧ r.acc = .w) then s.refuse stNoRight
      else if r.ty ≠ 12 ∧ r.ty ≠ 13 then s.refuse stType
      else if 1 < dir ∨ (dir = 1 ∧ s.totalOk key (u32 p 4) = false) then s.refuse stRange
      else if 8 ≤ s.od.bulks.length ∨ (dir = 1 ∧ s.od.bulks.any fun b => b.isWrite && b.entry == key) then s.refuse stBusy
      else if dir = 1 then s.openBulk m.src (s.shadowKey key) true (u32 p 4) []
      else
        let s := s.draw
        let v := r.wire (s.entry r i)
        (s.clearOnRead r i).openBulk m.src (s.shadowKey key) false v.length v

def execBulkOpen (dt : Nat) (m : Msg) (s : State) : Host.Outcome State Fault Refusal := finish s (s.message dt 4 m (State.runBulkOpen m))

def State.setBulk (s : State) (b : Bulk) : State :=
  { s with od := { s.od with bulks := s.od.bulks.map fun x => if x.handle = b.handle then b else x } }

def State.endBulk (s : State) (h : Nat) : State := { s with od := { s.od with bulks := s.od.bulks.filter fun b => b.handle != h } }

/-- The session of a handle, seen now: or the status that refuses the message (R74). -/
def State.session (s : State) (src : Src) (h : Nat) : Except Nat Bulk :=
  match s.od.bulks.find? fun b => b.handle == h with
  | none => .error stNoEntry
  | some b => if whoOf b.src = whoOf src then .ok { b with lastSeen := s.now } else .error stNoRight

/-- Bytes of a write session. Those of RASTER_STILL show as they land (R370). -/
def State.bulkStore (s : State) (b : Bulk) (off : Nat) (data : Bytes) : State :=
  let s := s.setBulk { b with parts := b.parts ++ [(off, data)] }
  if b.key = Od.rasterStill.key then { s with ras := { s.ras with still := memWrite off data s.ras.still } } else s

/-- BULK_DATA (R75, R76). -/
def State.runBulkData (m : Msg) (s : State) : Answer :=
  let p := m.payload
  let len := u16 p 2
  let off := u32 p 4
  if p.length < 8 then s.refuse stType
  else
    match s.session m.src (u16 p 0) with
    | .error st => s.refuse st
    | .ok b =>
      let s := s.setBulk b
      if len = 0 ∨ 1024 < len ∨ b.total < off + len then s.refuse stRange
      else if p.length ≠ (if b.isWrite then 8 + len else 8) then s.refuse stType
      else if b.isWrite then { s := s.bulkStore b off (p.drop 8) }
      else { s := s, payload := p.take 8 ++ slice b.data off len }

def execBulkData (dt : Nat) (m : Msg) (s : State) : Host.Outcome State Fault Refusal := finish s (s.message dt 5 m (State.runBulkData m))

/-- DETAIL and its three reserved bytes. -/
def detail (d : Nat) : Bytes := natBE 1 d ++ natBE 3 0

/-- The value of a write session, applied as a WRITE of one item; a page of CAL_DATA goes to the target of its BULK_OPEN (R76, R212). -/
def State.applyBulk (s : State) (m : Msg) (b : Bulk) (v : Bytes) : Answer :=
  let ty := match Od.find b.entry with | some (r, _) => r.ty | none => 0
  let w : WriteItem := { index := b.entry / 256, sub := b.entry % 256, ty := ty, flags := 0, value := v }
  let target := s.reg Od.calTarget
  let s := if calBase ≤ b.key then s.setReg Od.calTarget (b.key - calBase) else s
  let a := s.writeList m.src m.seq false [w] true
  let t := if calBase ≤ b.key then a.s.setReg Od.calTarget target else a.s
  { a with s := t, payload := detail (if refuses a.status then 3 else 0) }

/-- BULK_CLOSE ends the session in every case (R76). -/
def State.runBulkClose (m : Msg) (s : State) : Answer :=
  let p := m.payload
  if p.length < 2 then s.refuse stType
  else
    match s.session m.src (u16 p 0) with
    | .error st => s.refuse st
    | .ok b =>
      let s := s.endBulk b.handle
      let v := overlayParts b.total b.parts
      if p.length ≠ 8 then s.refuse stType
      else if b.isWrite = false then { s := s, payload := detail 0 }
      else if covers b.parts b.total = false then { s.refuse stRange with payload := detail 1 }
      else if crc32c v ≠ u32 p 4 then { s.refuse stRange with payload := detail 2 }
      else s.applyBulk m b v

def execBulkClose (dt : Nat) (m : Msg) (s : State) : Host.Outcome State Fault Refusal := finish s (s.message dt 6 m (State.runBulkClose m))

/-- BULK_EXPIRE (R77): a session that has seen no message for 10 s. -/
def execBulkExpire (handle : Nat) (s : State) : Host.Outcome State Fault Refusal :=
  finish s (
    match s.od.bulks.find? fun b => b.handle == handle with
    | none => s
    | some b =>
      ((s.goTo (b.lastSeen + 10000000000)).endBulk handle).raise 0x1003 (natBE 2 handle ++ natBE 2 (b.entry / 256) ++ natBE 1 b.entry))

/-! ## Subscriptions (R81, R82) -/

/-- The first free slot of 16. -/
def freeSubSlot (subs : List (Nat × Sub)) : Option Nat := (List.range 16).find? fun i => (kvGet i subs).isNone

/-- SUBSCRIBE (R81): a subscription per source. -/
def State.runSubscribe (m : Msg) (s : State) : Answer :=
  let p := m.payload
  let lo := u16 p 0
  let hi := u16 p 2
  let mine := s.od.subs.find? fun x => whoOf x.2.src == whoOf m.src
  let put (i : Nat) (b : Sub) : State := { s with od := { s.od with subs := kvSet i b s.od.subs } }
  let until_ := s.now + s.reg Od.subLease * 1000000000
  if p.length ≠ 8 then s.refuse stType
  else if hi < lo then
    { s := match mine with | some x => { s with od := { s.od with subs := kvDel x.1 s.od.subs } } | none => s }
  else
    match mine with
    | some x => { s := put x.1 { x.2 with src := m.src, cls := s.portClass m.src.port, lo := lo, hi := hi, expires := until_ } }
    | none =>
      match freeSubSlot s.od.subs with
      | none => s.refuse stBusy
      | some i => { s := put i { src := m.src, cls := s.portClass m.src.port, lo := lo, hi := hi, expires := until_ } }

def execSubscribe (dt : Nat) (m : Msg) (s : State) : Host.Outcome State Fault Refusal := finish s (s.message dt 8 m (State.runSubscribe m))

/-- SUBSCRIPTION_LAPSE (R81). -/
def execSubscriptionLapse (slot : Nat) (s : State) : Host.Outcome State Fault Refusal :=
  finish s (
    match kvGet slot s.od.subs with
    | none => s
    | some b => let t := s.goTo b.expires; { t with od := { t.od with subs := kvDel slot t.od.subs } })

/-- The SPI read path has room for one more NOTIFY (R85). -/
def State.notifyRoom (s : State) (src : Src) : Bool := src.port != 26 || decide ((s.od.spiReplies.filter fun r => r.cmd == 9).length < 64)

/-- NOTIFY (R82): the oldest message of a subscriber's queue is sent. -/
def State.notify (s : State) (slot : Nat) : State :=
  match kvGet slot s.od.subs with
  | none => s
  | some b =>
    match b.queue with
    | [] => s
    | (seq, e) :: rest =>
      if s.notifyRoom b.src = false then s
      else
        let t := { s with od := { s.od with subs := kvSet slot { b with queue := rest } s.od.subs } }
        t.send { dst := b.src, cmd := 9, seq := seq, device := s.device, status := 0, payload := e.bytes, sport := s.reg Od.odUdpPort }

def execNotify (dt slot : Nat) (s : State) : Host.Outcome State Fault Refusal := finish s ((s.advance dt).notify slot)

/-! ## The SPI target (R85) -/

/-- PUT_MSG: discarded while input full reads 1 (R85); DEVICE is ignored (R66). -/
def State.putMsg (s : State) (bytes : Bytes) : State :=
  if s.alive = false then s
  else if 64 ≤ (s.od.inQ.filter fun q => q.1 == 0).length then s.count Od.queueDrops
  else
    match msgOf { port := 26 } bytes with
    | none => s.count Od.msgDiscarded
    | some (cmd, m) => if s.discards m then s.count Od.msgDiscarded else (s.count Od.rxMsgs).queueMsg cmd m

def execPutMsg (dt : Nat) (bytes : Bytes) (s : State) : Host.Outcome State Fault Refusal := finish s ((s.advance dt).putMsg bytes)

/-- Bytes that the SPI target shifts out after the opcode; nothing runs in RESET. -/
def State.shiftOut (s : State) (b : Bytes) : State := if s.alive then { s with od := { s.od with spiOut := b :: s.od.spiOut } } else s

/-- GET_MSG: 2 bytes of length and the oldest waiting reply or NOTIFY are shifted out; length 0x0000 where none waits (R85). -/
def State.getMsg (s : State) : State :=
  match s.od.spiReplies with
  | [] => s.shiftOut (natBE 2 0)
  | r :: t => { s with od := { s.od with spiReplies := t, sent := r :: s.od.sent } }.shiftOut (natBE 2 r.bytes.length ++ r.bytes)

def execGetMsg (dt : Nat) (s : State) : Host.Outcome State Fault Refusal := finish s (s.advance dt).getMsg

/-- The byte STATUS shifts out (R85). -/
def State.spiByte (s : State) : Nat :=
  b2n (s.od.spiReplies.any fun r => r.cmd != 9) + 2 * b2n (s.od.spiReplies.any fun r => r.cmd == 9) +
    4 * b2n (decide (64 ≤ (s.od.inQ.filter fun q => q.1 == 0).length))

/-- STATUS shifts `spiByte` out and changes nothing else (R85). -/
def execSpiStatus (dt : Nat) (s : State) : Host.Outcome State Fault Refusal :=
  let t := s.advance dt
  finish s (t.shiftOut (natBE 1 t.spiByte))

/-! ## The journal (R53, R424) -/

/-- JOURNAL_WRITE_DONE: the oldest change stands in the settings store, then the key blobs; a SYNC replies once nothing waits. -/
def State.journalDone (s : State) : State :=
  let s := match s.od.journalQ with
    | [] => { s with keys := s.keys.saveBlobs }
    | q :: t => { s with od := { s.od with journal := s.od.journal.setVal q.1 q.2.1, journalQ := t } }
  if s.persistWaits then s else s.settleOwed 0

def execJournalWriteDone (dt : Nat) (s : State) : Host.Outcome State Fault Refusal :=
  finish s (let t := s.advance dt; if t.alive then t.journalDone else t)

/-! ## COMMIT, and the group commands (R21–R24, R78–R80) -/

/-- The time a COMMIT or a group record carries: none for an empty payload; refused where it is no TIME. -/
def timeField (b : Bytes) : Except Nat (Option Nat) :=
  if b.isEmpty then .ok none
  else if timeOk (beNat (b.take 10)) then .ok (some (nsOfTime (beNat (b.take 10)))) else .error stRange

/-- Reply payload of COMMIT, SNAPSHOT and RESET (R69); empty where the command is refused (log entry 135). -/
def boundReply (st k : Nat) : Bytes := if refuses st then [] else natBE 4 (frameNo k) ++ natBE 4 0

/-- COMMIT (R78, R79); a group COMMIT bound late counts in GROUP_LATE (R22). -/
def State.runCommit (m : Msg) (s : State) : Answer :=
  if m.src.group = false ∧ m.payload.length ≠ 0 ∧ m.payload.length ≠ 10 then s.refuse stType
  else
    match timeField m.payload with
    | .error st => s.refuse st
    | .ok t =>
      let (s, st, k) := s.commitDirty (s.portClass m.src.port) t
      { s := if m.src.group && st == stLateBound then s.count Od.groupLate else s, status := st, payload := boundReply st k, bound := k }

/-- SNAPSHOT and RESET bind as R22 lays down and act as the intake of their frame begins (R79). -/
def State.runGroup (m : Msg) (s : State) : Answer :=
  if m.payload.length ≠ 16 then s.refuse stType
  else
    match timeField m.payload with
    | .error st => s.refuse st
    | .ok t =>
      let (k, late) := s.bindAt t (s.delayOf [])
      let st := if late then stLateBound else stOk
      { s := if late then s.count Od.groupLate else s, status := st, payload := boundReply st k, bound := k }

/-- A group command while NUMBER_SET reads 0 is ignored and counted (R18). -/
def State.groupMessage (s : State) (dt cmd : Nat) (m : Msg) (run : State → Answer) : State :=
  match (s.advance dt).letIn cmd m with
  | (t, false) => t
  | (t, true) =>
    (s.advance dt).nextOf (if m.src.group && t.reg Od.numberSet == 0 then t.count Od.groupIgnored else t.serve cmd m run) cmd m

/-- COMMIT_CMD (R78). -/
def execCommitCmd (dt : Nat) (m : Msg) (s : State) : Host.Outcome State Fault Refusal := finish s (s.groupMessage dt 7 m (State.runCommit m))

/-- GROUP_COMMIT (R79). -/
def execGroupCommit (dt : Nat) (m : Msg) (s : State) : Host.Outcome State Fault Refusal := finish s (s.groupMessage dt 7 m (State.runCommit m))

/-- GROUP_SNAPSHOT (R79, R80). -/
def execGroupSnapshot (dt : Nat) (m : Msg) (s : State) : Host.Outcome State Fault Refusal := finish s (s.groupMessage dt 0xB m (State.runGroup m))

/-- GROUP_RESET (R79). -/
def execGroupReset (dt : Nat) (m : Msg) (s : State) : Host.Outcome State Fault Refusal := finish s (s.groupMessage dt 0xC m (State.runGroup m))

/-- The code of a kind. -/
def kindCmd (kind : Nat) : Nat := match kind with | 1 => 0xB | 2 => 0xC | _ => 7

/-- When a group command is answered (R24). -/
def State.replyAt (s : State) (g : GroupCmd) : Nat := g.execNs + s.device % 64 * s.reg Od.replySlot * 1000

/-- The group command answered next. -/
def State.nextReply (s : State) : Option GroupCmd :=
  (s.od.groups.filter fun g => !g.replied).foldl (fun (a : Option GroupCmd) g =>
    match a with
    | none => some g
    | some h => if s.replyAt g < s.replyAt h then some g else some h) none

/-- GROUP_REPLY_SEND (R24). -/
def execGroupReplySend (s : State) : Host.Outcome State Fault Refusal :=
  finish s (
    match s.nextReply with
    | none => s
    | some g =>
      let t := s.goTo (s.replyAt g)
      let left := (t.od.groups.map fun (x : GroupCmd) => if x = g then { x with replied := true } else x).filter fun x => !(x.acted && x.replied)
      ({ t with od := { t.od with groups := left } }).reply g.src (kindCmd g.kind) g.seq g.status (boundReply g.status g.bound))

/-! ## CHALLENGE and UPDATE_* (R427, R432–R437, R443) -/

def execChallenge (dt : Nat) (m : Msg) (s : State) : Host.Outcome State Fault Refusal :=
  finish s (s.message dt 0xA m fun s => let (t, st, p) := s.challenge m.payload; { s := t, status := st, payload := p })

def execUpdateOpen (dt : Nat) (m : Msg) (s : State) : Host.Outcome State Fault Refusal :=
  finish s (s.message dt 0x10 m fun s => let (t, st, p) := s.updateOpen m.payload; { s := t, status := st, payload := p })

def execUpdatePiece (dt : Nat) (m : Msg) (s : State) : Host.Outcome State Fault Refusal :=
  finish s (s.message dt 0x11 m fun s => let (t, st, p) := s.updatePiece m.payload; { s := t, status := st, payload := p })

def execUpdateFinish (dt : Nat) (m : Msg) (s : State) : Host.Outcome State Fault Refusal :=
  finish s (s.message dt 0x12 m fun s => let (t, st, p) := s.updateFinish m.payload; { s := t, status := st, payload := p })

def execUpdateActivate (dt : Nat) (m : Msg) (s : State) : Host.Outcome State Fault Refusal :=
  finish s (s.message dt 0x13 m fun s => let (t, st) := s.updateActivate m.payload; { s := t, status := st })

/-- UPDATE_CONFIRM carries no payload; outside a trial it has no effect and replies OK (R443). -/
def execUpdateConfirm (dt : Nat) (m : Msg) (s : State) : Host.Outcome State Fault Refusal :=
  finish s (s.message dt 0x14 m fun s => if m.payload = [] then { s := s.confirmTrial } else s.refuse stType)

def execUpdateAbort (dt : Nat) (m : Msg) (s : State) : Host.Outcome State Fault Refusal :=
  finish s (s.message dt 0x15 m fun s => let (t, st) := s.updateAbort m.payload; { s := t, status := st })

end Sys2Proof.Machine
end

