-- ==== Sys2Proof/Machine/Requests.lean ====
section
/-!
DEFINITION. The commands that are a write of one entry: each is a WRITE of one item through R72, with its reply (log entry 3).
-/
namespace Sys2Proof.Machine

/-- The message that carries one item. -/
def reqMsg (r : Req) (device : Nat) : Msg := { src := r.src, seq := r.seq, device := device, length := 0, payload := [] }

/-- The item that writes entry `i` of a row; entry numbers past the row's name no entry. -/
def OdRow.item (r : OdRow) (i : Nat) (v : Bytes) : WriteItem :=
  let key := if i < r.n then r.key + i else 0
  { index := key / 256, sub := key % 256, ty := if r.acc = .x then 0 else r.ty, flags := 0, value := v }

/-- The bytes of a write item (R70). -/
def WriteItem.bytes (w : WriteItem) : Bytes :=
  natBE 2 w.index ++ natBE 1 w.sub ++ natBE 1 w.ty ++ natBE 1 w.flags ++ natBE 1 0 ++ natBE 2 w.value.length ++
    padTo ((w.value.length + 3) / 4 * 4) w.value

/-- A WRITE of one item (log entry 3). While messages of its port wait, it waits behind them as the WRITE it is (R67); the value of a closed
bulk session is applied at once. -/
def State.request (s : State) (dt : Nat) (r : Req) (w : WriteItem) (bulk : Bool := false) : State :=
  match (s.advance dt).letInReq r with
  | (t, true) =>
    if t.waitsOn r.src.port && !bulk && decide (w.value.length ≤ 1024) then
      t.queueMsg 2 { reqMsg r t.device with length := w.bytes.length, payload := w.bytes }
    else t.serve 2 (reqMsg r t.device) fun s => s.writeList r.src r.seq false [w] bulk
  | (t, false) => t

/-- A number in a row's own length; the argument of an X entry in 8 bytes (R502). -/
def OdRow.numItem (r : OdRow) (i n : Nat) : WriteItem := r.item i (natBE r.len n)

/-! ## The timeline (R34–R37, R17) -/

def execCommit (dt : Nat) (r : Req) (s : State) : Host.Outcome State Fault Refusal := finish s (s.request dt r (Od.commit.numItem 0 0))

def execCommitAt (dt : Nat) (r : Req) (time : Nat) (s : State) : Host.Outcome State Fault Refusal :=
  finish s (s.request dt r (Od.commitAt.numItem 0 time))

def execCancelPending (dt : Nat) (r : Req) (s : State) : Host.Outcome State Fault Refusal := finish s (s.request dt r (Od.cancelPending.numItem 0 0))

def execDeviceNumberWrite (dt : Nat) (r : Req) (v : Nat) (s : State) : Host.Outcome State Fault Refusal :=
  finish s (s.request dt r (Od.deviceNumber.numItem 0 v))

/-! ## The object dictionary (R53, R63, R72, R84) -/

/-- REGISTER_WRITE: any item. -/
def execRegisterWrite (dt : Nat) (r : Req) (index sub ty : Nat) (value : Bytes) (s : State) : Host.Outcome State Fault Refusal :=
  finish s (s.request dt r { index := index, sub := sub, ty := ty, flags := 0, value := value })

def execIrqPendingWrite (dt : Nat) (r : Req) (v : Nat) (s : State) : Host.Outcome State Fault Refusal :=
  finish s (s.request dt r (Od.irqPending.numItem 0 v))

def execMgmt1ClassWrite (dt : Nat) (r : Req) (v : Nat) (s : State) : Host.Outcome State Fault Refusal :=
  finish s (s.request dt r (Od.mgmt1Class.numItem 0 v))

def execSync (dt : Nat) (r : Req) (s : State) : Host.Outcome State Fault Refusal := finish s (s.request dt r (Od.sync.numItem 0 0))

/-! ## Time (R89, R92, R99) -/

/-- PTP_ENABLE of domain 0 (A) or 1 (B); there is no other. -/
def execDomainEnableWrite (dt : Nat) (r : Req) (domain v : Nat) (s : State) : Host.Outcome State Fault Refusal :=
  finish s (s.request dt r ((Od.ptpEnable.inst domain).numItem (domain / 2) v))

def execSelectWrite (dt : Nat) (r : Req) (v : Nat) (s : State) : Host.Outcome State Fault Refusal := finish s (s.request dt r (Od.select.numItem 0 v))

def execSwitchAtWrite (dt : Nat) (r : Req) (time : Nat) (s : State) : Host.Outcome State Fault Refusal :=
  finish s (s.request dt r (Od.switchAt.numItem 0 time))

/-! ## Lanes, colour, cells, the link and the lamp ports -/

def execLaneEnWrite (dt : Nat) (r : Req) (port v : Nat) (s : State) : Host.Outcome State Fault Refusal :=
  finish s (s.request dt r (Od.laneEn.numItem port v))

def execDitherReset (dt : Nat) (r : Req) (s : State) : Host.Outcome State Fault Refusal := finish s (s.request dt r (Od.ditherReset.numItem 0 0))

/-- AGE_LEDGER_WRITE: values above 1,024 bytes come by a bulk session (R74). -/
def execAgeLedgerWrite (dt : Nat) (r : Req) (value : Bytes) (s : State) : Host.Outcome State Fault Refusal :=
  finish s (s.request dt r (Od.ageLedger.item 0 value) true)

def execCellRetire (dt : Nat) (r : Req) (cell : Nat) (s : State) : Host.Outcome State Fault Refusal :=
  finish s (s.request dt r (Od.cellRetire.numItem 0 cell))

def execCellRestore (dt : Nat) (r : Req) (cell : Nat) (s : State) : Host.Outcome State Fault Refusal :=
  finish s (s.request dt r (Od.cellRestore.numItem 0 cell))

def execSealRollNow (dt : Nat) (r : Req) (sectionNo : Nat) (s : State) : Host.Outcome State Fault Refusal :=
  finish s (s.request dt r (Od.sealRollNow.numItem 0 sectionNo))

def execRdmQueueWrite (dt : Nat) (r : Req) (port : Nat) (value : Bytes) (s : State) : Host.Outcome State Fault Refusal :=
  finish s (s.request dt r (Od.rdmQueue.item port value))

def execPortEnWrite (dt : Nat) (r : Req) (port v : Nat) (s : State) : Host.Outcome State Fault Refusal :=
  finish s (s.request dt r (Od.portEn.numItem port v))

def execSenseCapture (dt : Nat) (r : Req) (group : Nat) (s : State) : Host.Outcome State Fault Refusal :=
  finish s (s.request dt r (Od.senseCapture.numItem 0 group))

/-! ## Raster (R365, R366) -/

/-- RS_SHADOW_WRITE: record 0 is RS_TIMING, 1 RS_SCAN; there is no other. -/
def execRsShadowWrite (dt : Nat) (r : Req) (record : Nat) (value : Bytes) (s : State) : Host.Outcome State Fault Refusal :=
  finish s (s.request dt r ((if record = 0 then Od.rsTiming else Od.rsScan).item (record / 2) value))

def execRsCommit (dt : Nat) (r : Req) (v : Nat) (s : State) : Host.Outcome State Fault Refusal := finish s (s.request dt r (Od.rsCommit.numItem 0 v))

/-! ## The towpath and its mirror (R398, R401–R404) -/

def execAcquire (dt : Nat) (r : Req) (s : State) : Host.Outcome State Fault Refusal := finish s (s.request dt r (Od.towCommand.numItem 0 1))

def execRelease (dt : Nat) (r : Req) (s : State) : Host.Outcome State Fault Refusal := finish s (s.request dt r (Od.towCommand.numItem 0 2))

def execHandover (dt : Nat) (r : Req) (s : State) : Host.Outcome State Fault Refusal := finish s (s.request dt r (Od.towCommand.numItem 0 3))

def execClearFault (dt : Nat) (r : Req) (s : State) : Host.Outcome State Fault Refusal := finish s (s.request dt r (Od.towCommand.numItem 0 4))

def execPeerBeaconWrite (dt : Nat) (r : Req) (value : Bytes) (s : State) : Host.Outcome State Fault Refusal :=
  finish s (s.request dt r (Od.peerBeacon.item 0 value))

def execMirrorSmallWrite (dt : Nat) (r : Req) (value : Bytes) (s : State) : Host.Outcome State Fault Refusal :=
  finish s (s.request dt r (Od.mirrorSmall.item 0 value))

/-- MIRROR_TABLE_WRITE: the value of a closed bulk session (R403; log entry 45). -/
def execMirrorTableWrite (dt : Nat) (r : Req) (value : Bytes) (s : State) : Host.Outcome State Fault Refusal :=
  finish s (s.request dt r (Od.mirrorTable.item 0 value) true)

def execStandbyModeWrite (dt : Nat) (r : Req) (v : Nat) (s : State) : Host.Outcome State Fault Refusal :=
  finish s (s.request dt r (Od.standbyMode.numItem 0 v))

/-! ## Keys (R413, R418, R422) -/

/-- KEY_REGISTER_WRITE: 0 KEK, 1 ATTEST, 2 UPDATE; there is no other. -/
def execKeyRegisterWrite (dt : Nat) (r : Req) (reg : Nat) (value : Bytes) (s : State) : Host.Outcome State Fault Refusal :=
  finish s (s.request dt r ((if reg = 0 then Od.kek else if reg = 1 then Od.attest else Od.update).item (reg / 3) value))

def execKeyLoad (dt : Nat) (r : Req) (value : Bytes) (s : State) : Host.Outcome State Fault Refusal :=
  finish s (s.request dt r (Od.keyLoad.item 0 value))

def execKeyInvalidate (dt : Nat) (r : Req) (slot : Nat) (s : State) : Host.Outcome State Fault Refusal :=
  finish s (s.request dt r (Od.keyInvalidate.numItem 0 slot))

/-! ## Trim, power (R449, R452, R464, R467) -/

def execTrimTRun (dt : Nat) (r : Req) (s : State) : Host.Outcome State Fault Refusal := finish s (s.request dt r (Od.trimTRun.numItem 0 0))

def execTrimARun (dt : Nat) (r : Req) (tag : Nat) (s : State) : Host.Outcome State Fault Refusal :=
  finish s (s.request dt r (Od.trimARun.numItem 0 tag))

def execDomainEnWrite (dt : Nat) (r : Req) (v : Nat) (s : State) : Host.Outcome State Fault Refusal :=
  finish s (s.request dt r (Od.domainEn.numItem 0 v))

def execRestart (dt : Nat) (r : Req) (s : State) : Host.Outcome State Fault Refusal := finish s (s.request dt r (Od.restart.numItem 0 0))

end Sys2Proof.Machine
end

