-- ==== Sys2Proof/Machine/Dispatch.lean ====
section
/-!
DEFINITION. What each command does to the block, one arm a command.
-/
namespace Sys2Proof.Machine

/-- The effect of a command on everything but the queue. -/
def exec (i : Instr) (s : State) : Host.Outcome State Fault Refusal :=
  match i with
  | .tick ack => Sys2Proof.Machine.execTick ack s
  | .tickOutFall => Sys2Proof.Machine.execTickOutFall s
  | .frameCutoff => Sys2Proof.Machine.execFrameCutoff s
  | .tickMissed => Sys2Proof.Machine.execTickMissed s
  | .holdDecision o => Sys2Proof.Machine.execHoldDecision o s
  | .outputLaunch o => Sys2Proof.Machine.execOutputLaunch o s
  | .timelineStart dt => Sys2Proof.Machine.execTimelineStart dt s
  | .commit dt r => Sys2Proof.Machine.execCommit dt r s
  | .commitAt dt r time => Sys2Proof.Machine.execCommitAt dt r time s
  | .cancelPending dt r => Sys2Proof.Machine.execCancelPending dt r s
  | .commitCmd dt m => Sys2Proof.Machine.execCommitCmd dt m s
  | .groupCommit dt m => Sys2Proof.Machine.execGroupCommit dt m s
  | .groupSnapshot dt m => Sys2Proof.Machine.execGroupSnapshot dt m s
  | .groupReset dt m => Sys2Proof.Machine.execGroupReset dt m s
  | .groupReplySend => Sys2Proof.Machine.execGroupReplySend s
  | .deviceNumberWrite dt r v => Sys2Proof.Machine.execDeviceNumberWrite dt r v s
  | .read dt m => Sys2Proof.Machine.execRead dt m s
  | .write dt m => Sys2Proof.Machine.execWrite dt m s
  | .writePosted dt m => Sys2Proof.Machine.execWritePosted dt m s
  | .registerWrite dt r index sub ty value => Sys2Proof.Machine.execRegisterWrite dt r index sub ty value s
  | .bulkOpen dt m => Sys2Proof.Machine.execBulkOpen dt m s
  | .bulkData dt m => Sys2Proof.Machine.execBulkData dt m s
  | .bulkClose dt m => Sys2Proof.Machine.execBulkClose dt m s
  | .bulkExpire handle => Sys2Proof.Machine.execBulkExpire handle s
  | .subscribe dt m => Sys2Proof.Machine.execSubscribe dt m s
  | .subscriptionLapse slot => Sys2Proof.Machine.execSubscriptionLapse slot s
  | .notify dt slot => Sys2Proof.Machine.execNotify dt slot s
  | .irqPendingWrite dt r v => Sys2Proof.Machine.execIrqPendingWrite dt r v s
  | .mgmt1ClassWrite dt r v => Sys2Proof.Machine.execMgmt1ClassWrite dt r v s
  | .sync dt r => Sys2Proof.Machine.execSync dt r s
  | .journalWriteDone dt => Sys2Proof.Machine.execJournalWriteDone dt s
  | .putMsg dt bytes => Sys2Proof.Machine.execPutMsg dt bytes s
  | .getMsg dt => Sys2Proof.Machine.execGetMsg dt s
  | .spiStatus dt => Sys2Proof.Machine.execSpiStatus dt s
  | .ptpAnnounceRx dt port a => Sys2Proof.Machine.execPtpAnnounceRx dt port a s
  | .ptpSyncRx dt port m => Sys2Proof.Machine.execPtpSyncRx dt port m s
  | .ptpDelayRespRx dt port m => Sys2Proof.Machine.execPtpDelayRespRx dt port m s
  | .ptpPdelayReqRx dt port domainNumber sender seq => Sys2Proof.Machine.execPtpPdelayReqRx dt port domainNumber sender seq s
  | .ptpPdelayRespRx dt port m => Sys2Proof.Machine.execPtpPdelayRespRx dt port m s
  | .delayReqSend dt domain => Sys2Proof.Machine.execDelayReqSend dt domain s
  | .announceReceiptTimeout domain => Sys2Proof.Machine.execAnnounceReceiptTimeout domain s
  | .syncTimeout domain => Sys2Proof.Machine.execSyncTimeout domain s
  | .holdoverExpired domain => Sys2Proof.Machine.execHoldoverExpired domain s
  | .domainEnableWrite dt r domain v => Sys2Proof.Machine.execDomainEnableWrite dt r domain v s
  | .selectWrite dt r v => Sys2Proof.Machine.execSelectWrite dt r v s
  | .switchAtWrite dt r time => Sys2Proof.Machine.execSwitchAtWrite dt r time s
  | .scheduledSwitch => Sys2Proof.Machine.execScheduledSwitch s
  | .slewDone => Sys2Proof.Machine.execSlewDone s
  | .tsqEntryDeliver dt port => Sys2Proof.Machine.execTsqEntryDeliver dt port s
  | .ppsInEdge dt => Sys2Proof.Machine.execPpsInEdge dt s
  | .ppsOutRise => Sys2Proof.Machine.execPpsOutRise s
  | .ppsOutFall => Sys2Proof.Machine.execPpsOutFall s
  | .linkUp dt link => Sys2Proof.Machine.execLinkUp dt link s
  | .linkDown dt port => Sys2Proof.Machine.execLinkDown dt port s
  | .mgmtInbandStatus dt port up speed fullDuplex => Sys2Proof.Machine.execMgmtInbandStatus dt port up speed fullDuplex s
  | .laneEnWrite dt r port v => Sys2Proof.Machine.execLaneEnWrite dt r port v s
  | .txSelect dt port => Sys2Proof.Machine.execTxSelect dt port s
  | .txFrameDone dt port => Sys2Proof.Machine.execTxFrameDone dt port s
  | .rxFrame dt port f => Sys2Proof.Machine.execRxFrame dt port f s
  | .pauseExpire port tc => Sys2Proof.Machine.execPauseExpire port tc s
  | .pauseOverride port tc => Sys2Proof.Machine.execPauseOverride port tc s
  | .pauseIgnoreEnd port => Sys2Proof.Machine.execPauseIgnoreEnd port s
  | .videoPacket dt port p => Sys2Proof.Machine.execVideoPacket dt port p s
  | .pathTimeout stream part path => Sys2Proof.Machine.execPathTimeout stream part path s
  | .streamTimeout stream => Sys2Proof.Machine.execStreamTimeout stream s
  | .sacnDataPacket dt port p => Sys2Proof.Machine.execSacnDataPacket dt port p s
  | .sacnSyncPacket dt rcv address seq cid => Sys2Proof.Machine.execSacnSyncPacket dt rcv address seq cid s
  | .sacnSourceTimeout univ cid => Sys2Proof.Machine.execSacnSourceTimeout univ cid s
  | .sacnSyncTimeout univ cid => Sys2Proof.Machine.execSacnSyncTimeout univ cid s
  | .ditherReset dt r => Sys2Proof.Machine.execDitherReset dt r s
  | .ageLedgerWrite dt r value => Sys2Proof.Machine.execAgeLedgerWrite dt r value s
  | .ledgerJournal => Sys2Proof.Machine.execLedgerJournal s
  | .ageRecompute => Sys2Proof.Machine.execAgeRecompute s
  | .calCacheWriteDone dt => Sys2Proof.Machine.execCalCacheWriteDone dt s
  | .dieTempSample temps => Sys2Proof.Machine.execDieTempSample temps s
  | .tjShut dt => Sys2Proof.Machine.execTjShut dt s
  | .bargeSubmit dt sub => Sys2Proof.Machine.execBargeSubmit dt sub s
  | .ask dt cell corrected => Sys2Proof.Machine.execAsk dt cell corrected s
  | .bargeDispatch dt => Sys2Proof.Machine.execBargeDispatch dt s
  | .sampleComplete dt cell => Sys2Proof.Machine.execSampleComplete dt cell s
  | .tallyComplete dt cell => Sys2Proof.Machine.execTallyComplete dt cell s
  | .weirComplete dt cell => Sys2Proof.Machine.execWeirComplete dt cell s
  | .packComplete dt cell => Sys2Proof.Machine.execPackComplete dt cell s
  | .firmwareBargeComplete dt cell target entries => Sys2Proof.Machine.execFirmwareBargeComplete dt cell target entries s
  | .yieldWrite dt => Sys2Proof.Machine.execYieldWrite dt s
  | .flightRelease dt flight => Sys2Proof.Machine.execFlightRelease dt flight s
  | .bargeTimeout cell => Sys2Proof.Machine.execBargeTimeout cell s
  | .cellSramError dt cell => Sys2Proof.Machine.execCellSramError dt cell s
  | .cellIllegalOp dt cell => Sys2Proof.Machine.execCellIllegalOp dt cell s
  | .cellResetDone dt cell => Sys2Proof.Machine.execCellResetDone dt cell s
  | .cellRetire dt r cell => Sys2Proof.Machine.execCellRetire dt r cell s
  | .cellRestore dt r cell => Sys2Proof.Machine.execCellRestore dt r cell s
  | .delayEntryAct list => Sys2Proof.Machine.execDelayEntryAct list s
  | .delayInsert dt list entry => Sys2Proof.Machine.execDelayInsert dt list entry s
  | .poundWrite dt pound slot prio data => Sys2Proof.Machine.execPoundWrite dt pound slot prio data s
  | .poundRead dt pound headEmpty => Sys2Proof.Machine.execPoundRead dt pound headEmpty s
  | .spillFetchDone dt pound bad => Sys2Proof.Machine.execSpillFetchDone dt pound bad s
  | .sluicePinUpdate dt pin => Sys2Proof.Machine.execSluicePinUpdate dt pin s
  | .latchFixup lane => Sys2Proof.Machine.execLatchFixup lane s
  | .echoSend tile => Sys2Proof.Machine.execEchoSend tile s
  | .echoReplyRx dt lane f => Sys2Proof.Machine.execEchoReplyRx dt lane f s
  | .echoTimeout tile => Sys2Proof.Machine.execEchoTimeout tile s
  | .helloRx dt lane f => Sys2Proof.Machine.execHelloRx dt lane f s
  | .retRx dt lane f => Sys2Proof.Machine.execRetRx dt lane f s
  | .tileTimeout tile => Sys2Proof.Machine.execTileTimeout tile s
  | .paramResend tile => Sys2Proof.Machine.execParamResend tile s
  | .sealRollNow dt r sectionNo => Sys2Proof.Machine.execSealRollNow dt r sectionNo s
  | .chainReturnWindowClose port bits loop => Sys2Proof.Machine.execChainReturnWindowClose port bits loop s
  | .dmxPacketStart port => Sys2Proof.Machine.execDmxPacketStart port s
  | .rdmTransaction dt port => Sys2Proof.Machine.execRdmTransaction dt port s
  | .rdmResponseRx dt port bytes => Sys2Proof.Machine.execRdmResponseRx dt port bytes s
  | .rdmTimeout port => Sys2Proof.Machine.execRdmTimeout port s
  | .rdmDiscovery port uids => Sys2Proof.Machine.execRdmDiscovery port uids s
  | .rdmQueueWrite dt r port value => Sys2Proof.Machine.execRdmQueueWrite dt r port value s
  | .portEnWrite dt r port v => Sys2Proof.Machine.execPortEnWrite dt r port v s
  | .matrixScanStart group status => Sys2Proof.Machine.execMatrixScanStart group status s
  | .dimPeriodStart str => Sys2Proof.Machine.execDimPeriodStart str s
  | .currentSample dt str code vcode => Sys2Proof.Machine.execCurrentSample dt str code vcode s
  | .stageFault dt str => Sys2Proof.Machine.execStageFault dt str s
  | .stringRetry str code vcode => Sys2Proof.Machine.execStringRetry str code vcode s
  | .senseBurstDone group dark lit => Sys2Proof.Machine.execSenseBurstDone group dark lit s
  | .senseCapture dt r group => Sys2Proof.Machine.execSenseCapture dt r group s
  | .ntcSample dt ntc code => Sys2Proof.Machine.execNtcSample dt ntc code s
  | .rasterFrameStart => Sys2Proof.Machine.execRasterFrameStart s
  | .rasterLatchLine => Sys2Proof.Machine.execRasterLatchLine s
  | .rsShadowWrite dt r record value => Sys2Proof.Machine.execRsShadowWrite dt r record value s
  | .rsCommit dt r v => Sys2Proof.Machine.execRsCommit dt r v s
  | .rasterPllLocked dt => Sys2Proof.Machine.execRasterPllLocked dt s
  | .rasterUnderrun dt output px => Sys2Proof.Machine.execRasterUnderrun dt output px s
  | .aqForwardSend dt device => Sys2Proof.Machine.execAqForwardSend dt device s
  | .aqReplyRx dt port src bytes => Sys2Proof.Machine.execAqReplyRx dt port src bytes s
  | .aqTimeout device => Sys2Proof.Machine.execAqTimeout device s
  | .aqParamTimeout tile => Sys2Proof.Machine.execAqParamTimeout tile s
  | .peerAssert dt => Sys2Proof.Machine.execPeerAssert dt s
  | .peerDeassert dt => Sys2Proof.Machine.execPeerDeassert dt s
  | .towClaimStart => Sys2Proof.Machine.execTowClaimStart s
  | .towClaimRecheck => Sys2Proof.Machine.execTowClaimRecheck s
  | .beaconWaitTimeout => Sys2Proof.Machine.execBeaconWaitTimeout s
  | .epochWriteDone dt => Sys2Proof.Machine.execEpochWriteDone dt s
  | .claimBackoffExpire => Sys2Proof.Machine.execClaimBackoffExpire s
  | .holdoffExpire => Sys2Proof.Machine.execHoldoffExpire s
  | .acquire dt r => Sys2Proof.Machine.execAcquire dt r s
  | .release dt r => Sys2Proof.Machine.execRelease dt r s
  | .handover dt r => Sys2Proof.Machine.execHandover dt r s
  | .clearFault dt r => Sys2Proof.Machine.execClearFault dt r s
  | .beaconSend => Sys2Proof.Machine.execBeaconSend s
  | .peerBeaconWrite dt r value => Sys2Proof.Machine.execPeerBeaconWrite dt r value s
  | .mirrorSmallSend => Sys2Proof.Machine.execMirrorSmallSend s
  | .mirrorSmallWrite dt r value => Sys2Proof.Machine.execMirrorSmallWrite dt r value s
  | .mirrorTableWrite dt r value => Sys2Proof.Machine.execMirrorTableWrite dt r value s
  | .mirrorPartsExpire => Sys2Proof.Machine.execMirrorPartsExpire s
  | .peerLinkLost => Sys2Proof.Machine.execPeerLinkLost s
  | .standbyModeWrite dt r v => Sys2Proof.Machine.execStandbyModeWrite dt r v s
  | .keyRegisterWrite dt r reg value => Sys2Proof.Machine.execKeyRegisterWrite dt r reg value s
  | .keyLoad dt r value => Sys2Proof.Machine.execKeyLoad dt r value s
  | .keyInvalidate dt r slot => Sys2Proof.Machine.execKeyInvalidate dt r slot s
  | .orphanGraceExpire slot => Sys2Proof.Machine.execOrphanGraceExpire slot s
  | .drbgReseed dt => Sys2Proof.Machine.execDrbgReseed dt s
  | .drbgHealthFail dt test => Sys2Proof.Machine.execDrbgHealthFail dt test s
  | .drbgRetry => Sys2Proof.Machine.execDrbgRetry s
  | .challenge dt m => Sys2Proof.Machine.execChallenge dt m s
  | .updateOpen dt m => Sys2Proof.Machine.execUpdateOpen dt m s
  | .updatePiece dt m => Sys2Proof.Machine.execUpdatePiece dt m s
  | .updateFinish dt m => Sys2Proof.Machine.execUpdateFinish dt m s
  | .updateActivate dt m => Sys2Proof.Machine.execUpdateActivate dt m s
  | .updateConfirm dt m => Sys2Proof.Machine.execUpdateConfirm dt m s
  | .updateAbort dt m => Sys2Proof.Machine.execUpdateAbort dt m s
  | .updateActivation => Sys2Proof.Machine.execUpdateActivation s
  | .updateSessionExpire => Sys2Proof.Machine.execUpdateSessionExpire s
  | .autoConfirm => Sys2Proof.Machine.execAutoConfirm s
  | .confirmWindowExpire => Sys2Proof.Machine.execConfirmWindowExpire s
  | .lengthsmanSecond => Sys2Proof.Machine.execLengthsmanSecond s
  | .lifeLedgerWrite => Sys2Proof.Machine.execLifeLedgerWrite s
  | .ddrCeStep corrected => Sys2Proof.Machine.execDdrCeStep corrected s
  | .trimTRun dt r => Sys2Proof.Machine.execTrimTRun dt r s
  | .trimTRunDone dt => Sys2Proof.Machine.execTrimTRunDone dt s
  | .trimARun dt r tag => Sys2Proof.Machine.execTrimARun dt r tag s
  | .trimARunDone dt => Sys2Proof.Machine.execTrimARunDone dt s
  | .porst dt => Sys2Proof.Machine.execPorst dt s
  | .porstRelease dt straps good => Sys2Proof.Machine.execPorstRelease dt straps good s
  | .warmAssert dt => Sys2Proof.Machine.execWarmAssert dt s
  | .warmStart dt => Sys2Proof.Machine.execWarmStart dt s
  | .powerOnReset dt => Sys2Proof.Machine.execPowerOnReset dt s
  | .brownOut dt rail => Sys2Proof.Machine.execBrownOut dt rail s
  | .brownOutRecovery dt => Sys2Proof.Machine.execBrownOutRecovery dt s
  | .domainEnWrite dt r v => Sys2Proof.Machine.execDomainEnWrite dt r v s
  | .domainPowerGood dt domain => Sys2Proof.Machine.execDomainPowerGood dt domain s
  | .domainFault domain => Sys2Proof.Machine.execDomainFault domain s
  | .cpWatchdog dt core => Sys2Proof.Machine.execCpWatchdog dt core s
  | .supervisorWatchdog dt => Sys2Proof.Machine.execSupervisorWatchdog dt s
  | .restart dt r => Sys2Proof.Machine.execRestart dt r s
  | .shutdownCool => Sys2Proof.Machine.execShutdownCool s
  | .strapChanged dt strap level => Sys2Proof.Machine.execStrapChanged dt strap level s
  | .powerOnResetEnd dt => Sys2Proof.Machine.execPowerOnResetEnd dt s
  | .keyRegisterWriteDone dt => Sys2Proof.Machine.execKeyRegisterWriteDone dt s
  | .drbgStartupTestDone dt => Sys2Proof.Machine.execDrbgStartupTestDone dt s
  | .mirrorPartNotAnswered dt => Sys2Proof.Machine.execMirrorPartNotAnswered dt s
  | .ageLedgerMirrorSend => Sys2Proof.Machine.execAgeLedgerMirrorSend s

end Sys2Proof.Machine
end

