-- ==== Sys2Proof/Safety.lean ====
section
/-!
DEFINITION. What counts as a safe state and a safe run, in the terms the statements use: what a shut gate leaves released (R388), a
state in which nothing is left to release, messages and requests the OD server takes (R61–R69, R72), and the answer of a request.
-/
namespace Sys2Proof.Machine

/-! ## The gate (R126, R313, R341, R360, R388) -/

/-- No gated frame is on a lane's wire. -/
def State.noGatedFrame (s : State) : Bool :=
  s.net.ports.all fun p => match p.wire with | some w => !w.gated | none => true

/-- Every pin of every lamp port is high-impedance, but for GPIO outputs marked UNGATED (R313, R336). -/
def State.lampReleased (s : State) : Bool :=
  s.lamp.ports.zipIdx.all fun (p, i) => p.pins.zipIdx.all fun (v, j) => v == 2 || s.ungated i j

/-- Every string pin is high-impedance (R341). -/
def State.stringsReleased (s : State) : Bool := s.strs.ctl.all fun c => c.pinA == 2 && c.pinB == 2

/-- With the gate shut, nothing it governs is driven (R388). -/
def State.GateHolds (s : State) : Prop :=
  s.gate = false → s.noGatedFrame = true ∧ s.lampReleased = true ∧ s.stringsReleased = true ∧ s.ras.pins = [0, 0]

/-- Every event raised has been logged, and the log holds at most 256 (R83). -/
def State.EventsLogged (s : State) : Prop := s.od.raised = [] ∧ s.od.log.length ≤ 256

/-- The gate is open, or nothing it governs is under way or driven: there is nothing to cut or release. -/
def State.still (s : State) : Bool :=
  s.gate || (s.noGatedFrame && s.lamp.ports.all (fun p => p.busy == 0) && s.lampReleased && s.stringsReleased && s.ras.pins == [0, 0])

/-! ## What the end of a command leaves -/

/-- The parts of the state that the end of a command never touches: everything but the event log and its queues, messages sent, the
numbered registers, and what the gate cuts and releases. -/
def State.core (s : State) :=
  ((s.tm, s.tl, s.intake, s.lk, s.pwr, s.col, s.weir, s.aq, s.keys, s.upd, s.trim, s.nv, s.fresh, ({ s.tow with txSeq := 0 } : TowState)),
   (s.od.pend, s.od.journal, s.od.journalQ, s.od.owed, s.od.dups, s.od.bulks, s.od.nextHandle, s.od.posted, s.od.snapshot, s.od.groups,
    s.od.inQ, s.od.demoted, s.od.regs.tabs),
   (({ s.ras with pins := [] } : RasterState), s.lamp.groups, s.lamp.lines, s.strs.groups, s.strs.ntcs,
    s.strs.ctl.map fun c => ({ c with pinA := 0, pinB := 0 } : StringSt), s.net.basin, s.net.wires, s.net.rxNext, s.net.txNext))

/-- Registers the end of a command may change: IRQ_PENDING and NOTIFY_LOST with an event, and the counts of what a closing gate
cuts and of what that makes hold. -/
def endTouches (key : Nat) : Bool :=
  key == Od.irqPending.key || key == Od.notifyLost.key || key == Od.sluiceMerged.key || (decide (Od.gateAborts.key ≤ key) && decide (key < Od.gateAborts.key + 26)) ||
    (decide (Od.txComplLost.key ≤ key) && decide (key < Od.txComplLost.key + 26)) ||
    (decide (Od.lampCuts.key ≤ key) && decide (key < Od.lampCuts.key + 48))

/-! ## What the OD server takes -/

/-- A message that is validated and executed now: its port is heard and has a class, it came by no group address, no message of its port
waits before it, it is no copy, and its reply is not owed (R61, R62, R67, R68). In recovery few commands are served (R441). -/
def State.takes (s : State) (src : Src) (seq : Nat) : Bool :=
  s.hears src.port && (decide (24 ≤ src.port) || s.reg Od.role src.port != 2) && s.portClass src.port != 0 && !src.group &&
    s.pwr.state != 7 && !s.waitsOn src.port && (s.od.kept? src seq).isNone && !s.aqInFlight src seq && !s.underWay src seq

/-- A message the server takes and executes now: well formed, addressed to this device (R66), of a class that may
send the command (R69), and of a command served in mooring where the device is moored (R432). -/
def State.takesMsg (s : State) (cmd : Nat) (m : Msg) : Bool :=
  s.takes m.src m.seq && !s.discards m && (cmdClasses cmd &&& s.portClass m.src.port) != 0 &&
    (s.notServed cmd).isNone

/-- The same of a group command (R79). -/
def State.takesGroup (s : State) (cmd : Nat) (m : Msg) : Bool :=
  m.src.group && s.hears m.src.port && (decide (24 ≤ m.src.port) || s.reg Od.role m.src.port != 2) && s.portClass m.src.port != 0 &&
    !s.discards m && !notGroup cmd m && !s.waitsOn m.src.port && (s.od.kept? m.src m.seq).isNone && !s.aqInFlight m.src m.seq &&
    !s.underWay m.src m.seq && (cmdClasses cmd &&& s.portClass m.src.port) != 0 && (s.notServed cmd).isNone

/-- The state in which a message of instant `dt` from now is executed: the time has passed and RX_MSGS has counted it. -/
def State.served (s : State) (dt : Nat) : State := (s.advance dt).count Od.rxMsgs

/-- One item passes every check of R72, for the class of the port it came by. -/
def State.accepts (s : State) (r : Req) (w : WriteItem) (bulk : Bool := false) : Prop :=
  inWindow w.index = false ∧ s.checkItem (s.hypothesis [w]) (s.portClass r.src.port) r.src.port bulk w = stOk

/-- The reply to a WRITE of one item (R67, R70): sent and kept (R68), or owed until the work `e.2.2` names is done where the
block took it. -/
def answered (r : Req) (w : WriteItem) (e : Eff) : State :=
  match (if refuses e.2.1 then none else e.2.2) with
  | none => e.1.reply r.src 2 r.seq e.2.1 (statusItem w.index w.sub e.2.1)
  | some k =>
    { e.1 with od := { e.1.od with owed := e.1.od.owed ++
      [{ req := r, cmd := 2, waits := [k], status := e.2.1, payload := statusItem w.index w.sub e.2.1 }] } }

end Sys2Proof.Machine
end

