-- ==== Sys2Proof/WellFormed.lean ====
section
/-!
DEFINITION. Which commands are well formed: every operand within the width or the number of things the manual gives it. `exec` is
total and does not need it; an operand outside these bounds names nothing on this chip.
-/
namespace Sys2Proof

/-- An unsigned operand of a width in bits. -/
def fits (bits v : Nat) : Bool := decide (v < 2 ^ bits)

/-- A source: one of the 27 ports, a 16-byte address, a UDP port (R64, R501). -/
def Src.wf (x : Src) : Bool := decide (x.port ≤ 26) && fits 128 x.addr && fits 16 x.udp

/-- A request's source and SEQ (R65). -/
def Req.wf (r : Req) : Bool := r.src.wf && fits 16 r.seq

/-- The header fields of a message (R65); what R66 discards is well formed all the same. -/
def Msg.wf (m : Msg) : Bool := m.src.wf && fits 16 m.magic && fits 8 m.ver && fits 16 m.seq && fits 16 m.device && fits 16 m.length

/-- An output that exists: 1,024 tiles, 48 lamp ports, 8 matrix groups, 16 strings, 2 raster outputs, universes 1 to 63,999 (R2, R29). -/
def Out.wf : Out → Bool
  | .tile n => decide (n < 1024)
  | .chain p | .dmx p => decide (p < 48)
  | .matrix g => decide (g < 8)
  | .str n => decide (n < 16)
  | .raster n => decide (n < 2)
  | .sacn u => decide (1 ≤ u) && decide (u ≤ 63999)

/-- Widths of IEEE 1588-2019's fields as R90 and R93 use them. -/
def Announce.wf (a : Announce) : Bool :=
  fits 8 a.domainNumber && fits 64 a.gm && fits 8 a.priority1 && fits 8 a.clockClass && fits 8 a.accuracy && fits 16 a.variance &&
    fits 8 a.priority2 && fits 16 a.stepsRemoved && fits 64 a.sender && fits 16 a.senderPort

def SyncMsg.wf (m : SyncMsg) : Bool := fits 8 m.domainNumber && fits 64 m.sender && fits 16 m.senderPort

def DelayResp.wf (m : DelayResp) : Bool := fits 8 m.domainNumber && fits 64 m.sender && fits 16 m.senderPort && fits 16 m.seq

/-- A sample row data header holds what it says it holds (R151). -/
def Srd.wf (r : Srd) : Bool := fits 15 r.row && fits 15 r.offset && fits 16 r.length && decide (r.data.length ≤ r.length)

def VideoPkt.wf (p : VideoPkt) : Bool :=
  fits 128 p.dst && fits 16 p.dstPort && fits 128 p.srcAddr && fits 2 p.rtpVersion && fits 7 p.pt && fits 16 p.seq16 && fits 16 p.extSeq &&
    fits 32 p.timestamp && p.srds.all Srd.wf

def SacnPkt.wf (p : SacnPkt) : Bool :=
  fits 128 p.dst && fits 16 p.univ && fits 128 p.cid && fits 8 p.priority && fits 8 p.seq && fits 16 p.sync && fits 8 p.startCode && decide (p.slots.length ≤ 512)

/-- A lane of R120, a port of R118, a cell of R7, a domain of PTP. -/
def laneWf (p : Nat) : Bool := decide (p < 24)
def portWf (p : Nat) : Bool := decide (p < 26)
def cellWf (c : Nat) : Bool := decide (c < 136)
def lampWf (p : Nat) : Bool := decide (p < 48)
def tileWf (t : Nat) : Bool := decide (t < 1024)

/-- Well-formed commands. -/
def Instr.wf : Instr → Bool
  | .tick _ | .tickOutFall | .frameCutoff | .tickMissed | .timelineStart _ | .groupReplySend | .journalWriteDone _ | .getMsg _
  | .spiStatus _ | .scheduledSwitch | .slewDone | .ppsInEdge _ | .ppsOutRise | .ppsOutFall | .ledgerJournal | .ageRecompute
  | .calCacheWriteDone _ | .tjShut _ | .bargeDispatch _ | .yieldWrite _ | .rasterFrameStart | .rasterLatchLine | .rasterPllLocked _
  | .peerAssert _ | .peerDeassert _ | .towClaimStart | .towClaimRecheck | .beaconWaitTimeout | .epochWriteDone _ | .claimBackoffExpire
  | .holdoffExpire | .beaconSend | .mirrorSmallSend | .mirrorPartsExpire | .peerLinkLost | .drbgReseed _ | .drbgRetry
  | .updateActivation | .updateSessionExpire | .autoConfirm | .confirmWindowExpire | .lengthsmanSecond | .lifeLedgerWrite | .ddrCeStep _
  | .trimTRunDone _ | .trimARunDone _ | .porst _ | .warmAssert _ | .warmStart _ | .powerOnReset _ | .brownOutRecovery _
  | .supervisorWatchdog _ | .shutdownCool | .powerOnResetEnd _ | .keyRegisterWriteDone _ | .drbgStartupTestDone _
  | .mirrorPartNotAnswered _ | .ageLedgerMirrorSend => true
  | .holdDecision o | .outputLaunch o => o.wf
  | .commit _ r | .cancelPending _ r | .sync _ r | .ditherReset _ r | .acquire _ r | .release _ r | .handover _ r | .clearFault _ r
  | .trimTRun _ r | .restart _ r => r.wf
  | .commitCmd _ m | .read _ m | .write _ m | .writePosted _ m | .bulkOpen _ m | .bulkData _ m | .bulkClose _ m | .subscribe _ m
  | .challenge _ m | .updateOpen _ m | .updatePiece _ m | .updateFinish _ m | .updateActivate _ m | .updateConfirm _ m
  | .updateAbort _ m => m.wf
  | .groupCommit _ m | .groupSnapshot _ m | .groupReset _ m => m.wf && m.src.group
  | .commitAt _ r t | .switchAtWrite _ r t => r.wf && fits 80 t
  | .deviceNumberWrite _ r v | .irqPendingWrite _ r v => r.wf && fits 16 v
  | .mgmt1ClassWrite _ r v | .selectWrite _ r v | .rsCommit _ r v | .standbyModeWrite _ r v | .domainEnWrite _ r v => r.wf && fits 8 v
  | .registerWrite _ r index sub ty value => r.wf && fits 16 index && fits 8 sub && fits 8 ty && decide (value.length ≤ 1412)
  | .bulkExpire h => fits 16 h
  | .subscriptionLapse slot | .notify _ slot => decide (slot < 16)
  | .putMsg _ b => decide (b.length ≤ 1452)
  | .ptpAnnounceRx _ port a => portWf port && a.wf
  | .ptpSyncRx _ port m => portWf port && m.wf
  | .ptpDelayRespRx _ port m | .ptpPdelayRespRx _ port m => portWf port && m.wf
  | .ptpPdelayReqRx _ port num sender seq => portWf port && fits 8 num && fits 80 sender && fits 16 seq
  | .delayReqSend _ d | .announceReceiptTimeout d | .syncTimeout d | .holdoverExpired d => decide (d < 2)
  | .domainEnableWrite _ r d v => r.wf && decide (d < 2) && fits 8 v
  | .tsqEntryDeliver _ port | .linkDown _ port | .txSelect _ port | .txFrameDone _ port | .pauseIgnoreEnd port => portWf port
  | .mgmtInbandStatus _ port _ speed _ => (port == 24 || port == 25) && fits 2 speed
  | .laneEnWrite _ r port v => r.wf && portWf port && fits 8 v
  | .rxFrame _ port _ => portWf port
  | .pauseExpire port tc | .pauseOverride port tc => portWf port && fits 3 tc
  | .videoPacket _ port p => laneWf port && p.wf
  | .pathTimeout stream part path => decide (stream < 2) && decide (part < 8) && decide (path < 2)
  | .streamTimeout stream => decide (stream < 2)
  | .sacnDataPacket _ port p => laneWf port && p.wf
  | .linkUp _ link => portWf link.port
  | .sacnSyncPacket _ rcv a seq cid => laneWf rcv.port && fits 128 rcv.dst && fits 16 a && fits 8 seq && fits 128 cid
  | .sacnSourceTimeout univ cid | .sacnSyncTimeout univ cid => fits 16 univ && fits 128 cid
  | .ageLedgerWrite _ r v => r.wf && decide (v.length ≤ 330752)
  | .dieTempSample temps => decide (temps.length = 12)
  | .bargeSubmit _ sub => sub.arms.all (fun a => decide (1 ≤ a.1) && decide (a.1 ≤ 4095) && fits 32 a.2) && decide (sub.bytes.length = 32)
  | .ask _ c _ | .sampleComplete _ c | .tallyComplete _ c | .weirComplete _ c | .packComplete _ c | .bargeTimeout c | .cellSramError _ c
  | .cellIllegalOp _ c | .cellResetDone _ c => cellWf c
  | .firmwareBargeComplete _ c target entries => cellWf c && fits 12 target && decide (entries.length ≤ 16) && entries.all fun e => e.length == 32
  | .flightRelease _ f => fits 12 f
  | .cellRetire _ r c | .cellRestore _ r c => r.wf && fits 64 c
  | .delayEntryAct l => decide (l < 4)
  | .delayInsert _ l e => decide (l < 4) && decide (e.length = 32)
  | .poundWrite _ p slot prio data => fits 12 p && decide (slot < 8) && decide (prio < 8) && decide (data.length = 32)
  | .poundRead _ p _ | .spillFetchDone _ p _ => fits 12 p
  | .sluicePinUpdate _ pin => decide (pin < 8)
  | .latchFixup lane => laneWf lane
  | .echoSend t | .echoTimeout t | .tileTimeout t | .paramResend t | .aqParamTimeout t => tileWf t
  | .echoReplyRx _ lane _ | .helloRx _ lane _ | .retRx _ lane _ => laneWf lane
  | .sealRollNow _ r n => r.wf && fits 64 n
  | .chainReturnWindowClose port _ _ | .dmxPacketStart port | .rdmTransaction _ port | .rdmTimeout port => lampWf port
  | .rdmResponseRx _ port b => lampWf port && decide (b.length ≤ 257)
  | .rdmDiscovery port uids => lampWf port && uids.all (fits 48)
  | .rdmQueueWrite _ r port v => r.wf && lampWf port && decide (v.length ≤ 1024)
  | .portEnWrite _ r port v => r.wf && lampWf port && fits 8 v
  | .matrixScanStart g _ => decide (g < 8)
  | .dimPeriodStart n | .stageFault _ n => decide (n < 16)
  | .currentSample _ n c v | .stringRetry n c v => decide (n < 16) && fits 14 c && fits 14 v
  | .senseBurstDone g _ _ => decide (g < 16)
  | .senseCapture _ r g => r.wf && fits 64 g
  | .ntcSample _ n c => decide (n < 4) && fits 14 c
  | .rsShadowWrite _ r record v => r.wf && decide (record < 2) && decide (v.length ≤ 1024)
  | .rasterUnderrun _ o _ => decide (o < 2)
  | .aqForwardSend _ d | .aqTimeout d => fits 12 d
  | .aqReplyRx _ port src _ => portWf port && src.wf
  | .peerBeaconWrite _ r v | .mirrorSmallWrite _ r v | .keyLoad _ r v => r.wf && decide (v.length ≤ 1024)
  | .mirrorTableWrite _ r v => r.wf && decide (v.length ≤ 16777216)
  | .keyRegisterWrite _ r reg v => r.wf && decide (reg < 3) && decide (v.length ≤ 1024)
  | .keyInvalidate _ r slot => r.wf && fits 64 slot
  | .orphanGraceExpire slot => decide (slot < 64)
  | .drbgHealthFail _ t => fits 8 t
  | .trimARun _ r tag => r.wf && fits 64 tag
  | .porstRelease _ straps _ => fits 4 straps
  | .brownOut _ rail => decide (rail < 8)
  | .cpWatchdog _ core => decide (core < 4)
  | .domainPowerGood _ d | .domainFault d => decide (1 ≤ d) && decide (d < 13)
  | .strapChanged _ strap _ => decide (strap < 4)

end Sys2Proof
end

