-- ==== Sys2Proof/Certificates/Slice0/Obligations.lean ====
section
/-!
DEFINITION. What is claimed of the model: the statements for the provers. Each says in its docstring which rules of spec/ it rests on or
that it is the model's own choice. `State.ended s t` is the state a command leaves where its effect is `t`: the statement
EndOfCommandKeepsTheRest says what that adds.
-/
open Sys2Proof Sys2Proof.Machine

/-! ### The queue, the ends of a step, and what every step keeps -/

/-- Every command: a step runs the command at the front of the queue on the state with the queue's rest. -/
def Obligations.StepRunsFrontCommand : Prop :=
  ∀ (c : Instr) (rest : List Instr) (s : State), s.pending = c :: rest → step s = exec c { s with pending := rest }

/-- With nothing waiting the block idles: the model's choice (log entry 4). No command touches the queue of commands that wait behind it. -/
def Obligations.TheQueueIsServedInOrder : Prop :=
  (∀ s : State, s.pending = [] → step s = .next s) ∧
  (∀ (c : Instr) (s t : State), exec c s = .next t → t.pending = s.pending)

/-- The device as PORST_N holds it: POWER_STATE RESET, device time 0 s 0 ns, the towpath in STARTING with HOLD not asserted, every key
slot empty, every output high-impedance, no command waiting. -/
def Obligations.ResetHoldsTheDevice : Prop :=
  State.reset.pwr.state = 0 ∧ State.reset.now = 0 ∧ State.reset.tow.state = 0 ∧ State.reset.tow.hold = false ∧
    State.reset.keys.slots.all (fun k => k.state == 0) = true ∧ State.reset.noGatedFrame = true ∧ State.reset.lampReleased = true ∧
    State.reset.stringsReleased = true ∧ State.reset.ras.pins = [0, 0] ∧ State.reset.tl.tickOut = 2 ∧ State.reset.tm.ppsOut = 2 ∧
    State.reset.pending = [] ∧ State.reset.GateHolds ∧ State.reset.EventsLogged ∧ Memory.wf State.reset.net.basin = true

/-- A step ends in a next state but for one case: PORST_N released before R463's conditions hold, with no rail below the limits of the
supply monitors. No command is refused. -/
def Obligations.OnlyAnUndefinedStartStops : Prop :=
  (∀ (c : Instr) (s : State) (f : Fault), exec c s = .fault f →
    ∃ dt straps, c = .porstRelease dt straps false ∧ f = .undefinedStart ∧ s.pwr.state = 0 ∧ s.pwr.cause = 1 ∧ s.pwr.railsOk = true) ∧
  (∀ (c : Instr) (s : State) (r : Refusal), exec c s ≠ .refused r) ∧
  (∀ (dt straps : Nat) (s : State), s.pwr.state = 0 → s.pwr.cause = 1 → s.pwr.railsOk = true →
    exec (.porstRelease dt straps false) s = .fault .undefinedStart)

/-- The gate is open only while the unit is ACTIVE, its HOLD is asserted and, in pair operation, TOW_PEER_N is deasserted (R388). With the
gate shut nothing it governs is driven (R389): after every command, whatever the state was before; and an idle step keeps it. -/
def Obligations.ShutGateDrivesNothing : Prop :=
  (∀ s : State, s.gate = true ↔ s.tow.state = 3 ∧ s.tow.hold = true ∧ (s.pair = true → s.tow.peer = false)) ∧
  (∀ (c : Instr) (s t : State), exec c s = .next t → t.GateHolds) ∧ (∀ s t : State, s.GateHolds → step s = .next t → t.GateHolds)

/-- Every event a command raises is in EVENT_LOG when the command ends, whoever subscribes; the log holds the last 256, the oldest
overwritten, and reads as 28-byte records (R83). NOTIFY_LOST events of full subscriber queues are logged beside them (R82). -/
def Obligations.EveryEventIsLogged : Prop :=
  (∀ (c : Instr) (s t : State), exec c s = .next t → t.EventsLogged) ∧
  (∀ s t : State, s.EventsLogged → step s = .next t → t.EventsLogged) ∧
  (∀ s : State, s.od.log.length ≤ 256 → ∃ all : List Event, s.od.raised.Sublist all ∧
    (∀ e ∈ all, e ∈ s.od.raised ∨ e.code = 0x1002) ∧ (s.od.subs = [] → all = s.od.raised) ∧
    s.flush.od.log = (s.od.log ++ all).drop (s.od.log.length + all.length - 256)) ∧
  (∀ s : State, s.entry Od.eventLog 0 = .tab (s.od.log.flatMap Event.bytes)) ∧
  (∀ e : Event, e.bytes = natBE 2 e.code ++ natBE 2 0 ++ natBE 4 e.frame ++ natBE 10 (timeOfNs e.time) ++ natBE 2 0 ++ padTo 8 e.arg ∧
    e.bytes.length = 28)

/-- Bit n of IRQ_PENDING sets when an event whose code has high nibble n is raised, and bits keep else; bit 1 also sets for a NOTIFY_LOST
of a full queue (R82). IRQ_N is low while IRQ_PENDING AND IRQ_MASK is nonzero. Writing 1 clears a bit at the validation instant, bits
written 0 stay, a bit that an event set at that very instant stays set, and what the write itself raises sets its bit as the command ends
(R84). -/
def Obligations.IrqPendingFollowsTheEvents : Prop :=
  (∀ s : State, ∀ i < 16, bit (s.reg Od.irqPending) i = true ∨ (s.od.raised.any fun e => e.code / 4096 % 16 == i) = true →
    bit (s.flush.reg Od.irqPending) i = true) ∧
  (∀ s : State, ∀ i < 16, i ≠ 1 ∨ s.od.subs = [] →
    bit (s.flush.reg Od.irqPending) i = (bit (s.reg Od.irqPending) i || s.od.raised.any fun e => e.code / 4096 % 16 == i)) ∧
  (∀ s : State, s.irqLow = (s.alive && (s.reg Od.irqPending &&& s.reg Od.irqMask) != 0)) ∧
  (∀ (s : State) (dt : Nat) (r : Req) (v : Nat), v < 65536 → s.takes r.src r.seq = true → (s.served dt).accepts r (Od.irqPending.numItem 0 v) →
    exec (.irqPendingWrite dt r v) s = .next (State.ended s (answered r (Od.irqPending.numItem 0 v)
      (effOk ((s.served dt).clearIrq v))))) ∧
  (∀ (s : State) (v i : Nat), v < 65536 → i < 16 → bit ((s.clearIrq v).reg Od.irqPending) i =
    (bit (s.reg Od.irqPending) i && (!bit v i || s.od.irqAt.any fun p => p.1 == i && p.2 == s.now)))

/-- The end of a meaning changes nothing but what the gate releases and cuts, the event log and its queues, the beacon's message, and
the counters of what was cut: every other part of the state, and every other register, is as the meaning left it. -/
def Obligations.EndOfCommandKeepsTheRest : Prop :=
  ∀ s0 s : State, (State.ended s0 s).core = s.core ∧ (State.ended s0 s).pending = s0.pending ∧
    (∀ (r : OdRow) (i : Nat), endTouches (r.key + i) = false → (State.ended s0 s).reg r i = s.reg r i) ∧
    (s.still = true → s.tow.state = s0.tow.state → s.gate = s0.gate → s.pending = s0.pending → State.ended s0 s = s.flush)

/-! ### Time (spec/04, R45) -/

/-- The pulses: TICK_OUT falls when its pulse ends; PPS_OUT rises at the next whole second while the selected domain is locked, for
PPS_OUT_WIDTH µs, and is driven low while it is not; PPS_OUT falls when its pulse ends. A captured edge of PPS_IN: OFF ignores it; the other
modes count it; an edge more than 1 ms from a whole second counts in PPS_IN_FAR_COUNT, raises 0x2008 and leaves PPS_IN_OFFSET; any other sets
PPS_IN_OFFSET, and does nothing else but in HOLDOVER_ASSIST while the selected domain is in HOLDOVER, where it steers the rate alone, never
further than SWITCH_SLEW from the frequency HOLDOVER was entered with (R45, R113, R114). -/
def Obligations.PulsesRiseFallAndAreCounted : Prop :=
  ((∀ s : State, s.tl.tickOut = 1 →
    exec .tickOutFall s = .next (State.ended s { s.goTo s.tl.tickOutEnd with tl := { s.tl with tickOut := 0 } })) ∧
  (∀ s : State, s.alive = true → s.reg Od.ppsOutEn ≠ 0 →
    let t := s.goTo (ceilDiv s.now 1000000000 * 1000000000)
    if s.timeLocked then
      exec .ppsOutRise s = .next (State.ended s
        { t with tm := { t.tm with ppsOut := 1, ppsOutEnd := t.now + s.reg Od.ppsOutWidth * 1000 } })
    else ∃ u, exec .ppsOutRise s = .next u ∧ u.now = t.now ∧ (s.reg Od.ppsOutEn = 1 → u.tm.ppsOut = 0)) ∧
  (∀ s : State, s.alive = true → s.tm.ppsOut = 1 →
    let t := s.goTo s.tm.ppsOutEnd
    exec .ppsOutFall s = .next (State.ended s { t with tm := { t.tm with ppsOut := 0 } }))) ∧
  (∀ (s : State) (dt : Nat), s.alive = true →
    let t := s.advance dt
    let c : Int := (t.now : Int) - (s.reg Od.ppsInDelay : Nat)
    let off := c - divRound c 1000000000 * 1000000000
    (s.reg Od.ppsInMode = 0 → exec (.ppsInEdge dt) s = .next (State.ended s t)) ∧
    (s.reg Od.ppsInMode ≠ 0 → 1000000 < off.natAbs → exec (.ppsInEdge dt) s =
      .next (State.ended s (((t.count Od.ppsInEdges).count Od.ppsInFarCount).raise 0x2008 (natBE 4 (s.reg Od.ppsInOffset))))) ∧
    (s.reg Od.ppsInMode = 1 → off.natAbs ≤ 1000000 → exec (.ppsInEdge dt) s =
      .next (State.ended s ((t.count Od.ppsInEdges).setReg Od.ppsInOffset (satS 32 off)))) ∧
    (s.reg Od.ppsInMode = 2 → off.natAbs ≤ 1000000 →
      ((s.dom s.sel).state ≠ 4 → exec (.ppsInEdge dt) s =
        .next (State.ended s ((t.count Od.ppsInEdges).setReg Od.ppsInOffset (satS 32 off)))) ∧
      ((s.dom s.sel).state = 4 → s.sel ≤ 1 → (s.dom s.sel).holdFreq.natAbs ≤ 200000 → ∃ u, exec (.ppsInEdge dt) s = .next u ∧
        u.reg Od.ppsInOffset = satS 32 off ∧ u.now = t.now ∧ u.tl = t.tl ∧
        (u.freq s.sel - (s.dom s.sel).holdFreq).natAbs ≤ s.reg Od.switchSlew * 1000)))

/-- A slew that is over: at its end it has moved device time by all of its offset, no slew is in progress, and every domain's estimate is what
it was (R100). The switch SWITCH_AT
asks for: at that instant SWITCH_AT reads 0, and the other domain is selected where it is LOCKED; where it is not, 0x200A is raised and
nothing is switched (R99). -/
def Obligations.SwitchesAndSlewsEnd : Prop :=
  (∀ (s : State) (start : Nat) (d : Int), s.alive = true → s.tm.slew = some (start, d) →
    let end_ := start + ceilDiv (d.natAbs * 1000000) s.tm.slewRate
    (s.tm.slewRate ≠ 0 → s.now ≤ end_ → (s.goTo end_).slewLeft = 0) ∧
    ∃ t, exec .slewDone s = .next t ∧ t.now = max s.now end_ ∧ t.tm.slew = none ∧ t.slewLeft = 0 ∧
      ∀ i < s.tm.doms.length, t.offNow i = (s.goTo end_).offNow i) ∧
  (∀ s : State, s.alive = true → s.reg Od.switchAt ≠ 0 → s.sel ≤ 1 →
    let t := (s.goTo (nsOfTime (s.reg Od.switchAt))).setReg Od.switchAt 0
    ((s.dom (1 - s.sel)).state ≠ 3 →
      exec .scheduledSwitch s = .next (State.ended s (t.raise 0x200A (natBE 2 (1 - s.sel) ++ natBE 1 (s.dom (1 - s.sel)).state)))) ∧
    ((s.dom (1 - s.sel)).state = 3 → ∃ u, exec .scheduledSwitch s = .next u ∧ u.sel = 1 - s.sel ∧ u.reg Od.switchAt = 0 ∧
      u.reg Od.switches = Od.switches.counted (s.reg Od.switches) 1))

/-- Silence: a LOCKED domain enters HOLDOVER when no Sync came for 4 sync intervals or at the Announce receipt timeout, an ACQUIRING
one enters LISTENING at that timeout, and one in HOLDOVER enters LISTENING after HOLDOVER_LIMIT; with AUTO_SWITCH 0 nothing switches. -/
def Obligations.SilentDomainsLeaveLock : Prop :=
  ∀ (s : State) (d : Nat), d < 2 → d < s.tm.doms.length → s.alive = true → s.reg Od.autoSwitch = 0 →
    ((s.dom d).state = 3 → ∃ t, exec (.syncTimeout d) s = .next t ∧ (t.dom d).state = 4 ∧ t.reg (Od.ptpState.inst d) = 4 ∧
      t.reg (Od.ptpLockLosses.inst d) = (Od.ptpLockLosses.inst d).counted (s.reg (Od.ptpLockLosses.inst d)) 1 ∧
      t.now = max s.now ((s.dom d).lastSync + 4 * syncNs (s.dom d).logSync)) ∧
    ((s.dom d).state = 4 → ∃ t, exec (.holdoverExpired d) s = .next t ∧ (t.dom d).state = 1 ∧ t.reg (Od.ptpState.inst d) = 1 ∧
      t.now = max s.now ((s.dom d).holdSince + s.reg (Od.ptpHoldoverLimit.inst d) * 1000000000)) ∧
    (∀ c, (s.dom d).chosen = some c → 2 ≤ (s.dom d).state → ∃ t, exec (.announceReceiptTimeout d) s = .next t ∧ (t.dom d).chosen = none ∧
      (t.dom d).state = (match (s.dom d).state with | 2 => 1 | 3 => 4 | x => x) ∧
      t.now = max s.now ((s.dom d).lastAnnounce + s.announceTimeout d c.logInterval) ∧
      t.reg (Od.ptpAnnounceTimeouts.inst d) = (if (s.dom d).state = 2 ∨ (s.dom d).state = 3
        then (Od.ptpAnnounceTimeouts.inst d).counted (s.reg (Od.ptpAnnounceTimeouts.inst d)) 1
        else s.reg (Od.ptpAnnounceTimeouts.inst d)))

/-- PTP messages that reach the domain of their port and domainNumber; one of another domainNumber is discarded and counted; a
Pdelay_Req or Pdelay_Resp outside 802.1AS, and a Delay_Resp under it, are discarded and counted. -/
def Obligations.PtpMessagesReachTheirDomain : Prop :=
  (∀ (s : State) (dt p : Nat) (a : Announce), (s.advance dt).domOn (portDomain p) = true →
    (∀ t d, (s.advance dt).ptpFor p a.domainNumber = (t, some d) → exec (.ptpAnnounceRx dt p a) s = .next (State.ended s (t.takeAnnounce d a))) ∧
    (∀ t, (s.advance dt).ptpFor p a.domainNumber = (t, none) → exec (.ptpAnnounceRx dt p a) s = .next (State.ended s t))) ∧
  (∀ (s : State) (dt p : Nat) (m : SyncMsg), (s.advance dt).domOn (portDomain p) = true →
    (∀ t d, (s.advance dt).ptpFor p m.domainNumber = (t, some d) → exec (.ptpSyncRx dt p m) s = .next (State.ended s (t.takeSync d m))) ∧
    (∀ t, (s.advance dt).ptpFor p m.domainNumber = (t, none) → exec (.ptpSyncRx dt p m) s = .next (State.ended s t))) ∧
  (∀ (s : State) (dt p : Nat) (m : DelayResp), (s.advance dt).domOn (portDomain p) = true →
    (∀ t d, (s.advance dt).ptpFor p m.domainNumber = (t, some d) →
      exec (.ptpDelayRespRx dt p m) s = .next (State.ended s (t.takeDelayResp d m)) ∧
      exec (.ptpPdelayRespRx dt p m) s = .next (State.ended s (t.takePdelayResp d m)) ∧
      (s.reg (Od.ptpProfile.inst d) = 2 → t.takeDelayResp d m = t.count (Od.ptpRxDiscarded.inst d)) ∧
      (s.reg (Od.ptpProfile.inst d) ≠ 2 → t.takePdelayResp d m = t.count (Od.ptpRxDiscarded.inst d)))) ∧
  (∀ (s : State) (dt p num sender seq : Nat), (s.advance dt).domOn (portDomain p) = true →
    ∀ t d, (s.advance dt).ptpFor p num = (t, some d) →
      (s.reg (Od.ptpProfile.inst d) ≠ 2 → exec (.ptpPdelayReqRx dt p num sender seq) s = .next (State.ended s (t.count (Od.ptpRxDiscarded.inst d)))) ∧
      (s.reg (Od.ptpProfile.inst d) = 2 → ∃ u, exec (.ptpPdelayReqRx dt p num sender seq) s = .next u ∧
        (d < s.tm.doms.length → (u.dom d).respTo = some (sender, seq)))) ∧
  (∀ (s : State) (dt p num : Nat),
    ((s.advance dt).domsOn p).find? (fun d => s.reg (Od.ptpDomainNumber.inst d) == num) = none → ∀ d rest, (s.advance dt).domsOn p = d :: rest →
      (s.advance dt).ptpFor p num = ((s.advance dt).count (Od.ptpRxDiscarded.inst d), none))

/-- A domain's state at an offset: LISTENING to ACQUIRING at the first; ACQUIRING to LOCKED at the 16th running within LOCK_THRESHOLD;
LOCKED to ACQUIRING at the 4th running beyond UNLOCK_THRESHOLD; HOLDOVER to LOCKED at the 4th within UNLOCK_THRESHOLD, and to ACQUIRING at
the first beyond it. -/
def Obligations.OffsetsMoveTheDomainState : Prop :=
  ∀ (s : State) (d : Nat) (off : Int), d < s.tm.doms.length →
    let within := off.natAbs ≤ s.reg (Od.ptpLockThreshold.inst d)
    let far := s.reg (Od.ptpUnlockThreshold.inst d) < off.natAbs
    let x := s.dom d
    let now := ((s.syncState d off).dom d).state
    (x.state = 0 → now = 0) ∧ (x.state = 1 → now = 2) ∧
    (x.state = 2 → now = if within ∧ x.good = 15 then 3 else 2) ∧
    (x.state = 3 → now = if far ∧ x.bad = 3 then 2 else 3) ∧
    (x.state = 4 → now = if far then 2 else if x.regained = 3 then 3 else 4)

/-- DELAY_REQ_SEND: an enabled domain with a chosen master, or under 802.1AS, sends its request, once its interval has expired, with the next
SEQ and waits for the capture; TSQ_ENTRY_DELIVER hands the oldest entry of a port's queue over, and a domain's own request takes its capture from it. -/
def Obligations.DelayRequestsAreSentAndStamped : Prop :=
  (∀ (s : State) (dt d : Nat), d < 2 → d < s.tm.doms.length → (s.dom d).state ≠ 0 →
    (s.advance dt).domOn (portDomain (s.reg (Od.ptpPort.inst d))) = true →
    (s.reg (Od.ptpProfile.inst d) = 2 ∨ (s.dom d).chosen.isSome = true) → (s.dom d).nextReq ≤ (s.advance dt).now →
    ∃ t, exec (.delayReqSend dt d) s = .next t ∧ (t.dom d).reqSeq = s.tm.ptpSeq ∧ (t.dom d).reqTime = none ∧
      t.tm.ptpSeq = (s.tm.ptpSeq + 1) % 65536) ∧
  (∀ (s : State) (dt p d : Nat) (e : Bytes) (rest : List Bytes), p < 26 → s.alive = true → s.tsq p = e :: rest → d < 2 →
    d < s.tm.doms.length → u16 e 0 = 0xF000 + d → (s.dom d).reqOpen = true →
    ∃ t, exec (.tsqEntryDeliver dt p) s = .next t ∧ t.tsq p = rest ∧ (t.dom d).reqTime = some (captureNs (slice e 4 12)))

/-! ### The timeline and commits (spec/02) -/

/-- TICK: the generator's tick with no older one due and no miss waiting, at its instant; an acknowledgement later than 100 µs counts as none;
the miss of a tick that still waits comes 100 µs after it. TIMELINE_START: where R44 holds the timeline runs from the first frame whose cut-off lies ahead, with HOLDS 0. -/
def Obligations.TicksAndTheTimelineStart : Prop :=
  (∀ (s : State) (ack : Option Nat), s.alive = true → s.tl.awaitAck = none →
    let ok := ack.filter fun d => decide (d ≤ 100000)
    (s.oldDue = none → exec (.tick ack) s = .next (State.ended s (s.mainTick ok))) ∧
    (∀ g, s.oldDue = some g → exec (.tick ack) s = .next (State.ended s (s.oldTick g ok)))) ∧
  (∀ (s : State) (rate k : Nat), s.alive = true → s.tl.awaitAck = some (rate, k) → ∃ t, exec .tickMissed s = .next t ∧ t.tl.awaitAck = none ∧
    t.now = max s.now (tickTime rate k + 100000) ∧
    (s.running = true → s.tow.state ≠ 3 → t.reg Od.missedRun = Od.missedRun.counted (s.reg Od.missedRun) 1 ∧
      t.reg Od.missedTicks = Od.missedTicks.counted (s.reg Od.missedTicks) 1)) ∧
  (∀ (s : State) (dt : Nat), (s.advance dt).mayStart = true → s.tl.startFrame = none → ∃ t, exec (.timelineStart dt) s = .next t ∧
    t.reg Od.timelineState = 1 ∧ t.reg Od.holds = 0 ∧ t.tl.first = tickFrom s.tl.rate ((s.advance dt).now + s.reg Od.commitCutoff * 1000 + 1) ∧
    t.tl.nextCut = t.tl.first ∧ t.tl.frames = [])

/-- FRAME_CUTOFF at tick k − COMMIT_CUTOFF: the settings of frame k are those of frame k − 1 with every accepted commit bound to it or
earlier on top, in the order of their bound frames and then of their acceptance; commits bound later go on waiting. -/
def Obligations.CutOffFixesTheSettings : Prop :=
  (∀ s : State, s.domOn 1 = true → exec .frameCutoff s =
    .next (State.ended s ((s.goTo (tickTime s.tl.rate s.cutIndex - s.reg Od.commitCutoff * 1000)).cutOff s.cutIndex))) ∧
  (∀ s : State, s.domOn 1 = true → s.running = true →
    (s.settingsAt s.tl.nextCut).num Od.frameRate = s.tl.rate → ∃ t, exec .frameCutoff s = .next t ∧
      t.tl.newest = s.settingsAt s.tl.nextCut ∧ t.tl.nextCut = s.tl.nextCut + 1 ∧
      (t.tl.frames.getLast?.map fun f => (f.k, f.closed)) = some (s.tl.nextCut, false)) ∧
  (∀ (s : State) (k : Nat) (r : OdRow) (i : Nat), r.key + i < calBase →
    (∀ c ∈ s.tl.waiting, ∀ v ∈ c.vals, v.1 = r.key + i → ∃ n, v.2 = OdVal.num n) →
    (s.settingsAt k).num r i =
      ((sortBy (fun (a b : Commit) => decide (a.bound ≤ b.bound)) (s.tl.waiting.filter fun c => decide (c.bound ≤ k))).flatMap Commit.vals).foldl
        (fun a v => match v with | (key, .num n) => if key = r.key + i then n else a | _ => a) (s.tl.newest.num r i))

/-- HOLD_DECISION at L_o − LAUNCH_GUARD for the earliest closed frame in which the output is undecided, and OUTPUT_LAUNCH at L_o for the
earliest in which it is decided. -/
def Obligations.DecisionsAndLaunchesAtTheirInstants : Prop :=
  (∀ (s : State) (o : Out) (f : Frame) (x : OutFrame), s.domOn 1 = true →
    s.tl.frames.find? (fun f => f.closed && (match f.out? o with | some x => x.decision == 0 | none => false)) = some f →
    f.out? o = some x →
    exec (.holdDecision o) s = .next (State.ended s ((s.goTo (f.launchAt x - s.reg Od.launchGuard * 1000)).decide_ f o))) ∧
  (∀ (s : State) (o : Out) (f : Frame) (x : OutFrame), s.domOn 1 = true →
    s.tl.frames.find? (fun f => match f.out? o with | some x => x.decision == 1 || x.decision == 2 | none => false) = some f →
    f.out? o = some x →
    exec (.outputLaunch o) s = .next (State.ended s ((s.goTo (f.launchAt x)).atLaunch f x)))

/-- An output launches exactly where its frame was not abandoned, its data is complete, R30 does not stop it, no unit of it is forced to
hold, and its tile, if it is one, can take the frame; an output that cannot launch holds. -/
def Obligations.OutputsLaunchOrHold : Prop :=
  ∀ (s : State) (f : Frame) (o : Out), f.endsOnly o = false →
    ((f.abandoned = true ∨ s.outComplete f o = false ∨ (s.outState o).latOver = true ∨ f.forcedOut o = true) →
      s.decide_ f o = s.holdOut f o) ∧
    ((∀ n, o ≠ .tile n) → f.abandoned = false → s.outComplete f o = true → (s.outState o).latOver = false → f.forcedOut o = false →
      s.decide_ f o = ((s.setFrame (f.setDecision o 1)).settleOutput f o true).presentFeeds f.k o)

/-- An untimed commit, made by a write to COMMIT, binds to the first frame whose cut-off lies strictly after the acceptance instant: one
accepted exactly at tick k − COMMIT_CUTOFF binds to frame k + 1 (R35). -/
def Obligations.UntimedCommitsBindToTheFirstFrameAhead : Prop :=
  (∀ s : State, s.bindAt none 0 = (s.firstFrame, false) ∧
    s.now + s.reg Od.commitCutoff * 1000 < tickTime s.tl.rate s.firstFrame ∧ s.tl.nextCut ≤ s.firstFrame ∧
    ∀ k, s.tl.nextCut ≤ k → s.now + s.reg Od.commitCutoff * 1000 < tickTime s.tl.rate k → s.firstFrame ≤ k) ∧
  (∀ (s t : State) (cls st k : Nat), s.commitDirty cls none = (t, st, k) → st = stOk ∨ st = stLateBound →
    st = stOk ∧ k = s.firstFrame ∧ t.reg Od.boundFrame = frameNo k) ∧
  (∀ (s : State) (k : Nat), s.now + s.reg Od.commitCutoff * 1000 = tickTime s.tl.rate k → s.tl.nextCut ≤ k + 1 → s.firstFrame = k + 1) ∧
  (∀ (s : State) (dt : Nat) (r : Req), s.takes r.src r.seq = true → (s.served dt).accepts r (Od.commit.numItem 0 0) →
    let (t, st, _) := (s.served dt).commitDirty (s.portClass r.src.port) none
    exec (.commit dt r) s = .next (State.ended s (answered r (Od.commit.numItem 0 0) (t, st, none))))

/-- A timed commit binds to the first frame whose presentation tick is at or after the time, each frame j being presented D j ticks after
its own; where the cut-off of that frame has passed it binds to the earliest reachable one, and that is late. -/
def Obligations.TimedCommitsBindByPresentation : Prop :=
  ∀ (s : State) (t : Nat) (d : Nat → Nat), (∀ j, 2 ≤ d j ∧ d j ≤ 8) →
    let (k, late) := s.bindAt (some t) d
    s.firstFrame ≤ k ∧ (late = true → k = s.firstFrame) ∧
    (late = false → t ≤ tickTime s.tl.rate (k + d k) ∧ ∀ j < k, tickTime s.tl.rate (j + d j) < t) ∧
    (late = true ↔ ∃ j < s.firstFrame, t ≤ tickTime s.tl.rate (j + d j))

/-- Commits: COMMIT and COMMIT_AT, written by a host, or by the COMMIT command with an empty payload or a TIME, take the dirty set;
the reply carries status and bound frame. CANCEL_PENDING discards every waiting commit. -/
def Obligations.CommitCommandsAreAnswered : Prop :=
  (∀ (s : State) (dt : Nat) (r : Req), s.takes r.src r.seq = true → (s.served dt).accepts r (Od.commit.numItem 0 0) →
    exec (.commit dt r) s = .next (State.ended s (answered r (Od.commit.numItem 0 0) ((s.served dt).commitEff (s.portClass r.src.port) none)))) ∧
  (∀ (s : State) (dt : Nat) (r : Req) (time : Nat), time < 2 ^ 80 → s.takes r.src r.seq = true →
    (s.served dt).accepts r (Od.commitAt.numItem 0 time) →
    exec (.commitAt dt r time) s = .next (State.ended s (answered r (Od.commitAt.numItem 0 time)
      ((s.served dt).commitEff (s.portClass r.src.port) (some (nsOfTime time)))))) ∧
  (∀ (s : State) (dt : Nat) (m : Msg), s.takesMsg 7 m = true → m.payload = [] →
    let (t, st, k) := (s.served dt).commitDirty (s.portClass m.src.port) none
    exec (.commitCmd dt m) s = .next (State.ended s (t.reply m.src 7 m.seq st (boundReply st k)))) ∧
  (∀ (s : State) (dt : Nat) (m : Msg), s.takesMsg 7 m = true → m.payload.length = 10 → timeOk (beNat m.payload) = true →
    let (t, st, k) := (s.served dt).commitDirty (s.portClass m.src.port) (some (nsOfTime (beNat m.payload)))
    exec (.commitCmd dt m) s = .next (State.ended s (t.reply m.src 7 m.seq st (boundReply st k)))) ∧
  (∀ (s : State) (dt : Nat) (r : Req), s.takes r.src r.seq = true → (s.served dt).accepts r (Od.cancelPending.numItem 0 0) →
    ∃ t, exec (.cancelPending dt r) s = .next t ∧ t.tl.waiting = [] ∧ t.tl.newest = s.tl.newest ∧ t.tl.frames = s.tl.frames ∧
      (s.tl.waiting = [] → (s.tl.dirty.map (·.1)).Pairwise (· < ·) → t.tl.dirty = s.tl.dirty))

/-- An accepted commit takes the whole dirty set, empties it, waits for one bound frame and BOUND_FRAME reads it; a refused one leaves
the dirty set and every bound frame; while four wait a further one is BUSY; a TIME more than 86,400 s ahead is refused with RANGE. -/
def Obligations.AcceptedCommitsTakeTheDirtySet : Prop :=
  ∀ (s t : State) (cls st k : Nat) (time : Option Nat), s.commitDirty cls time = (t, st, k) →
    ((st = stOk ∨ st = stLateBound) → t.tl.dirty = [] ∧ t.tl.newest = s.tl.newest ∧ t.reg Od.boundFrame = frameNo k ∧
      t.tl.waiting.length = s.tl.waiting.length + 1 ∧ (t.tl.waiting.getLast?.map Commit.bound) = some k ∧ s.tl.waiting.length < 4) ∧
    ((st ≠ stOk ∧ st ≠ stLateBound) → t.tl = s.tl ∧ (st = stNoRight ∨ st = stBusy ∨ st = stRange)) ∧
    (4 ≤ s.tl.waiting.length → ¬(cls = 2 ∧ s.dirtyBeyondO = true) → st = stBusy) ∧
    (∀ at_, time = some at_ → s.now + 86400000000000 < at_ → st ≠ stOk ∧ st ≠ stLateBound)

/-- Up to four accepted commits wait; while four wait a further one is refused with BUSY and the dirty set is kept; CANCEL_PENDING
discards every waiting commit and their entries return to the dirty set, under what was written there since (R37). Parts the partner's
mirror committed do not come back (the model's choice), nor does the BARGE_ENERGY a commit takes with it. -/
def Obligations.FourCommitsMayWait : Prop :=
  (∀ (s t : State) (cls st k : Nat) (time : Option Nat), s.commitDirty cls time = (t, st, k) →
    (s.tl.waiting.length ≤ 4 → t.tl.waiting.length ≤ 4) ∧
    (4 ≤ s.tl.waiting.length → ¬(cls = 2 ∧ s.dirtyBeyondO = true) → st = stBusy ∧ t = s)) ∧
  (∀ (s : State) (dt : Nat) (r : Req), s.takes r.src r.seq = true → (s.served dt).accepts r (Od.cancelPending.numItem 0 0) →
    ∃ t, exec (.cancelPending dt r) s = .next t ∧ t.tl.waiting = [] ∧
      (∀ c ∈ s.tl.waiting, c.mirror = false → ∀ v ∈ c.vals, v.1 ≠ Od.bargeEnergy.key → ∃ x, kvGet v.1 t.tl.dirty = some x) ∧
      (∀ k x, (s.tl.dirty.map (·.1)).Nodup → (k, x) ∈ s.tl.dirty → kvGet k t.tl.dirty = some x) ∧
      (∀ k x, kvGet k t.tl.dirty = some x → (k, x) ∈ s.tl.dirty ∨ ∃ c ∈ s.tl.waiting, (k, x) ∈ c.vals))

/-- Group commands: ignored and counted while NUMBER_SET reads 0; a group COMMIT binds as a timed commit, counted in GROUP_LATE where it
is late; SNAPSHOT and RESET bind alike and wait for their frame; each is kept to be answered at EXEC_TIME plus
(DEVICE_NUMBER mod 64) × REPLY_SLOT, and GROUP_REPLY_SEND answers the one due first. -/
def Obligations.GroupCommandsBindAndAreAnswered : Prop :=
  (∀ (s : State) (dt cmd : Nat) (m : Msg), s.takesGroup cmd m = true → s.reg Od.numberSet = 0 →
    (cmd = 7 → exec (.groupCommit dt m) s = .next (State.ended s ((s.served dt).count Od.groupIgnored))) ∧
    (cmd = 0xB → exec (.groupSnapshot dt m) s = .next (State.ended s ((s.served dt).count Od.groupIgnored))) ∧
    (cmd = 0xC → exec (.groupReset dt m) s = .next (State.ended s ((s.served dt).count Od.groupIgnored)))) ∧
  (∀ (s : State) (dt : Nat) (m : Msg), s.takesGroup 7 m = true → s.reg Od.numberSet ≠ 0 →
    exec (.groupCommit dt m) s = .next (State.ended s (State.conclude 7 m (State.runCommit m (s.served dt))))) ∧
  (∀ (s : State) (dt : Nat) (m : Msg), s.takesGroup 0xB m = true → s.reg Od.numberSet ≠ 0 →
    exec (.groupSnapshot dt m) s = .next (State.ended s (State.conclude 0xB m (State.runGroup m (s.served dt))))) ∧
  (∀ (s : State) (dt : Nat) (m : Msg), s.takesGroup 0xC m = true → s.reg Od.numberSet ≠ 0 →
    exec (.groupReset dt m) s = .next (State.ended s (State.conclude 0xC m (State.runGroup m (s.served dt))))) ∧
  (∀ (s : State) (g : GroupCmd), s.nextReply = some g → ∃ t, exec .groupReplySend s = .next t ∧
    t.now = max s.now (g.execNs + s.reg Od.deviceNumber % 64 * s.reg Od.replySlot * 1000) ∧
    (t.od.kept? g.src g.seq).isSome = true ∧ (g.acted = true → g ∉ t.od.groups))

/-! ### The object dictionary server (spec/03) -/

/-- A plain RW write is accepted at its validation instant, answered OK, and waits for the next tick; REGISTER_WRITE does what the entry it
names does. At the tick, of several writes to one entry the last takes effect, and persisted values wait to be journalled (R53, R56); a
write of that very instant waits on. The tick is shown for entries whose new value does nothing beside standing in them. -/
def Obligations.PlainWritesTakeEffectAtTheTick : Prop :=
  ((∀ (s : State) (dt : Nat) (r : Req) (p v : Nat), v < 256 → s.takes r.src r.seq = true → (s.served dt).accepts r (Od.laneEn.numItem p v) →
    exec (.laneEnWrite dt r p v) s = .next (State.ended s (answered r (Od.laneEn.numItem p v)
      (effOk ((s.served dt).pendWrite (Od.laneEn.key + p) (.num v)))))) ∧
  (∀ (s : State) (dt : Nat) (r : Req) (p v : Nat), v < 256 → s.takes r.src r.seq = true → (s.served dt).accepts r (Od.portEn.numItem p v) →
    exec (.portEnWrite dt r p v) s = .next (State.ended s (answered r (Od.portEn.numItem p v)
      (effOk ((s.served dt).pendWrite (Od.portEn.key + p) (.num v)))))) ∧
  (∀ (s : State) (dt : Nat) (r : Req) (d v : Nat), v < 256 → d < 2 → s.takes r.src r.seq = true →
    (s.served dt).accepts r ((Od.ptpEnable.inst d).numItem 0 v) →
    exec (.domainEnableWrite dt r d v) s = .next (State.ended s (answered r ((Od.ptpEnable.inst d).numItem 0 v)
      (effOk ((s.served dt).pendWrite (Od.ptpEnable.inst d).key (.num v)))))) ∧
  (∀ (s : State) (dt : Nat) (r : Req) (v : Nat), v < 256 ^ Od.domainEn.len → s.takes r.src r.seq = true →
    (s.served dt).accepts r (Od.domainEn.numItem 0 v) →
    exec (.domainEnWrite dt r v) s = .next (State.ended s (answered r (Od.domainEn.numItem 0 v)
      (effOk ((s.served dt).pendWrite Od.domainEn.key (.num v)))))) ∧
  (∀ (s : State) (dt : Nat) (r : Req) (v : Nat), v < 256 ^ Od.standbyMode.len → s.takes r.src r.seq = true →
    (s.served dt).accepts r (Od.standbyMode.numItem 0 v) →
    exec (.standbyModeWrite dt r v) s = .next (State.ended s (answered r (Od.standbyMode.numItem 0 v)
      (effOk ((s.served dt).pendWrite Od.standbyMode.key (.num v)))))) ∧
  (∀ (s : State) (dt : Nat) (r : Req) (index sub ty : Nat) (value : Bytes), s.takes r.src r.seq = true →
    let w : WriteItem := { index := index, sub := sub, ty := ty, flags := 0, value := value }
    (s.served dt).accepts r w →
    exec (.registerWrite dt r index sub ty value) s =
      .next (State.ended s (answered r w ((s.served dt).runItem (s.portClass r.src.port) r w))))) ∧
  (∀ r ∈ [Od.subLease, Od.launchGuard, Od.commitCutoff, Od.bargeLimit, Od.echoPeriod, Od.irqMask, Od.replySlot, Od.retryPeriod],
    ∀ (s : State) (a b t1 t2 : Nat), s.od.pend = [(r.key, .num a, t1), (r.key, .num b, t2)] → t1 ≠ s.now → t2 ≠ s.now →
      s.applyPend.reg r = b ∧ s.applyPend.od.pend = [] ∧ s.applyPend.tm = s.tm ∧
      s.applyPend.od.journalQ = s.od.journalQ.filter (fun q => q.1 != r.key) ++ [(r.key, .num b, s.now)] ∧
      ∀ (q : OdRow) (i : Nat), q.key + i ≠ r.key → s.applyPend.reg q i = s.reg q i)

/-- A WRITE of which any item fails applies none: every item reports its own status, the message's STATUS is that of the first that
failed, and nothing but NO_RIGHT_COUNT and the reply changes. -/
def Obligations.RefusedWritesApplyNothing : Prop :=
  ∀ (s : State) (dt : Nat) (m : Msg) (items : List WriteItem), s.takesMsg 2 m = true → writeItems m.payload = some items →
    items.length ≤ 64 → (items.any fun w => inWindow w.index) = false →
    let u := s.served dt
    let sts := items.map (u.checkItem (u.hypothesis items) (s.portClass m.src.port) m.src.port false)
    ∀ st, (sts.find? fun x => x != stOk) = some st → (sts.all fun x => x == stOk || refuses x) = true →
      exec (.write dt m) s = .next (State.ended s
        ((u.count Od.noRightCount (sts.filter fun x => x == stNoRight).length).reply m.src 2 m.seq st
          ((items.zip sts).flatMap fun p => statusItem p.1.index p.1.sub p.2)))

/-- READ, WRITE and WRITE_POSTED: a message the server takes is executed as it arrives. A READ of one entry answers its value, keeps no reply
for duplicates (its SEQ alone, which counts among the last 16), and clears what a read clears; a refused WRITE_POSTED is counted, logged and reported, and no reply is sent. -/
def Obligations.MessagesAreExecuted : Prop :=
  (∀ (s : State) (dt : Nat) (m : Msg), s.takesMsg 1 m = true →
    exec (.read dt m) s = .next (State.ended s (State.conclude 1 m (State.runRead m (s.served dt))))) ∧
  (∀ (s : State) (dt : Nat) (m : Msg) (it : ReadItem) (ty : Nat) (v : Bytes), s.takesMsg 1 m = true → readItems m.payload = some [it] →
    inWindow it.index = false → (s.served dt).draw.readItem (s.portClass m.src.port) it = (stOk, ty, v) →
    (valueItem it ty stOk v).length ≤ 1436 →
    exec (.read dt m) s = .next (State.ended s
      ((((s.served dt).draw.count Od.noRightCount 0).clearItem it).reply m.src 1 m.seq stOk (valueItem it ty stOk v) false))) ∧
  (∀ (s : State) (dt : Nat) (m : Msg), s.takesMsg 2 m = true →
    exec (.write dt m) s = .next (State.ended s (State.conclude 2 m ((s.served dt).writePayload m false)))) ∧
  (∀ (s : State) (dt : Nat) (m : Msg), s.takesMsg 3 m = true →
    let a := (s.served dt).writePayload m true
    let t := if a.silent = false && refuses a.status then State.postedFailed m a else a.s
    exec (.writePosted dt m) s = .next (State.ended s
      { t with od := { t.od.keep m.src { seq := m.seq, cmd := 3, status := stOk, payload := none } with replyFrom := none } }))

/-- A message whose SEQ matches a kept reply is not executed again: the kept reply goes out once more and DUP_REPLIES counts it (R68). The
first message of a port's input queue is the next of it to be executed: it leaves the queue, and what stands there of other ports stays. One
that arrives while others of its port wait joins the queue behind them (R62). -/
def Obligations.MessagesAreExecutedOnceAndInOrder : Prop :=
  (∀ (s : State) (dt : Nat) (m : Msg) (k : Kept), s.hears m.src.port = true → (24 ≤ m.src.port ∨ s.reg Od.role m.src.port ≠ 2) →
    s.portClass m.src.port ≠ 0 → m.src.group = false → s.discards m = false → s.waitsOn m.src.port = false →
    s.od.kept? m.src m.seq = some k →
    let u := s.served dt
    let t := ({ u with od := u.od.touch m.src } : State).count Od.dupReplies
    exec (.write dt m) s = .next (State.ended s (t.reply m.src k.cmd k.seq k.status (k.payload.getD []) false)) ∧
    exec (.updateActivate dt m) s = .next (State.ended s (t.reply m.src k.cmd k.seq k.status (k.payload.getD []) false))) ∧
  ((∀ (s : State) (cmd cls : Nat) (m : Msg) (a b : List (Nat × Nat × Msg)), s.od.inQ = a ++ (cls, cmd, m) :: b →
    (a.all fun q => q.2.2.src.port != m.src.port) = true → (s.aq.serve.all fun q => q.2.2.src.port != m.src.port) = true →
    s.letIn cmd m = ({ s with od := { s.od with inQ := a ++ b } }, true)) ∧
  (∀ (s : State) (cmd : Nat) (m : Msg), s.waitsOn m.src.port = true → s.dequeue cmd m = none → s.hears m.src.port = true →
    (24 ≤ m.src.port ∨ s.reg Od.role m.src.port ≠ 2) → s.portClass m.src.port ≠ 0 → s.discards m = false → notGroup cmd m = false →
    s.letIn cmd m = ((s.count Od.rxMsgs).queueMsg cmd m, false)))

/-- A command that the class of its port may not send is refused with NO_RIGHT, counted, and does nothing. -/
def Obligations.CommandsNeedTheirClass : Prop :=
  ∀ (s : State) (dt : Nat) (m : Msg), s.takes m.src m.seq = true → s.discards m = false →
    let no (cmd : Nat) : Host.Outcome State Fault Refusal :=
      .next (State.ended s (((s.served dt).count Od.noRightCount).reply m.src cmd m.seq stNoRight []))
    (s.portClass m.src.port ≠ 1 →
      exec (.updateOpen dt m) s = no 0x10 ∧ exec (.updatePiece dt m) s = no 0x11 ∧ exec (.updateFinish dt m) s = no 0x12 ∧
      exec (.updateActivate dt m) s = no 0x13 ∧ exec (.updateConfirm dt m) s = no 0x14 ∧ exec (.updateAbort dt m) s = no 0x15) ∧
    (s.portClass m.src.port = 4 → exec (.commitCmd dt m) s = no 7)

/-- Entries whose write acts at its validation instant: DEVICE_NUMBER also sets NUMBER_SET (R17); 1 in MGMT1_CLASS demotes at once and 0
waits for the next start (R63); SYNC's reply waits while a change waits to be journalled (R53). -/
def Obligations.ImmediateWritesActAtOnce : Prop :=
  (∀ (s : State) (dt : Nat) (r : Req) (v : Nat), v < 65536 → s.takes r.src r.seq = true → (s.served dt).accepts r (Od.deviceNumber.numItem 0 v) →
    exec (.deviceNumberWrite dt r v) s = .next (State.ended s (answered r (Od.deviceNumber.numItem 0 v)
      (effOk ((((s.served dt).setReg Od.deviceNumber v).setReg Od.numberSet 1).noteJournal Od.deviceNumber.key (.num v)))))) ∧
  (∀ (s : State) (dt : Nat) (r : Req), s.takes r.src r.seq = true → (s.served dt).accepts r (Od.mgmt1Class.numItem 0 1) →
    ∃ t, exec (.mgmt1ClassWrite dt r 1) s = .next t ∧ t.od.demoted = true ∧ t.reg Od.mgmt1Class = 1 ∧ t.portClass 25 = 2) ∧
  (∀ (s : State) (dt : Nat) (r : Req), s.takes r.src r.seq = true → (s.served dt).accepts r (Od.mgmt1Class.numItem 0 0) →
    ∃ t, exec (.mgmt1ClassWrite dt r 0) s = .next t ∧ t.od.demoted = s.od.demoted ∧ t.portClass 25 = s.portClass 25 ∧
      (Od.mgmt1Class.key, OdVal.num 0) ∈ t.od.journalQ.map (fun q => (q.1, q.2.1))) ∧
  (∀ (s : State) (dt : Nat) (r : Req), s.takes r.src r.seq = true → (s.served dt).accepts r (Od.sync.numItem 0 0) →
    (s.persistWaits = false → exec (.sync dt r) s = .next (State.ended s
      ((s.served dt).reply r.src 2 r.seq stOk (statusItem (Od.sync.key / 256) (Od.sync.key % 256) stOk)))) ∧
    (s.persistWaits = true → ∃ t, exec (.sync dt r) s = .next t ∧ t.od.owed.length = s.od.owed.length + 1 ∧ t.od.dups = s.od.dups))

/-- Bulk sessions: BULK_OPEN, BULK_DATA and BULK_CLOSE are executed as they arrive; a session opened gets the next handle and its reply
carries handle and TOTAL; a session that has seen no message for 10 s is discarded with its data and reported. -/
def Obligations.BulkSessionsOpenMoveAndEnd : Prop :=
  (∀ (s : State) (dt : Nat) (m : Msg), s.takesMsg 4 m = true →
    exec (.bulkOpen dt m) s = .next (State.ended s (State.conclude 4 m (State.runBulkOpen m (s.served dt))))) ∧
  (∀ (s : State) (dt : Nat) (m : Msg), s.takesMsg 5 m = true →
    exec (.bulkData dt m) s = .next (State.ended s (State.conclude 5 m (State.runBulkData m (s.served dt))))) ∧
  (∀ (s : State) (dt : Nat) (m : Msg), s.takesMsg 6 m = true →
    exec (.bulkClose dt m) s = .next (State.ended s (State.conclude 6 m (State.runBulkClose m (s.served dt))))) ∧
  (∀ (s : State) (h : Nat) (b : Bulk), s.od.bulks.find? (fun b => b.handle == h) = some b →
    exec (.bulkExpire h) s = .next (State.ended s (((s.goTo (b.lastSeen + 10000000000)).endBulk h).raise 0x1003
      (natBE 2 h ++ natBE 2 (b.entry / 256) ++ natBE 1 b.entry)))) ∧
  (∀ (s : State) (m : Msg), (State.runBulkOpen m s).status = stOk →
    (State.runBulkOpen m s).s.od.bulks.length = s.od.bulks.length + 1 ∧ s.od.bulks.length < 8) ∧
  (∀ (s : State) (m : Msg) (b : Bulk), m.payload.length = 8 → s.session m.src (u16 m.payload 0) = .ok b →
    (b.isWrite = false → State.runBulkClose m s = { s := s.endBulk b.handle, payload := natBE 1 0 ++ natBE 3 0 }) ∧
    (b.isWrite = true → covers b.parts b.total = false →
      State.runBulkClose m s = { s := s.endBulk b.handle, status := stRange, payload := natBE 1 1 ++ natBE 3 0 }) ∧
    (b.isWrite = true → covers b.parts b.total = true → crc32c (overlayParts b.total b.parts) ≠ u32 m.payload 4 →
      State.runBulkClose m s = { s := s.endBulk b.handle, status := stRange, payload := natBE 1 2 ++ natBE 3 0 }))

/-- SUBSCRIBE is executed as it arrives; a subscription lapses at its end; NOTIFY sends the oldest message of a subscriber's queue. -/
def Obligations.SubscribersAreNotified : Prop :=
  (∀ (s : State) (dt : Nat) (m : Msg), s.takesMsg 8 m = true →
    exec (.subscribe dt m) s = .next (State.ended s (State.conclude 8 m (State.runSubscribe m (s.served dt))))) ∧
  (∀ (s : State) (i : Nat) (b : Sub), kvGet i s.od.subs = some b → exec (.subscriptionLapse i) s =
    .next (State.ended s { s.goTo b.expires with od := { s.od with subs := kvDel i s.od.subs } })) ∧
  (∀ (s : State) (dt i seq : Nat) (b : Sub) (e : Event) (rest : List (Nat × Event)), kvGet i s.od.subs = some b →
    b.queue = (seq, e) :: rest → s.notifyRoom b.src = true →
    let t := s.advance dt
    exec (.notify dt i) s = .next (State.ended s
      (({ t with od := { t.od with subs := kvSet i { b with queue := rest } t.od.subs } } : State).send
        { dst := b.src, cmd := 9, seq := seq, device := t.device, status := 0, payload := e.bytes, sport := t.reg Od.odUdpPort })))

/-- The SPI target: PUT_MSG counts a valid message in RX_MSGS and queues it, counts one that is discarded, and is discarded and counted while
64 wait; GET_MSG takes the oldest waiting reply or NOTIFY and shifts its length and its bytes out, or length 0 where none waits; STATUS shifts
its byte out and changes nothing else. -/
def Obligations.SpiMovesMessages : Prop :=
  (∀ (s : State) (dt cmd : Nat) (bytes : Bytes) (m : Msg), s.alive = true → (s.od.inQ.filter fun q => q.1 == 0).length < 64 →
    msgOf { port := 26 } bytes = some (cmd, m) →
    exec (.putMsg dt bytes) s = .next (State.ended s
      (if s.discards m then (s.advance dt).count Od.msgDiscarded else ((s.advance dt).count Od.rxMsgs).queueMsg cmd m))) ∧
  (∀ (s : State) (dt : Nat) (bytes : Bytes), s.alive = true → 64 ≤ (s.od.inQ.filter fun q => q.1 == 0).length →
    exec (.putMsg dt bytes) s = .next (State.ended s ((s.advance dt).count Od.queueDrops))) ∧
  (∀ (s : State) (dt : Nat) (r : Sent) (rest : List Sent), s.alive = true → s.od.spiReplies = r :: rest →
    exec (.getMsg dt) s = .next (State.ended s { s.advance dt with
      od := { s.od with spiReplies := rest, sent := r :: s.od.sent, spiOut := (natBE 2 r.bytes.length ++ r.bytes) :: s.od.spiOut } })) ∧
  (∀ (s : State) (dt : Nat), s.alive = true → s.od.spiReplies = [] →
    exec (.getMsg dt) s = .next (State.ended s { s.advance dt with od := { s.od with spiOut := [0#8, 0#8] :: s.od.spiOut } })) ∧
  (∀ (s : State) (dt : Nat), s.alive = true →
    exec (.spiStatus dt) s = .next (State.ended s
      { s.advance dt with od := { s.od with spiOut := natBE 1 (s.advance dt).spiByte :: s.od.spiOut } })) ∧
  (∀ (s : State) (dt : Nat), s.alive = false → exec (.spiStatus dt) s = .next (State.ended s (s.advance dt)))

/-- A journal write is done: the oldest change stands in the settings store and waits no more; PERSIST_PENDING's condition ends with the
last, and only then do the SYNC replies leave. -/
def Obligations.TheJournalTakesChangesInOrder : Prop :=
  ∀ (s : State) (dt : Nat), s.alive = true →
    (∀ q rest, s.od.journalQ = q :: rest → ∃ t, exec (.journalWriteDone dt) s = .next t ∧ t.od.journalQ = rest ∧
      t.od.journal = s.od.journal.setVal q.1 q.2.1 ∧ (rest ≠ [] → t.od.owed = s.od.owed)) ∧
    (s.od.journalQ = [] → ∃ t, exec (.journalWriteDone dt) s = .next t ∧ t.persistWaits = false ∧
      t.od.owed = (s.od.owed.map fun w => { w with waits := w.waits.filter (· != 0) }).filter fun w => !w.waits.isEmpty)

/-! ### Lanes, frames and pounds (spec/05, spec/11) -/

/-- A link that comes up or goes down: LINK_STATE and LINK_SPEED, LINK_DOWNS, events 0x2401 and 0x2402; one that is up
may take up or lose the remote fault its partner signals; in AUTO a MGMT port follows its
in-band status, and half duplex is link down. -/
def Obligations.LinksComeUpAndGoDown : Prop :=
  let raised (t : State) (p speed : Nat) : State :=
    let u := t.setPort p { t.port p with up := true, speed := speed }
    ((u.setReg Od.linkState 1 p).setReg Od.linkSpeed (u.speedCode p) p).raise 0x2401 (natBE 2 p ++ natBE 1 (u.speedCode p))
  let fault (t : State) (p : Nat) (remote : Bool) : State := t.setPort p { t.port p with remoteFault := remote }
  (∀ (s : State) (dt p : Nat) (remote : Bool), p < 24 → s.portRuns p = true → (s.port p).up = false →
    exec (.linkUp dt ⟨p, remote⟩) s = .next (State.ended s (raised (fault (s.advance dt) p remote) p 0))) ∧
  (∀ (s : State) (dt p : Nat) (remote : Bool), p = 24 ∨ p = 25 → s.portRuns p = true → (s.port p).up = false → s.mgmtSpeed p ≠ 0 →
    exec (.linkUp dt ⟨p, remote⟩) s = .next (State.ended s (raised (fault (s.advance dt) p remote) p (s.mgmtSpeed p)))) ∧
  (∀ (s : State) (dt p : Nat) (remote : Bool), p < 24 → s.portRuns p = true → (s.port p).up = true →
    exec (.linkUp dt ⟨p, remote⟩) s = .next (State.ended s (fault (s.advance dt) p remote))) ∧
  (∀ (s : State) (dt p : Nat), p < 26 → (s.port p).up = true → (s.port p).wire = none →
    let u := (s.advance dt).setPort p { s.port p with up := false, remoteFault := false, speed := 0, wire := none }
    exec (.linkDown dt p) s = .next (State.ended s
      ((((u.setReg Od.linkState 0 p).setReg Od.linkSpeed 0 p).count Od.linkDowns 1 p).raise 0x2402 (natBE 2 p)))) ∧
  (∀ (s : State) (dt p : Nat), p < 26 → exec (.linkDown dt p) s = .next (State.ended s ((s.advance dt).linkDrop p))) ∧
  (∀ (s : State) (dt p speed : Nat) (up fd : Bool), p = 24 ∨ p = 25 → s.portRuns p = true → s.mgmtSpeed p = 0 →
    (up = true → fd = true → (speed = 1 ∨ speed = 2) → (s.port p).up = false →
      exec (.mgmtInbandStatus dt p up speed fd) s = .next (State.ended s (raised (s.advance dt) p speed))) ∧
    ((up = false ∨ fd = false) → exec (.mgmtInbandStatus dt p up speed fd) s = .next (State.ended s ((s.advance dt).linkDrop p))))

/-- At a frame boundary the MAC ends the heads that cannot be sent and serves the queue R132 chooses, and no other; a frame sent in full
counts in TX_FRAMES and TX_BYTES and stands on the wire's record, and the last of its descriptor completes it. -/
def Obligations.FramesAreChosenAndSent : Prop :=
  (∀ (s : State) (dt p q : Nat) (j : TxJob) (t : State), p < 26 → s.alive = true → (s.port p).wire = none →
    let d := (s.advance dt).drainPort p
    d.chooseQ p = some q → d.takeJob p q = (t, some j) → exec (.txSelect dt p) s = .next (State.ended s (t.startFrame p j))) ∧
  (∀ (s : State) (dt p : Nat), p < 26 → s.alive = true → (s.port p).wire = none → ((s.advance dt).drainPort p).chooseQ p = none →
    exec (.txSelect dt p) s = .next (State.ended s ((s.advance dt).drainPort p))) ∧
  (∀ (s : State) (dt p : Nat) (w : TxFrame), p < 26 → (s.port p).wire = some w →
    (exec (.txFrameDone dt p) s = .next (State.ended s ((s.advance dt).frameDone p w))) ∧
    ∃ t, exec (.txFrameDone dt p) s = .next t ∧ t.net.wires = (p, w.bytes) :: s.net.wires ∧ t.net.basin = s.net.basin)

/-- Among the queues of a port that are open, one whose timed head is due or late goes first, the one with the earliest LAUNCH; only where
none is due is an untimed frame taken, and only if it ends before every timed head is due. -/
def Obligations.TimedFramesAreNeverHeldUp : Prop :=
  ∀ (s : State) (p q : Nat), s.chooseQ p = some q → q < 8 ∧ s.paused p q = false ∧
    ∀ (q' : Nat) (d : Bytes), q' < 8 → s.paused p q' = false → ((s.port p).jobs.any fun j => j.tc == q') = false →
      s.headDesc p q' = some d → dLaunch d ≠ 0 →
      (s.dueAt p d ≤ s.now ∨ s.descLate p d = true →
        ∃ e, s.headDesc p q = some e ∧ dLaunch e ≠ 0 ∧ dLaunch e ≤ dLaunch d) ∧
      (s.now < s.dueAt p d → s.descLate p d = false →
        (∃ e, s.headDesc p q = some e ∧ dLaunch e ≠ 0 ∧ (s.dueAt p e ≤ s.now ∨ s.descLate p e = true)) ∨
        s.now + lineNs (s.portMbps p) (s.nextLen p q) ≤ s.dueAt p d)

/-- A frame is received on a port that runs, has a role and a link, in the order of R135: one over 16,383 bytes is only counted, a bad one
is counted once, and the frame's checks come before its filters. The codewords that FEC handled on a lane before it are counted first. -/
def Obligations.FramesAreReceivedInOrder : Prop :=
  (∀ (s : State) (dt p : Nat) (f : RxFrame), p < 26 → s.portRuns p = true → s.role p ≠ 0 → (s.port p).up = true →
    exec (.rxFrame dt p f) s = .next (State.ended s (((s.advance dt).noteFec p f).receive p f)) ∧
    (16383 < f.bytes.length → exec (.rxFrame dt p f) s = .next (State.ended s (((s.advance dt).noteFec p f).count Od.rxGiant 1 p))) ∧
    (f.bytes.length ≤ 16383 → f.pcsErr = true → s.reg Od.rxKeepBad p = 0 →
      exec (.rxFrame dt p f) s = .next (State.ended s (((s.advance dt).noteFec p f).count Od.rxPcsErr 1 p))) ∧
    (f.pcsErr = false → f.bytes.length < 64 → f.bytes.drop (f.bytes.length - 4) = natLE 4 (crc32 (f.bytes.take (f.bytes.length - 4))) →
      4 ≤ f.bytes.length → s.reg Od.rxKeepBad p = 0 →
      exec (.rxFrame dt p f) s = .next (State.ended s (((s.advance dt).noteFec p f).count Od.rxRunt 1 p)))) ∧
  (∀ (s : State) (dt p : Nat) (f : RxFrame), p < 26 → (s.portRuns p = false ∨ s.role p = 0 ∨ (s.port p).up = false) →
    exec (.rxFrame dt p f) s = .next (State.ended s (s.advance dt)))

/-- The basin: reception keeps it in canonical form; what is written to memory reads back, every other byte stays, and the memory stays
canonical (the representation is the model's, log entry 8). -/
def Obligations.MemoryStaysCanonical : Prop :=
  (∀ (s t : State) (dt p : Nat) (f : RxFrame), Memory.wf s.net.basin = true → exec (.rxFrame dt p f) s = .next t → Memory.wf t.net.basin = true) ∧
  (∀ (m : List Host.Cell) (a : Nat) (b : Bytes), Memory.wf m = true →
    Memory.wf (memWrite a b m) = true ∧ memRead a b.length (memWrite a b m) = b ∧
    ∀ x, (x < a ∨ a + b.length ≤ x) → memGet x (memWrite a b m) = memGet x m)

/-- Pause: it ends at its time, and the queue's late heads are handled; a queue held for PAUSE_LIMIT ends every pause of the port, counts
and is reported, and pause is ignored for as long again; then it is honoured anew. -/
def Obligations.PauseEndsAndIsOverridden : Prop :=
  (∀ (s : State) (p tc e st : Nat), p < 26 → s.alive = true → kvGet tc (s.port p).pause = some (e, st) →
    exec (.pauseExpire p tc) s = .next (State.ended s
      (((s.goTo e).setPort p { s.port p with pause := kvDel tc (s.port p).pause }).drainPort p))) ∧
  (∀ (s : State) (p tc e st : Nat), p < 26 → s.alive = true → kvGet tc (s.port p).pause = some (e, st) →
    let limit := s.reg Od.pauseLimit p * 1000
    let t := s.goTo (st + limit)
    st + limit ≤ e →
    let held := (s.port p).pause.foldl (fun m q => if t.now < q.2.1 then setBit m q.1 else m) (setBit 0 tc)
    exec (.pauseOverride p tc) s = .next (State.ended s
      (((t.setPort p { s.port p with pause := [], ignoreUntil := some (t.now + limit) }).count Od.pauseOverrides 1 p).raise 0x2404
        (natBE 2 p ++ natBE 1 held)))) ∧
  (∀ (s : State) (p t : Nat), p < 26 → (s.port p).ignoreUntil = some t →
    exec (.pauseIgnoreEnd p) s = .next (State.ended s ((s.goTo t).setPort p { s.port p with ignoreUntil := none })))

/-- Pounds: a write with credit adds one entry of 32 bytes and takes a credit of its producer slot; one without is refused, counted and
leaves every entry; a read takes the head, and what it returns is recorded; where the head is empty and entries wait in the spill, the read waits for their
burst, and the entries that burst loses are discarded (R264–R272). A sluice pin that has held its level for WIDTH shows its next pending transition (R275). -/
def Obligations.PoundsAndSluicesMove : Prop :=
  ((∀ (s : State) (dt pound slot prio : Nat) (data : Bytes), s.domOn 1 = true → pound < 4096 → slot < 8 → prio < 8 →
    exec (.poundWrite dt pound slot prio data) s = .next (State.ended s ((s.advance dt).writePound pound slot prio data).1)) ∧
  (∀ (s : State) (pound slot prio : Nat) (data : Bytes),
    let t := (s.writePound pound slot prio data).1
    if 0 < (s.pound pound).credits.getD slot 0 then
      (t.pound pound).entries = spill ((s.pound pound).entries ++ [{ producer := slot, prio := prio, data := padTo 32 data }]) ∧
      (t.pound pound).credits = modAt (s.pound pound).credits slot (· - 1)
    else
      (t.pound pound).entries = (s.pound pound).entries ∧ (t.pound pound).credits = (s.pound pound).credits ∧
      (t.pound pound).refusals = min ((s.pound pound).refusals + 1) 0xFFFFFFFF) ∧
  (∀ (s : State) (pound : Nat) (e : PEntry), (s.readPound pound).2 = some e → e ∈ (s.pound pound).entries ∧
    (∀ x ∈ (s.pound pound).entries, e.prio ≤ x.prio) ∧
    ((s.readPound pound).1.pound pound).entries.length + 1 = (s.pound pound).entries.length ∧
    ((s.readPound pound).1.pound pound).credits = modAt (s.pound pound).credits e.producer (· + 1)) ∧
  (∀ (es : List PEntry), (spill es).map (fun e => (e.producer, e.prio, e.data)) = es.map (fun e => (e.producer, e.prio, e.data)) ∧
    ((es.filter fun e => !e.spilled).length ≤ 33 → ((spill es).filter fun e => !e.spilled).length ≤ 32)) ∧
  (∀ (s : State) (dt pound : Nat) (headEmpty : Bool) (e : PEntry), s.domOn 1 = true → pound < 4096 →
    ¬(headEmpty = true ∧ (s.pound pound).headEmpty = true) → ((s.advance dt).readPound pound).2 = some e →
    exec (.poundRead dt pound headEmpty) s = .next (State.ended s
      (((s.advance dt).readPound pound).1.noteRead pound (e.producer * 8 + e.prio, e.data)))) ∧
  (∀ (s : State) (dt pound : Nat) (headEmpty : Bool), s.domOn 1 = true → pound < 4096 → (s.pound pound).entries = [] →
    exec (.poundRead dt pound headEmpty) s = .next (State.ended s
      (((s.advance dt).setPound pound { s.pound pound with underrun := true }).noteRead pound
        (match (s.pound pound).last with | some e => (e.producer * 8 + e.prio, e.data) | none => (0, List.replicate 32 0#8))))) ∧
  (∀ (s : State) (dt pound : Nat), s.domOn 1 = true → pound < 4096 → (s.pound pound).headEmpty = true →
    exec (.poundRead dt pound true) s = .next (State.ended s ((s.advance dt).setPound pound { s.pound pound with fetching := true }))) ∧
  (∀ (s : State) (dt pound bad : Nat), s.domOn 1 = true → (s.pound pound).fetching = true →
    let t := ((s.advance dt).setPound pound { s.pound pound with fetching := false }).discardSpilled pound bad
    exec (.spillFetchDone dt pound bad) s = .next (State.ended s
      (if (t.pound pound).entries.isEmpty then t.noteRead pound (t.pound pound).lastRead
        else (t.setPound pound { t.pound pound with entries := unspill 16 (t.pound pound).entries }).readOut pound)))) ∧
  (∀ (s : State) (dt pin : Nat), pin < 8 → s.domOn 1 = true →
    let t := s.advance dt
    let x := s.net.sluices.getD pin {}
    let width := u16 (sluiceRec s pin) 4 * 10
    (x.pending ≠ 0 → x.level ≠ 2 → x.since + width ≤ t.now →
      exec (.sluicePinUpdate dt pin) s = .next (State.ended s
        { t with net := { s.net with sluices := setAt s.net.sluices pin { level := 1 - x.level, since := t.now, pending := x.pending - 1 } } })) ∧
    (t.now < x.since + width → exec (.sluicePinUpdate dt pin) s = .next (State.ended s t)))

/-! ### Single writes that act at once (spec/04, 08, 10, 12–15, 17, 18, 20, 21) -/

/-- A write of one entry that the server takes and that passes R72 does what the entry's rule says and is answered: SELECT waits for the
next tick, SWITCH_AT holds a time within 86,400 s, DITHER_RESET waits for a frame, AGE_LEDGER waits for the tick, CELL_RETIRE and
CELL_RESTORE change a cell's state, the trim runs start, and RESTART is a warm start where the block is not shut. -/
def Obligations.WritesOfTimeCellsTrimAndPowerAct : Prop :=
  ∀ (s : State) (dt : Nat) (r : Req), s.takes r.src r.seq = true →
    let u := s.served dt
    let done (c : Instr) (w : WriteItem) (e : Eff) : Prop := exec c s = .next (State.ended s (answered r w e))
    (∀ v, v < 256 ^ Od.select.len → u.accepts r (Od.select.numItem 0 v) → done (.selectWrite dt r v) (Od.select.numItem 0 v)
      (effOk { u with tm := { u.tm with selectReq := if v = u.sel then none else some v } })) ∧
    (∀ time, time < 256 ^ Od.switchAt.len → u.accepts r (Od.switchAt.numItem 0 time) → done (.switchAtWrite dt r time) (Od.switchAt.numItem 0 time)
      (if time ≠ 0 ∧ (nsOfTime time < u.now ∨ u.now + 86400000000000 < nsOfTime time) then effNo u stRange
        else effOk (u.setReg Od.switchAt time))) ∧
    (u.accepts r (Od.ditherReset.numItem 0 0) → done (.ditherReset dt r) (Od.ditherReset.numItem 0 0)
      (effOk { u with col := { u.col with ditherReset := true } })) ∧
    (∀ value, u.accepts r (Od.ageLedger.item 0 value) true → done (.ageLedgerWrite dt r value) (Od.ageLedger.item 0 value)
      (effOk (u.pendWrite Od.ageLedger.key (itemVal Od.ageLedger (Od.ageLedger.item 0 value))))) ∧
    (∀ cell, cell < 136 → u.accepts r (Od.cellRetire.numItem 0 cell) → done (.cellRetire dt r cell) (Od.cellRetire.numItem 0 cell)
      (effOk (if (u.cell cell).state ≤ 1 then u.retireCell cell 2 else u))) ∧
    (∀ cell, cell < 136 → u.accepts r (Od.cellRestore.numItem 0 cell) → done (.cellRestore dt r cell) (Od.cellRestore.numItem 0 cell)
      (effOk (if 2 ≤ (u.cell cell).state then u.setCell cell { u.cell cell with restore := true } else u))) ∧
    (u.accepts r (Od.trimTRun.numItem 0 0) → done (.trimTRun dt r) (Od.trimTRun.numItem 0 0)
      (effOk (if u.trim.running then { u with trim := { u.trim with again := true } }
        else { u with trim := { u.trim with running := true } }))) ∧
    (∀ tag, tag < 256 ^ 8 → u.accepts r (Od.trimARun.numItem 0 tag) → done (.trimARun dt r tag) (Od.trimARun.numItem 0 tag) (u.trimARun tag r)) ∧
    (∀ tag, u.trimABusy = true → u.trimARun tag r = (u, stBusy, none)) ∧
    (u.accepts r (Od.restart.numItem 0 0) → u.pwr.warmLow = false → s.pwr.state = 2 ∨ s.pwr.state = 3 ∨ s.pwr.state = 4 →
      done (.restart dt r) (Od.restart.numItem 0 0) (effOk (u.warmStart 7)))

/-- The same of the link, the lamp ports, the strings and the raster: SEAL_ROLL_NOW starts the roll of a section SECTION_SEAL names,
RDM_QUEUE takes one record of at most 8, SENSE_CAPTURE marks every sensor of its group, RS_TIMING and RS_SCAN stand in the shadow, and
RS_COMMIT 1 is refused with RANGE where the shadow fails. -/
def Obligations.WritesOfLinkLampStringsAndRasterAct : Prop :=
  ∀ (s : State) (dt : Nat) (r : Req), s.takes r.src r.seq = true →
    let u := s.served dt
    let done (c : Instr) (w : WriteItem) (e : Eff) : Prop := exec c s = .next (State.ended s (answered r w e))
    (∀ n, n < 256 ^ 8 → u.accepts r (Od.sealRollNow.numItem 0 n) → done (.sealRollNow dt r n) (Od.sealRollNow.numItem 0 n)
      (if (u.sealOf n).isNone then effNo u stRange else effOk (u.startRoll u.linkCfg n u.zl.lastOrd))) ∧
    (∀ (sec : Seal) (n k : Nat), u.sealOf n = some sec → sec.rolling = true → u.startRoll u.linkCfg n k = u) ∧
    (∀ p value, p < 48 → u.accepts r (Od.rdmQueue.item p value) → done (.rdmQueueWrite dt r p value) (Od.rdmQueue.item p value)
      (if value.length ≠ 14 + u8 value 13 ∨ 231 < u8 value 13 ∨ ¬(u8 value 8 = 0x20 ∨ u8 value 8 = 0x30) then effNo u stRange
        else if 8 ≤ (u.lp p).rdmQ.length + b2n (u.lp p).rdmNow.isSome then effNo u stBusy
        else effOk (u.setLp p { u.lp p with rdmQ := (u.lp p).rdmQ ++ [{ bytes := value }] }))) ∧
    (∀ g, g < 256 ^ 8 → u.accepts r (Od.senseCapture.numItem 0 g) → done (.senseCapture dt r g) (Od.senseCapture.numItem 0 g)
      (effOk (u.setStrGroup g { u.strGroup g with capture := List.replicate 4 true }))) ∧
    (∀ value, value.length = 20 → u.accepts r (Od.rsTiming.item 0 value) → done (.rsShadowWrite dt r 0 value) (Od.rsTiming.item 0 value)
      (effOk ((u.writeRsShadow 0 value).noteJournal Od.rsTiming.key (itemVal Od.rsTiming (Od.rsTiming.item 0 value))))) ∧
    (∀ value, value.length = 16 → u.accepts r (Od.rsScan.item 0 value) → done (.rsShadowWrite dt r 1 value) (Od.rsScan.item 0 value)
      (effOk ((u.writeRsShadow 1 value).noteJournal Od.rsScan.key (itemVal Od.rsScan (Od.rsScan.item 0 value))))) ∧
    (∀ v, v < 256 ^ Od.rsCommit.len → u.accepts r (Od.rsCommit.numItem 0 v) → done (.rsCommit dt r v) (Od.rsCommit.numItem 0 v) (u.writeRsCommit v)) ∧
    (u.writeRsCommit 0 = (u.setReg Od.rsCommit 0, stOk, none)) ∧
    (rsCommitOk u.rsShadow.1 u.rsShadow.2 u.tl.rate (u.cfg Od.stillArea * 1048576) = false → (u.writeRsCommit 1).2.1 = stRange) ∧
    (rsCommitOk u.rsShadow.1 u.rsShadow.2 u.tl.rate (u.cfg Od.stillArea * 1048576) = true →
      u.writeRsCommit 1 = (u.setReg Od.rsCommit 1, stOk, none))

/-- TOW_COMMAND by R398's table: ACQUIRE asserts HOLD and claims, RELEASE leaves ACTIVE, HANDOVER waits for the next tick, CLEAR_FAULT
returns to STANDBY; each is refused with its status where its conditions do not hold. The partner's writes are taken by MIRROR rules. -/
def Obligations.TowpathCommandsFollowTheirTable : Prop :=
  ∀ (s : State) (dt : Nat) (r : Req), s.takes r.src r.seq = true →
    let u := s.served dt
    let done (c : Instr) (w : WriteItem) (e : Eff) : Prop := exec c s = .next (State.ended s (answered r w e))
    (u.accepts r (Od.towCommand.numItem 0 1) → done (.acquire dt r) (Od.towCommand.numItem 0 1)
      (if (u.tow.state = 1 ∨ u.tow.state = 4) ∧ (u.pwr.state = 2 ∨ u.pwr.state = 3) ∧ u.peerOn = false ∧ u.holdoff = false
        then effOk { u with tow := { u.tow with state := 2, hold := true, claimAt := u.now, rechecked := false, beaconWait := false
                                                epochWrite := none, backoffUntil := none } }
        else effNo u stBusy)) ∧
    (u.accepts r (Od.towCommand.numItem 0 2) → done (.release dt r) (Od.towCommand.numItem 0 2)
      (if u.tow.state = 3 then
        effOk ((({ u with tow := { u.tow with state := 1, hold := false, handover := false, epochWrite := none, calm := false
                                              holdoffUntil := some (u.now + u.reg Od.rearmHoldoff * 1000000000) } } : State).count
          Od.releases).raise 0xD002 [0])
        else effNo u stNotOwner)) ∧
    (u.accepts r (Od.towCommand.numItem 0 3) → done (.handover dt r) (Od.towCommand.numItem 0 3)
      (if u.tow.state ≠ 3 then effNo u stNotOwner
        else if u.partnerReady then effOk { u with tow := { u.tow with handover := true } } else effNo u stBusy)) ∧
    (u.accepts r (Od.towCommand.numItem 0 4) → done (.clearFault dt r) (Od.towCommand.numItem 0 4)
      (if u.tow.state = 5 ∨ u.tow.state = 6 then effOk { u with tow := { u.tow with state := 1 } } else effNo u stRange)) ∧
    (∀ b, b.length = 24 → u.accepts r (Od.peerBeacon.item 0 b) → done (.peerBeaconWrite dt r b) (Od.peerBeacon.item 0 b)
      (if u.fromPartner r.src (some (u16 b 0)) = false then effNo (u.count Od.mirrorRefused) stRange else u.takeBeacon r.src b)) ∧
    (∀ b, b.length = 32 → u.accepts r (Od.mirrorSmall.item 0 b) → done (.mirrorSmallWrite dt r b) (Od.mirrorSmall.item 0 b)
      (if u.fromPartner r.src (some (u16 b 0)) = false then effNo (u.count Od.mirrorRefused) stRange
        else
          let v : State := { u with tow := { u.tow with lastSmall := some u.now } }
          let e := max (u32 b 4) (u32 b 8)
          effOk (if u.nv.mirrored < e then { v with nv := { u.nv with mirrored := e }, trim := { u.trim with wear := u.trim.wear + 1 } } else v))) ∧
    (∀ b, u.accepts r (Od.mirrorTable.item 0 b) true → done (.mirrorTableWrite dt r b) (Od.mirrorTable.item 0 b) (u.takeMirror r.src b))

/-- Keys: a register of 32 bytes is being written from its write on and its reply waits for the write to finish; a second write meets BUSY;
KEY_LOAD loads its slot; KEY_INVALIDATE sends a slot and what hangs on it into GRACE, which ends at its tick (R413, R418, R422). The DRBG
runs after its start-up test, is reseeded after 4,096 requests or 600 s, stops on a failed health test and tries again a second later, at
most twice in a row (R425, R426); CHALLENGE answers identity, serial, version and epoch with an HMAC, or says why not (R427). -/
def Obligations.KeysAreWrittenAndKept : Prop :=
  (∀ (s : State) (dt : Nat) (r : Req), s.takes r.src r.seq = true →
    let u := s.served dt
    let done (c : Instr) (w : WriteItem) (e : Eff) : Prop := exec c s = .next (State.ended s (answered r w e))
    (∀ k value, k < 3 → let row := if k = 0 then Od.kek else if k = 1 then Od.attest else Od.update
      value.length = 32 → u.accepts r (row.item 0 value) →
      done (.keyRegisterWrite dt r k value) (row.item 0 value) (u.writeKeyReg k value r) ∧
      ((u.keyReg k).writing.isSome = true → u.writeKeyReg k value r = (u, stBusy, none)) ∧
      ((u.keyReg k).writing.isSome = false → (u.writeKeyReg k value r).2 = (stOk, some (1 + k)) ∧
        (k < u.keys.regs.length → ((u.writeKeyReg k value r).1.keyReg k).writing.isSome = true))) ∧
    (∀ value, value.length = 48 → u.accepts r (Od.keyLoad.item 0 value) → done (.keyLoad dt r value) (Od.keyLoad.item 0 value)
      ((u.keyLoad value).1, (u.keyLoad value).2, none)) ∧
    (∀ slot, slot < 256 ^ 8 → u.accepts r (Od.keyInvalidate.numItem 0 slot) → done (.keyInvalidate dt r slot) (Od.keyInvalidate.numItem 0 slot)
      (effOk (if (u.slot slot).state = 0 then u else u.invalidate slot false)))) ∧
  ((∀ (s : State) (dt i : Nat), s.alive = true → ([0, 1, 2] : List Nat).find? (fun i => (s.keyReg i).writing.isSome) = some i →
    i < s.keys.regs.length → ∃ u, exec (.keyRegisterWriteDone dt) s = .next u ∧ (u.keyReg i).writing = none ∧ (u.keyReg i) = (s.keyReg i).done ∧
      u.od.owed = (s.od.owed.map fun w => { w with waits := w.waits.filter (· != 1 + i) }).filter fun w => !w.waits.isEmpty) ∧
  (∀ (s : State) (slot : Nat) (g : Invalidation), s.keys.graces.find? (fun g => g.slot == slot) = some g →
    let t := (s.goTo (tickTime g.rate g.endTick)).endGrace g
    exec (.orphanGraceExpire slot) s = .next (State.ended s (t.zl.seals.foldl (fun t x => t.sealCheck t.linkCfg x.secNo) t))) ∧
  (∀ (s : State) (dt : Nat), s.domOn 12 = true →
    let t := s.advance dt
    (s.keys.drbg = 1 → exec (.drbgStartupTestDone dt) s = .next (State.ended s
      { t with keys := { s.keys with drbg := 2, requests := 0, seededAt := t.now, failures := 0 } })) ∧
    (s.keys.drbg = 2 → 4096 ≤ s.keys.requests ∨ s.keys.seededAt + 600000000000 ≤ t.now →
      exec (.drbgReseed dt) s = .next (State.ended s { t with keys := { s.keys with requests := 0, seededAt := t.now } })) ∧
    (∀ test, s.keys.drbg = 1 ∨ s.keys.drbg = 2 → exec (.drbgHealthFail dt test) s = .next (State.ended s
      ((({ t with keys := { s.keys with
            drbg := 3, failures := s.keys.failures + 1
            retryAt := if s.keys.failures + 1 < 3 then some (t.now + 1000000000) else none } } : State).count Od.drbgHealthFails).raise 0x9005
        (natBE 2 test ++ natBE 2 (s.keys.failures + 1)))))) ∧
  (∀ (s : State) (at_ : Nat), s.domOn 12 = true → s.keys.drbg = 3 → s.keys.retryAt = some at_ → exec .drbgRetry s =
    .next (State.ended s { s.goTo at_ with keys := { s.keys with drbg := 1, retryAt := none } })) ∧
  (∀ (s : State) (dt : Nat) (m : Msg), s.takesMsg 0xA m = true →
    let (t, st, p) := (s.served dt).challenge m.payload
    exec (.challenge dt m) s = .next (State.ended s (t.reply m.src 0xA m.seq st p))) ∧
  (∀ (s : State) (p : Bytes), (p.length ≠ 16 → (s.challenge p).2.1 = stRange) ∧
    (p.length = 16 → (s.keyReg 1).key? = none → (s.challenge p).2.1 = stKeyAbsent) ∧
    (∀ k, p.length = 16 → (s.keyReg 1).key? = some k → (s.keys.challenges.filter fun t => decide (s.now < t + 1000000000)).length < 64 →
      (s.challenge p).2 = (stOk, s.attested ++ hmac k (p ++ s.attested)))))

/-! ### Intake (spec/06) -/

/-- A video packet that matches a flow is taken by that flow's stream, part and path; a path and a stream that deliver nothing for
STREAM_TIMEOUT are lost and reported. Of the copies of one number only the first is written. -/
def Obligations.VideoIsMergedFirstCopyWins : Prop :=
  (∀ (s : State) (dt port : Nat) (p : VideoPkt), s.domOn 9 = true → s.portRuns port = true →
    (∀ r, (s.advance dt).flowOf port p = some r → exec (.videoPacket dt port p) s = .next (State.ended s ((s.advance dt).takeVideo r p))) ∧
    ((s.advance dt).flowOf port p = none → exec (.videoPacket dt port p) s = .next (State.ended s (s.advance dt)))) ∧
  (∀ (s : State) (r : Bytes) (p : VideoPkt) (f : Frame), s.reg Od.timelineState ≠ 0 →
    s.windowFrame (u8 r 0) (mediaCount s.now p.timestamp) = some f → f.cfg.bool (Od.strEnable.inst (u8 r 0)) = true →
    (u8 r 2 = 1 → f.cfg.bool (Od.strProtect.inst (u8 r 0)) = true) → videoOk f.cfg (u8 r 0) (u8 r 1) p = false →
    s.takeVideo r p = s.count (Od.strFormatErr.inst (u8 r 0))) ∧
  (∀ (s : State) (i part path path' seq : Nat) (protect protect' : Bool), i < 2 → i < s.intake.streams.length → part < (s.stream i).parts.length →
    seq < 2 ^ 32 → (s.merge i part path seq protect).2 = true → ((s.merge i part path seq protect).1.merge i part path' seq protect').2 = false) ∧
  (∀ (s : State) (i part path t : Nat), s.domOn 9 = true → ((s.part i part).paths.getD path {}).active = true →
    ((s.part i part).paths.getD path {}).lastRx = some t →
    exec (.pathTimeout i part path) s = .next (State.ended s
      (((s.goTo (t + s.reg (Od.strStreamTimeout.inst i) * 1000000)).setPart i part
        { s.part i part with paths := setAt (s.part i part).paths path { (s.part i part).paths.getD path {} with active := false } }).raise 0x3003
        (natBE 2 i ++ natBE 1 part ++ natBE 1 path)))) ∧
  (∀ (s : State) (i t : Nat), s.domOn 9 = true → (s.stream i).state = 2 → (s.stream i).lastAccept = some t →
    exec (.streamTimeout i) s = .next (State.ended s
      (((s.goTo (t + s.reg (Od.strStreamTimeout.inst i) * 1000000)).setStreamState i 3).raise 0x3001 (natBE 2 i))))

/-- sACN: a packet that is not sent to its universe's group or to the port is ignored, an ill-formed one and one of a universe SACN_IN does
not list are counted and dropped; any other is taken by its universe;
synchronisation merges what is pending; a source silent for its timeout is dropped and counted, and one whose synchronisation stops merges
freely. The merge takes, slot by slot, the highest value of the live sources of the highest priority, or the latest of those sources. -/
def Obligations.SacnSourcesAreMerged : Prop :=
  (∀ (s : State) (dt port : Nat) (p : SacnPkt), s.sacnTakes port p.dst p.univ = false →
    exec (.sacnDataPacket dt port p) s = .next (State.ended s (s.advance dt))) ∧
  (∀ (s : State) (dt port : Nat) (p : SacnPkt), s.domOn 9 = true → s.portRuns port = true → s.sacnTakes port p.dst p.univ = true →
    let t := s.advance dt
    (p.wellFormed = false ∨ 200 < p.priority ∨ 513 < p.count →
      exec (.sacnDataPacket dt port p) s = .next (State.ended s (t.count Od.sacnFormatErr))) ∧
    (p.wellFormed = true → p.priority ≤ 200 → p.count ≤ 513 →
      (s.sacnInRec p.univ = none → exec (.sacnDataPacket dt port p) s = .next (State.ended s (t.count Od.unknownUniv))) ∧
      (∀ r, s.sacnInRec p.univ = some r → exec (.sacnDataPacket dt port p) s = .next (State.ended s (t.sacnData p.univ p))))) ∧
  (∀ (s : State) (u : Nat) (p : SacnPkt),
    let x := s.univ u
    let seen := s.setUniv u { x with sources := x.sources.map fun a => if a.cid = p.cid then { a with lastRx := s.now } else a }
    (p.preview = true → s.sacnData u p = seen.count Od.previewDrops) ∧
    (p.preview = false → p.startCode ≠ 0 → s.sacnData u p = seen.count Od.startCodeDrops)) ∧
  (∀ (s : State) (dt port dst address seq cid : Nat), s.domOn 9 = true → s.portRuns port = true → s.sacnTakes port dst address = true →
    let t := s.advance dt
    let old := (s.intake.syncSeq.find? fun e => e.1 == address && e.2.1 == cid).map (·.2.2)
    let l := (s.intake.syncSeq.filter fun e => !(e.1 == address && e.2.1 == cid)) ++ [(address, cid, seq)]
    let merged := exec (.sacnSyncPacket dt ⟨port, dst⟩ address seq cid) s =
      .next (State.ended s (({ t with intake := { t.intake with syncSeq := l } }).sacnSync address))
    (old = none → merged) ∧
    (∀ q, old = some q →
      (-20 ≤ toS 8 (seq + 256 - q % 256) ∧ toS 8 (seq + 256 - q % 256) ≤ 0 →
        exec (.sacnSyncPacket dt ⟨port, dst⟩ address seq cid) s = .next (State.ended s (t.count Od.seqDrops))) ∧
      (¬(-20 ≤ toS 8 (seq + 256 - q % 256) ∧ toS 8 (seq + 256 - q % 256) ≤ 0) → merged))) ∧
  (∀ (s : State) (u cid : Nat) (a : SacnSource), s.domOn 9 = true → (s.univ u).sources.find? (fun a => a.cid == cid) = some a →
    exec (.sacnSourceTimeout u cid) s = .next (State.ended s
      (((s.goTo (a.lastRx + s.reg Od.sacnSourceTimeout * 1000000)).count Od.sourceLosses).dropSource u cid)) ∧
    (a.syncAddr ≠ 0 → a.freeRun = false →
      let t := s.goTo (a.syncSince + s.reg Od.sacnSyncTimeout * 1000000)
      exec (.sacnSyncTimeout u cid) s = .next (State.ended s
        (((t.setUniv u { s.univ u with sources := (s.univ u).sources.map fun b => if b.cid = cid then { b with freeRun := true } else b }).count
          Od.syncTimeouts).raise 0x3012 (natBE 2 a.syncAddr))))) ∧
  (∀ (x : UnivSt) (i : Nat), i < 512 → (x.sources.filter SacnSource.live) ≠ [] →
    let best (a : SacnSource) : Prop := a ∈ x.sources ∧ a.live = true ∧ ∀ b ∈ x.sources, b.live = true → b.priority ≤ a.priority
    (∀ a, best a → u8 a.slots i ≤ u8 (mergeUniv false x).slots i) ∧
    (∃ a, best a ∧ u8 (mergeUniv false x).slots i = u8 a.slots i) ∧
    (∃ a, best a ∧ (∀ b, best b → b.stamp ≤ a.stamp) ∧ (mergeUniv true x).slots = a.slots))

/-! ### The lock-keeper, cells, colour and the weir (spec/08–10) -/

/-- Barges: a submission is refused with its reason by the checks in their order, or enters the store; an idle cell that asks takes the next
number in order; a dispatch is charged against REMAINING, and never charges more than stands there; completions free their cell, a retired
barge's counts alone, and each does its barge's work; held yields and flights go on into their pounds. -/
def Obligations.BargesRunOnCells : Prop :=
  (∀ (s : State) (dt : Nat) (arms : List (Nat × Nat)) (bytes : Bytes), s.domOn 1 = true →
    let t := (s.advance dt).armAll arms
    let b := padTo 32 bytes
    let refused (reason : Nat) : Prop := exec (.bargeSubmit dt ⟨arms, bytes⟩) s =
      .next (State.ended s ((t.count Od.badBarges).raise 0x4002 (natBE 1 reason ++ natBE 1 (bType b) ++ natBE 2 (bFlight b))))
    let kind := 2 ≤ bClass b ∨ (bType b ≤ 4 ∧ 2 ≤ bKind b)
    let behind := bFlight b ≠ 0 ∧ 2 ^ 19 ≤ seqAhead (bSeq b) (t.flight (bFlight b)).next
    let full := 16384 ≤ (t.lk.barges.filter Barge.firmware).length
    (typeDefined (bType b) = false → refused 1) ∧
    (typeDefined (bType b) = true → kind → refused 2) ∧
    (typeDefined (bType b) = true → ¬kind → behind → refused 3) ∧
    (typeDefined (bType b) = true → ¬kind → ¬behind → full → refused 4) ∧
    (typeDefined (bType b) = true → ¬kind → ¬behind → ¬full →
      exec (.bargeSubmit dt ⟨arms, bytes⟩) s = .next (State.ended s (t.storeBarge b true 0).settle))) ∧
  (∀ (s : State) (dt cell n : Nat), s.cellIdle cell = true → (s.cell cell).asking = none →
    exec (.ask dt cell n) s = .next (State.ended s (((s.advance dt).count Od.cellEccCorr n).setLk { s.lk with
      cells := setAt s.lk.cells cell { s.cell cell with asking := some s.lk.askOrder }, askOrder := s.lk.askOrder + 1 }).settle)) ∧
  (∀ (s : State) (dt : Nat), s.domOn 1 = true →
    exec (.bargeDispatch dt) s = .next (State.ended s (s.advance dt).settle.dispatchOne.settle)) ∧
  (∀ s : State, s.dispatchOne.weir.remaining ≤ s.weir.remaining ∧
    s.dispatchOne.lk.spent + s.dispatchOne.weir.remaining = s.lk.spent + s.weir.remaining) ∧
  (∀ (s : State) (dt cell : Nat) (b : Barge),
    let t := s.advance dt
    (s.runs cell (· == 1) = some b → exec (.sampleComplete dt cell) s = .next (State.ended s
      (t.cellDone cell b (fun s => match s.frameOf b with
        | some f => s.setFrame (f.takeSamples b.unit (sampleValues f b.unit (bArg b.bytes)))
        | none => s) 0 []))) ∧
    (s.runs cell (· == 2) = some b → exec (.tallyComplete dt cell) s = .next (State.ended s
      (t.cellDone cell b (fun s => match s.frameOf b with
        | some f =>
          if f.forced.contains b.unit then s
          else s.setFrame { f with tally := kvSet b.unit (unitTally f s.strs.fixedG b.unit) f.tally }
        | none => s) 0 []))) ∧
    (s.runs cell (· == 3) = some b → exec (.weirComplete dt cell) s = .next (State.ended s
      (t.cellDone cell b (fun s => match s.frameOf b with | some f => s.weirJob f (bFeed b.bytes) | none => s) 0 []))) ∧
    (s.runs cell (· == 4) = some b → ∀ o f, s.frameOf b = some f → s.packOut f b = some o → exec (.packComplete dt cell) s =
      .next (State.ended s (t.cellDone cell b
        (fun s => s.setFrame (s.packStrip f b.unit o (bits (bArg b.bytes) 47 24) (bits (bArg b.bytes) 23 0))) (outPound f.cfg o)
        [natBE 4 (frameNo f.k) ++ natBE 28 (Config.packWord b.unit (bArg b.bytes))]))) ∧
    (∀ target entries, s.runs cell (decide <| 0x10 ≤ ·) = some b → bFlight b.bytes < 3584 →
      exec (.firmwareBargeComplete dt cell target entries) s = .next (State.ended s (t.cellDone cell b id target (entries.take 16))))) ∧
  (∀ (s : State) (b : Barge), b.firmware = false → s.frameOf b = s.tl.frames.find? fun f => f.k == b.frame) ∧
  (∀ (s : State) (c : Nat) (b : Barge) (work : State → State) (target : Nat) (es : List Bytes), b.place = 4 →
    s.cellDone c b work target es = ((s.freeCell c b).vacate (bFlight b.bytes)).count Od.staleCompletions) ∧
  (∀ (s : State) (dt : Nat), s.domOn 1 = true → exec (.yieldWrite dt) s = .next (State.ended s
    (s.lk.held.foldl State.writeHeld ((s.advance dt).setLk { s.lk with held := [] })).settle)) ∧
  (∀ (s t : State) (h : HeldYield) (left : List Bytes), s.writeEntries h.target 1 h.prio h.entries = (t, left) →
    (left = [] → s.writeHeld h = t.decDone h.ctr0 h.ctr1) ∧
    (left ≠ [] → s.writeHeld h = t.setLk { t.lk with held := t.lk.held ++ [{ h with entries := left }] })) ∧
  (∀ (s : State) (dt flight : Nat), s.domOn 1 = true → flight ≠ 0 →
    exec (.flightRelease dt flight) s = .next (State.ended s (((s.advance dt).runFlight flight).unparkFlight flight).settle))

/-- A cell faults at its time limit (cause 0), on an uncorrectable SRAM error (1) and on an illegal operation (2): the fault is counted and
reported, the cell is in reset until that is done, an SRAM error or too many faults retire it, as does a start's self-test that it fails, and its barge is retried once and then
abandoned. Delay lists act at their delay tick, the entries of all lists that come due together in the order of their insertion, and take at
most 4,096 entries. -/
def Obligations.CellsFaultAndDelayListsAct : Prop :=
  (∀ (s : State) (cell id : Nat), s.domOn (cellDomain cell) = true → (s.cell cell).running = some id →
    exec (.bargeTimeout cell) s = .next (State.ended s
      ((s.goTo ((s.cell cell).startedAt + s.reg Od.bargeLimit * 1000)).cellFault cell 0)) ∧
    ∀ dt, exec (.cellIllegalOp dt cell) s = .next (State.ended s ((s.advance dt).cellFault cell 2))) ∧
  (∀ (s : State) (dt cell : Nat), cell < 136 → (s.cell cell).state ≤ 1 → s.domOn (cellDomain cell) = true →
    exec (.cellSramError dt cell) s = .next (State.ended s ((s.advance dt).cellFault cell 1))) ∧
  (∀ (s : State) (dt cell : Nat), (s.cell cell).resetting = true →
    exec (.cellResetDone dt cell) s = .next (State.ended s ((s.advance dt).setCell cell { s.cell cell with resetting := false }))) ∧
  (∀ (s : State) (c : Nat), c < s.lk.cells.length → ((s.setCell c { s.cell c with resetting := false }).cell c).resetting = false) ∧
  (∀ (s : State) (c : Nat), s.domOn (cellDomain c) = true → (s.cell c).state ≤ 1 →
    s.testCell c = if s.pwr.selfTest.cells.contains c then s.retireCell c 3 else s) ∧
  (∀ (s : State) (c st : Nat), c < s.lk.cells.length → ((s.retireCell c st).cell c).state = st ∧
    (s.retireCell c st).trim.wear = s.trim.wear + 1) ∧
  (∀ (s : State) (b : Barge), bFlight b.bytes = 0 → b.place ≠ 4 →
    (b.faults = 0 → s.faultBarge b = ((s.setBarge { b with faults := 1 }).makeReady b.id true).count Od.bargeRetries) ∧
    (b.faults ≠ 0 → s.faultBarge b = ((s.dropBarge b.id).count Od.bargesAbandoned).raise 0x4005
      (natBE 1 (bType b.bytes) ++ natBE 2 0 ++ natBE 3 (bSeq b.bytes)))) ∧
  (∀ (s : State) (list : Nat) (e : Nat × Bytes) (rest : List (Nat × Bytes)), s.domOn 1 = true → s.listByFrame list = false →
    s.lk.delays.getD list [] = e :: rest →
    let first := (e :: rest).foldl (fun a x => min a (u64 x.2 0)) (u64 e.2 0)
    let t := s.goTo (ceilDiv (max first s.now) (s.reg Od.delayTick * 1000) * (s.reg Od.delayTick * 1000))
    exec (.delayEntryAct list) s = .next (State.ended s (t.actDue (fun l => !t.listByFrame l) fun x => decide (u64 x 0 ≤ t.now)))) ∧
  (∀ (s : State) (mine : Nat → Bool) (due : Bytes → Bool),
    let acts := (s.lk.delays.zipIdx.filter fun l => mine l.2).flatMap fun l => l.1.filter fun e => due e.2
    ∃ inOrder : List (Nat × Bytes), inOrder.Perm acts ∧ inOrder.Pairwise (fun a b => a.1 ≤ b.1) ∧
      s.actDue mine due = (s.setLk { s.lk with
        delays := (s.lk.delays.zipIdx.map (fun (l : List (Nat × Bytes) × Nat) => if mine l.2 then l.1.filter (fun e => !due e.2) else l.1)) }).actAll (inOrder.map (·.2))) ∧
  (∀ (s : State) (dt list : Nat) (e : Bytes), s.domOn 1 = true → list < 4 →
    let l := s.lk.delays.getD list []
    exec (.delayInsert dt list e) s = .next (State.ended s
      (if 4096 ≤ l.length then ((s.advance dt).count Od.delayFull).raiseOnce 0x4006 0 (natBE 1 list)
        else (s.advance dt).setLk { s.lk with
          delays := setAt s.lk.delays list (l ++ [(s.lk.nextDelay, putAt (padTo 16 e) 9 [0#8])]), nextDelay := s.lk.nextDelay + 1 })))

/-- Wear, ageing, calibration and heat: every 600 s the ledgers go to the settings store; every AGE_PERIOD the gains are recomputed where
AGE_EN is set; the oldest calibration page waiting is cached where the cache has room and reported where it has not.
A die temperature of TJ_THROTTLE or more lowers the clock level's speed by at most one step in 5 ms. -/
def Obligations.WearAndHeatAreKept : Prop :=
  (∀ s : State, s.alive = true →
    let t := s.goTo s.col.nextJournal
    exec .ledgerJournal s = .next (State.ended s
      { t with col := { t.col with nextJournal := t.now + 600000000000 }
               od := { t.od with journal := t.od.journal.setTab Od.ageLedger t.ageLedger } })) ∧
  (∀ s : State, s.domOn 1 = true →
    let t := s.goTo s.col.nextAge
    let u := { t with col := { t.col with nextAge := t.now + s.reg Od.agePeriod * 1000000000 } }
    exec .ageRecompute s = .next (State.ended s
      (if s.tl.newest.bool Od.ageEn then (ledgerUnits s.tl.newest).foldl State.ageUnit u else u))) ∧
  (∀ (e : Bytes) (c l : Nat), 16 * (16 * max (u16 e 8) 1) ≤ l → ageGainOf e c l = u16 e (10 + 2 * (17 * c + 16))) ∧
  (∀ (e : Bytes) (c i : Nat), i ≤ 16 → ageGainOf e c (i * (16 * max (u16 e 8) 1)) = u16 e (10 + 2 * (17 * c + i))) ∧
  (∀ (s : State) (dt target : Nat) (b : Bytes) (q : List (Nat × Bytes)), s.domOn 4 = true → s.col.calQueue = (target, b) :: q →
    ∃ t, exec (.calCacheWriteDone dt) s = .next t ∧ t.col.calQueue = q ∧
      (b.length ≤ s.calFree → (target, crc32c b, b) ∈ t.col.calCache ∧ t.col.calPages =
        s.col.calPages.map fun (p : Nat × Nat × Bool) => if p.1 = target then (p.1, p.2.1, true) else p) ∧
      (s.calFree < b.length → t.col.calCache = s.col.calCache ∧ t.col.calPages = s.col.calPages)) ∧
  (∀ (s : State) (temps : List Int), s.alive = true →
    ∃ t, exec (.dieTempSample temps) s = .next t ∧ t.now = max s.now s.pwr.nextDie ∧ t.pwr.nextDie = t.now + 1000000 ∧
      (∀ i < 12, (t.pwr.dieTemps.getD i (0, false)).1 = temps.getD i 0)) ∧
  (∀ s : State, s.weir.level < 3 → (s.reg Od.tjThrottle : Int) * 16 ≤ s.weir.tjHottest → s.weir.tjHottest < (s.reg Od.tjCrit : Int) * 16 →
    s.govern.weir.level = (match s.weir.lastDrop with
      | some d => if d + 5000000 ≤ s.now then s.weir.level + 1 else s.weir.level
      | none => s.weir.level + 1)) ∧
  (∀ s : State, (s.reg Od.tjCrit : Int) * 16 ≤ s.weir.tjHottest → s.govern.weir.crit = true ∧ s.govern.weir.level = 3)

/-! ### The tile link and the aqueduct (spec/12, spec/16) -/

/-- Tiles: an echo goes out to a tile that runs, is assigned or is lost, with the next identifier; a reply that matches none, or comes too
late, moves no δ; a HELLO and a RET are taken on a lane in the TILE role; a tile silent for TILE_TIMEOUT is LOST, counted and reported; a
PARAM goes out again at most once in 4 frames; the LATCH frames of a plan go out as it is fixed. -/
def Obligations.TilesAreMeasuredHeardAndLost : Prop :=
  (∀ (s : State) (tile : Nat) (r : Bytes), tileLinkRec s.linkCfg tile = some r →
    (s.tile tile).state = 1 ∨ (s.tile tile).state = 2 ∨ (s.tile tile).state = 3 → s.tileLane (linkLane r) = true →
    let t := s.tile tile
    let u := s.goTo t.nextEcho
    let id := s.zl.echoNext
    let next := if t.state = 1 then u.now + 1000000 else u.nextEchoAt tile (linkLane r) (s.reg Od.echoPeriod * 1000000)
    let v := { u with zl := { u.zl with echoNext := (id + 1) % 4096 } }
    exec (.echoSend tile) s = .next (State.ended s
      ((v.setTile tile { t with echoes := t.echoes ++ [(id, u.now, none)], nextEcho := next }).toTile s.linkCfg tile 1 false fun z =>
        { z with ty := 4, frame := s.reg Od.currentFrame, pay := natBE 2 id ++ List.replicate 14 0#8, tag := id, tsReq := true }))) ∧
  (∀ (s : State) (dt lane : Nat) (f : ZhFrame), s.tileLane lane = true →
    exec (.echoReplyRx dt lane f) s = .next (State.ended s ((s.advance dt).takeEcho lane f)) ∧
    exec (.helloRx dt lane f) s = .next (State.ended s ((s.advance dt).takeHello lane f)) ∧
    (∀ u, (s.advance dt).retFrame lane f = (u, none) → exec (.retRx dt lane f) s = .next (State.ended s u)) ∧
    (∀ u n q, (s.advance dt).retFrame lane f = (u, some (n, q)) →
      (∀ seq frame p last, (s.tile n).param = some (seq, frame, p, last) →
        let wait := u.aq.params.find? fun w => w.dst == n && w.tag == frame && w.msg.payload == p
        (wait = none → exec (.retRx dt lane f) s = .next (State.ended s u)) ∧
        (∀ w, wait = some w → exec (.retRx dt lane f) s = .next (State.ended s
          (({ u with aq := { u.aq with params := u.aq.params.erase w } } : State).aqDone w.msg)))))) ∧
  (∀ (t : Tile) (m : Int) (jump : Nat), t.window ≠ [] → (meanNs t.window + jump < m ∨ m + jump < meanNs t.window) → t.jumps.length < 2 →
    t.measure m jump = { t with jumps := t.jumps ++ [m] }) ∧
  (∀ (t : Tile) (m : Int) (jump : Nat), t.window = [] ∨ (meanNs t.window ≤ m + jump ∧ m ≤ meanNs t.window + jump) → t.window.length ≤ 8 →
    let w := (t.window ++ [m]).drop (t.window.length - 7)
    t.measure m jump = { t with
      window := w, jumps := [], accepted := t.accepted + 1, delta := if 4 ≤ t.accepted + 1 then meanNs w else t.delta }) ∧
  (∀ (s : State) (tile id sent : Nat) (cap : Option (Nat × Nat)) (rest : List (Nat × Nat × Option (Nat × Nat))), s.alive = true →
    (s.tile tile).echoes = (id, sent, cap) :: rest →
    exec (.echoTimeout tile) s = .next (State.ended s
      (((s.goTo (sent + 10000000)).setTile tile { s.tile tile with echoes := rest }).count Od.echoDiscarded))) ∧
  (∀ (s : State) (tile : Nat), s.alive = true → (s.tile tile).state = 2 →
    exec (.tileTimeout tile) s = .next (State.ended s
      ((((s.goTo ((s.tile tile).lastHeard + s.reg Od.tileTimeout * 1000000)).setTile tile { s.tile tile with state := 3 }).count
        Od.tileLosses).raise 0x5003 (natBE 2 tile)))) ∧
  (∀ (s : State) (tile seq frame last : Nat) (p : Bytes), s.alive = true → (s.tile tile).param = some (seq, frame, p, last) →
    let now := s.reg Od.currentFrame
    (4 ≤ (now + 2 ^ 32 - last) % 2 ^ 32 → exec (.paramResend tile) s = .next (State.ended s
      ((s.setTile tile { s.tile tile with param := some (seq, frame, p, now) }).sendParam tile frame p))) ∧
    ((now + 2 ^ 32 - last) % 2 ^ 32 < 4 → exec (.paramResend tile) s = .next (State.ended s s))) ∧
  (∀ (s : State) (lane : Nat) (l m : LanePlan), s.zl.plans.find? (fun l => l.lane == lane && !l.fixed) = some l →
    let cfg := match s.tl.frames.find? (fun f => f.k == l.frame) with | some f => f.cfg | none => s.linkCfg
    let bad := l.tiles.filter fun x => !x.hold && x.pix != 0 && x.pix != 2
    let t := (s.goTo (l.sLane - cfg.num Od.latchGap / 2)).linkHold lane l.frame (fun x => !x.hold && x.pix != 0 && x.pix != 2)
      ((bad.map PlanTile.pix).headD 255)
    t.zl.plans.find? (fun m => m.lane == lane && m.frame == l.frame) = some m →
    exec (.latchFixup lane) s = .next (State.ended s
      (({ t with zl := { t.zl with plans := t.zl.plans.map fun x => if x.lane = lane ∧ x.frame = l.frame then { x with fixed := true } else x } } :
        State).sendLatches cfg m)))

/-- The aqueduct: the oldest message of a peer goes out where none is in flight; a reply from that peer with its SEQ ends the wait and
decides the message; one that does not come is sent again AQ_RETRIES times, and then the device is unreachable; a route's PARAM not
acknowledged in AQ_PARAM_FRAMES fails. -/
def Obligations.RoutedMessagesAreForwardedOnce : Prop :=
  (∀ (s : State) (dt device : Nat) (m : AqMsg) (rest : List AqMsg), s.domOn 1 = true → (s.aqPeer device).inFlight = none →
    (s.aqPeer device).queue = m :: rest →
    let x := s.aqPeer device
    let t := s.advance dt
    exec (.aqForwardSend dt device) s = .next (State.ended s
      (((t.setPeer device { x with queue := rest, inFlight := some m, resends := 0, deadline := t.now + s.reg Od.aqTimeout * 1000000 }).sendFar
        device m x.seq).count Od.aqForwarded))) ∧
  (∀ (s : State) (dt port d : Nat) (src : Src) (bytes : Bytes) (x : AqPeer) (m : AqMsg), s.domOn 1 = true →
    (s.aq.peers.find? fun p => match s.farDst p.1 with
      | some d => d.addr == src.addr && d.udp == src.udp && d.port == port
      | none => false) = some (d, x) → x.inFlight = some m →
    16 ≤ bytes.length → u16 bytes 0 = 0x4F44 → u8 bytes 2 = 1 → u8 bytes 3 = 128 + m.cmd → u16 bytes 10 = (bytes.drop 16).length →
    (u16 bytes 4 = x.seq → exec (.aqReplyRx dt port src bytes) s = .next (State.ended s
      (((s.advance dt).setPeer d { x with inFlight := none, seq := (x.seq + 1) % 65536, unreachable := false }).farAnswer m (u16 bytes 8)
        (bytes.drop 16)))) ∧
    (u16 bytes 4 ≠ x.seq → exec (.aqReplyRx dt port src bytes) s = .next (State.ended s (s.advance dt)))) ∧
  (∀ (s : State) (device : Nat) (m : AqMsg), s.domOn 1 = true → (s.aqPeer device).inFlight = some m →
    let x := s.aqPeer device
    let t := s.goTo x.deadline
    (x.resends < s.reg Od.aqRetries → exec (.aqTimeout device) s = .next (State.ended s
      ((t.setPeer device { x with resends := x.resends + 1, deadline := t.now + s.reg Od.aqTimeout * 1000000 }).sendFar device m x.seq))) ∧
    (s.reg Od.aqRetries ≤ x.resends → ∃ u, exec (.aqTimeout device) s = .next (State.ended s u) ∧
      (u.aqPeer device).inFlight = none ∧ (u.aqPeer device).unreachable = true ∧
      u.reg Od.aqTimeouts = Od.aqTimeouts.counted (s.reg Od.aqTimeouts) 1)) ∧
  (∀ (s : State) (tile : Nat) (w : AqWait), s.domOn 1 = true → s.aq.params.find? (fun w => w.dst == tile) = some w →
    let t := s.goTo (tickTime s.tl.rate w.deadline)
    exec (.aqParamTimeout tile) s = .next (State.ended s
      (({ t with aq := { t.aq with params := t.aq.params.erase w } } : State).aqFails w.msg 1 0)))

/-! ### Lamp ports (spec/13) -/

/-- Chains, DMX, RDM and matrix groups while PD_LAMP is on and the gate is open: the return window of a chain closes with the result of
what came back and CHAIN_FAIL results in a row raise or end its fault; a DMX packet carries the newest launched slots; an RDM request goes
out in the gap and ends with a result record or is sent again; a scan starts on its grid with the newest launched image. -/
def Obligations.LampPortsDriveTheirFixtures : Prop :=
  (∀ (s : State) (p at_ loop : Nat) (bits : List Bool), p < 48 → p < s.lamp.ports.length → s.lampRuns p 1 = true → (s.lp p).window = some at_ →
    let x := s.lp p
    let res := chainResult bits
    let good := if res = 0 then x.goodRun + 1 else 0
    let bad := if res = 0 then 0 else x.badRun + 1
    ∃ u, exec (.chainReturnWindowClose p bits loop) s = .next (State.ended s u) ∧ u.now = max s.now at_ ∧ (u.lp p).window = none ∧
      (u.lp p).lastResult = res ∧ (u.lp p).goodRun = good ∧ (u.lp p).badRun = bad ∧
      (u.lp p).fault = (if x.fault = false ∧ s.reg Od.chainFail ≤ bad then true else if x.fault = true ∧ s.reg Od.chainFail ≤ good then false else x.fault) ∧
      (res = 0 → (u.lp p).measured = chainLeds x.sentRec ∧ (u.lp p).loops = pushLast 8 x.loops (5 * (loop : Int) - 4 * (u16 x.sentRec 10 : Int)) ∧
        u.reg Od.chainCheckFails p = s.reg Od.chainCheckFails p) ∧
      (res ≠ 0 → u.reg Od.chainCheckFails p = Od.chainCheckFails.counted (s.reg Od.chainCheckFails p) 1)) ∧
  (∀ l : List Bool, (chainResult l = 0 ↔ l = markerBits) ∧ (chainResult l = 3 ↔ l = []) ∧
    (chainResult l = 2 ↔ l ≠ [] ∧ l.length < 16) ∧
    (chainResult l = 1 ↔ 16 < l.length ∧ l.drop (l.length - 16) = markerBits)) ∧
  (∀ (s : State) (p : Nat), p < 48 → p < s.lamp.ports.length → s.lampRuns p 2 = true → s.gate = true → (s.lp p).rdmNow = none →
    let x := s.lp p
    let t := if x.busy = 0 then s else s.goTo x.busyEnd
    let r := dmxRec s.tl.pres p
    let slots := match x.launched with | some (_, b) => padTo (dmxSlots r) b | none => List.replicate (dmxSlots r) 0#8
    ∃ u, exec (.dmxPacketStart p) s = .next (State.ended s u) ∧ u.now = t.now ∧ (u.lp p).busy = 2 ∧
      (u.lp p).busyEnd = t.now + dmxTime r (dmxSlots r) ∧ (u.lp p).packet = slots ∧ (u.lp p).carried = true ∧
      u.lamp.lines = { port := p, kind := 2, start := t.now, rec_ := r, bytes := 0#8 :: slots } :: s.lamp.lines ∧
      u.reg Od.dmxPackets p = Od.dmxPackets.counted (s.reg Od.dmxPackets p) 1) ∧
  (∀ (s : State) (dt p : Nat) (q : RdmReq) (rest : List RdmReq), p < 48 → p < s.lamp.ports.length → s.lampRuns p 2 = true → s.gate = true →
    bit (u8 (dmxRec s.tl.pres p) 12) 0 = true → (s.lp p).rdmNow = none → u8 (dmxRec s.tl.pres p) 13 ≤ (s.lp p).sinceRdm → (s.lp p).rdmQ = q :: rest →
    ∃ u, exec (.rdmTransaction dt p) s = .next (State.ended s u) ∧ u.now = max (s.now + dt) (s.lp p).busyEnd ∧ (u.lp p).rdmQ = rest ∧
      u.lamp.lines = { port := p, kind := 3, start := u.now, rec_ := dmxRec s.tl.pres p, bytes := rdmPacket q.bytes s.fresh } :: s.lamp.lines ∧
      (u.lp p).rdmNow = (if rdmBroadcast (rdmDest q.bytes) then none else some { q with tries := q.tries + 1 })) ∧
  (∀ (s : State) (dt p : Nat) (b : Bytes), p < 48 → s.lampRuns p 2 = true → s.gate = true →
    ∀ t rec_, (s.advance dt).rdmTakes p b = (t, rec_) → exec (.rdmResponseRx dt p b) s = .next (State.ended s (t.rdmDone p (s.lp p).rdmNow rec_))) ∧
  (∀ (s : State) (p : Nat) (b : Bytes) (q : RdmReq), (s.lp p).rdmNow = some q →
    (rdmGood b = true →
      let rec_ := rdmResult (rdmTag q.bytes) (u8 b 16) (if u8 b 16 = 1 ∨ u8 b 16 = 2 then u16 (slice b 24 (u8 b 23)) 0 else 0) (slice b 24 (u8 b 23))
      s.rdmTakes p b = (s.rdmFinish p rec_, some rec_)) ∧
    (rdmGood b = false → s.reg Od.rdmRetries < q.tries →
      s.rdmTakes p b = ((s.count Od.rdmBad 1 p).rdmFinish p (rdmResult (rdmTag q.bytes) 5 0 []), some (rdmResult (rdmTag q.bytes) 5 0 []))) ∧
    (rdmGood b = false → q.tries ≤ s.reg Od.rdmRetries →
      s.rdmTakes p b = ((s.count Od.rdmBad 1 p).setLp p
        { s.lp p with rdmNow := none, rdmQ := q :: (s.lp p).rdmQ, busyEnd := s.now + 176000, sinceRdm := 0 }, none))) ∧
  (∀ (s : State) (p : Nat), p < 48 → s.lampRuns p 2 = true → s.gate = true → (s.lp p).rdmNow.isSome = true →
    ∀ t rec_, ((s.goTo ((s.lp p).busyEnd + 2800000)).count Od.rdmTimeouts 1 p).rdmFails p 4 = (t, rec_) →
      exec (.rdmTimeout p) s = .next (State.ended s (t.rdmDone p (s.lp p).rdmNow rec_))) ∧
  (∀ (s : State) (p : Nat) (uids : List Nat), p < 48 → p < s.lamp.ports.length → s.lampRuns p 2 = true → s.gate = true →
    bit (u8 (dmxRec s.tl.pres p) 12) 0 = true → bit (u8 (dmxRec s.tl.pres p) 12) 1 = true →
    let x := s.lp p
    let found := uids.eraseDups
    let old := x.uids.map fun (u : Nat × Nat) => if found.contains u.1 then (u.1, 0) else (u.1, u.2 + 1)
    let stay := old.filter fun u => decide (u.2 < 2)
    let new := found.filter fun u => !(x.uids.any fun o => o.1 == u)
    ∃ u, exec (.rdmDiscovery p uids) s = .next (State.ended s u) ∧ u.now = max s.now x.nextDisc ∧
      (u.lp p).uids = stay ++ (new.take (512 - stay.length)).map (fun u => (u, 0)) ∧
      (u.lp p).nextDisc = u.now + s.reg Od.rdmDiscPeriod * 1000000000) ∧
  (∀ (s : State) (g : Nat) (status : List Nat), g < 8 → g < s.lamp.groups.length → s.domOn 10 = true → s.gate = true →
    let (k, m) := s.nextScan g
    let r := matrixRec (s.periodCfg k) g
    u8 r 0 = 1 →
    let x := s.mg g
    ∃ u, exec (.matrixScanStart g status) s = .next (State.ended s u) ∧
      u.now = max s.now (scanStart s.gridRate (mxRefresh r) k m) ∧
      (u.mg g).shown = (if (m = 0 ∨ x.nextAt ≤ u.now) ∧ x.next.isSome = true then x.next else x.shown) ∧
      (u.mg g).next = (if m = 0 ∨ x.nextAt ≤ u.now then none else x.next) ∧
      (u.mg g).after = scanStart s.gridRate (mxRefresh r) k m + 1)

/-! ### Strings and the raster (spec/14, spec/15) -/

/-- The strings while PD_LAMP is on and the gate is open: a period starts on its grid, d_on early, after the last test of the period before
it, with the reference and the pulses of its plan, LPnA on where the controller is OK and LPnB on where it has a pulse; a sample feeds the
measurement of d_on, and one within a pulse moves the loop, whose duty stays between DUTY_MIN and DUTY_MAX; while another string of its
converter measures, a string keeps its last sample; a stage fault stops the stage; a retry clears the fault where its test is clean and
counts otherwise; a burst ends in the measurement of each channel, which moves a gain by at most one step; a thermistor's last 16 samples
are kept, and it derates between T_DERATE and T_MAX. -/
def Obligations.StringsFollowTheirLoops : Prop :=
  (∀ (s : State) (n : Nat), n < 16 → n < s.strs.ctl.length → s.domOn 10 = true → s.gate = true →
    let km := s.nextPeriod n
    let st := s.periodCfg km.1
    let tp := s.periodAt km
    u8 (stringCfg st n) 0 = 1 →
    let w := (s.stringTest n).goTo (tp.1 - ((s.stringTest n).str n).don)
    let c0 := w.enableStr st n (w.str n)
    let c := w.heatStr st n (if c0.soft then c0.softStart (stringCfg st n) else c0)
    let plan := planPeriod st c n km.1 km.2 tp.1 tp.2
      (ceilDiv (tickTime s.gridRate (km.1 + 1) - tickTime s.gridRate km.1) (max (st.num Od.dimPeriods) 1))
    ∃ u, exec (.dimPeriodStart n) s = .next (State.ended s u) ∧ u.now = w.now ∧ (u.str n).enabled = true ∧ (u.str n).state = c.state ∧
      (u.str n).iRef = plan.iRef ∧ (u.str n).rise = plan.rise ∧ (u.str n).steps = plan.steps ∧ (u.str n).rise2 = plan.rise2 ∧
      (u.str n).steps2 = plan.steps2 ∧ (u.str n).pinA = (if c.state = 0 then 1 else 0) ∧
      (u.str n).pinB = (if plan.steps = 0 ∧ plan.steps2 = 0 then 0 else 1) ∧ (u.str n).after = tp.1 + 1) ∧
  (∀ (s : State) (dt n code vcode : Nat), n < 16 → code ≤ 16383 → vcode ≤ 16383 → u8 (stringCfg s.tl.pres n) 0 = 1 → s.domOn 10 = true →
    s.gate = true → (s.str n).state = 0 →
    ((s.advance dt).converterTaken n = true → exec (.currentSample dt n code vcode) s = .next (State.ended s (s.advance dt))) ∧
    ((s.advance dt).converterTaken n = false →
      let c := (s.str n).sampleDon n (s.advance dt).now code
      let t := (s.advance dt).setStr n c
      let inPulse (rise steps : Nat) : Prop := rise + 1000 ≤ t.now ∧ 4 * t.now < 4 * rise + 5 * steps
      let last (rise steps : Nat) : Prop := inPulse rise steps ∧ 4 * rise + 5 * steps ≤ 4 * (t.now + 1000)
      let v := t.setStr n { (c.loop (stringCfg s.tl.pres n) code) with vMeas := vcode }
      (¬inPulse c.rise c.steps → ¬inPulse c.rise2 c.steps2 → exec (.currentSample dt n code vcode) s = .next (State.ended s t)) ∧
      (inPulse c.rise c.steps ∨ inPulse c.rise2 c.steps2 →
        ((last c.rise c.steps ∧ c.steps2 = 0) ∨ last c.rise2 c.steps2 →
          exec (.currentSample dt n code vcode) s = .next (State.ended s (v.stringTest n))) ∧
        (¬((last c.rise c.steps ∧ c.steps2 = 0) ∨ last c.rise2 c.steps2) →
          (last c.rise c.steps ∧ 1600 ≤ c.steps → exec (.currentSample dt n code vcode) s = .next (State.ended s
            (((v.setStr n { (c.loop (stringCfg s.tl.pres n) code) with vMeas := vcode, gives := true }).stringTest n).keepGives n c.gives))) ∧
          (¬(last c.rise c.steps ∧ 1600 ≤ c.steps) → exec (.currentSample dt n code vcode) s = .next (State.ended s v)))))) ∧
  (∀ (c : StringSt) (cfg : Bytes) (code : Nat), u16 cfg 12 ≤ u16 cfg 14 →
    u16 cfg 12 ≤ (c.loop cfg code).duty ∧ (c.loop cfg code).duty ≤ u16 cfg 14 ∧ (c.loop cfg code).iMeas = code) ∧
  (∀ (s : State) (dt n : Nat), n < 16 → u8 (stringCfg s.tl.pres n) 0 = 1 → s.domOn 10 = true →
    let t := s.advance dt
    ((s.str n).state = 0 → exec (.stageFault dt n) s = .next (State.ended s
      (((t.setStr n { s.str n with state := 3, opens := 0, shorts := 0, steps := 0, steps2 := 0, untested := false, pinA := 0, pinB := 0
                                   measure := none
                                   retryAt := t.now + s.reg Od.retryPeriod * 1000000 }).count Od.stageFaults).raise 0x6401
        (natBE 2 n ++ natBE 1 3)))) ∧
    ((s.str n).state ≠ 0 → exec (.stageFault dt n) s = .next (State.ended s
      (t.setStr n { s.str n with pinA := 0, pinB := 0, steps := 0, steps2 := 0 })))) ∧
  (∀ (s : State) (n code vcode : Nat), n < 16 → u8 (stringCfg s.tl.pres n) 0 = 1 → s.domOn 10 = true → s.gate = true →
    1 ≤ (s.str n).state → (s.str n).state ≤ 3 →
    let cfg := stringCfg s.tl.pres n
    let u := s.goTo (s.str n).retryAt
    let t := u.goTo ((u.periodAt (u.nextPeriod n)).1 - (s.str n).don)
    let c := { (({ s.str n with iRef := u16 cfg 4 } : StringSt).softStart cfg).loop cfg code with
      vMeas := vcode, untested := false, soft := true, retryAt := u.now + s.reg Od.retryPeriod * 1000000 }
    (c.test cfg = 0 → exec (.stringRetry n code vcode) s = .next (State.ended s
      ((t.setStr n { c with state := 0, opens := 0, shorts := 0 }).raise 0x6402 (natBE 2 n)))) ∧
    (c.test cfg ≠ 0 → exec (.stringRetry n code vcode) s = .next (State.ended s ((t.setStr n c).count Od.retryFails)))) ∧
  (∀ (s : State) (g : Nat) (dark : Nat × Nat) (lit : List (Nat × Nat)) (b : List Nat), g < 16 → g < s.strs.groups.length → s.domOn 10 = true →
    s.gate = true → (s.strGroup g).burst = some b →
    let r := slice (s.tl.pres.tab Od.stringGroup) (8 * g) 8
    let v := (List.range (u8 r 0)).foldl (fun t ch => t.senseChannel g ch (u8 r 5) (b.getD ch 0) (senseValue dark (lit.getD ch (0, 0))))
      (s.goTo (s.strGroup g).burstEnd)
    exec (.senseBurstDone g dark lit) s = .next (State.ended s (v.setStrGroup g { v.strGroup g with burst := none }))) ∧
  (∀ g target step : Nat, gainNext g target step ≤ g + step ∧ g ≤ gainNext g target step + step ∧
    (g ≤ target + step → target ≤ g + step → gainNext g target step = target)) ∧
  (∀ (s : State) (dt i code : Nat), i < 4 → i < s.strs.ntcs.length → code ≤ 16383 → s.domOn 10 = true →
    ∃ u, exec (.ntcSample dt i code) s = .next (State.ended s u) ∧ (u.ntc i).samples = pushLast 16 (s.ntc i).samples code ∧
      (u.ntc i).fault = (ntcTemp (s.od.regs.recs Od.ntcTable) ({ s.ntc i with samples := pushLast 16 (s.ntc i).samples code } : Ntc).mean).isNone ∧
      u.now = s.now + dt) ∧
  (∀ (r : Bytes) (t : Int), s16 r 0 < s16 r 2 →
    (t ≤ s16 r 0 → derateOf r t = 32768) ∧ (s16 r 2 ≤ t → derateOf r t = u16 r 4) ∧
    (u16 r 4 ≤ 32768 → u16 r 4 ≤ derateOf r t ∧ derateOf r t ≤ 32768))

/-- The raster while PD_RASTER is on and RASTER_EN is set: a frame starts on its grid, and its pins are driven and it is counted
while the gate is open (log entry 114); the latch line takes
the shadow set where RS_COMMIT reads 1, and RS_COMMIT reads 0 again, and a new frame rate once its grid runs; relocking ends with PLL lock
or 2 ms after it began; underruns are counted and reported at
most once a tick. -/
def Obligations.RasterFramesLatchTheirSettings : Prop :=
  (∀ s : State, s.rasterScans = true → s.ras.relock = none →
    let r := s.ras
    let (k, m) := s.nextRaster
    let start := rasterStart r.timing r.rate k m
    let shown := if (m = 0 ∨ r.nextAt ≤ start) ∧ r.next.isSome = true then r.next else r.shown
    let t : State := { s.goTo start with ras := { r with
      shown := shown, next := if m = 0 ∨ r.nextAt ≤ start then none else r.next
      content := if r.black then 0 else if u8 r.scan 0 = 1 then 2 else if shown.isSome then 1 else 0
      black := false, frameStart := start, inFrame := true
      after := start + 1
      pins := if s.gate = true then [1, if u8 r.scan 2 = 1 then 1 else 0] else [0, 0] } }
    exec .rasterFrameStart s = .next (State.ended s (if s.gate = true then t.count Od.framesOut else t))) ∧
  (∀ (s : State) (t : Nat), s.rasterScans = true → s.ras.relock = some t → ∃ u, exec .rasterFrameStart s = .next (State.ended s u) ∧
    u.ras.relock = none ∧ t + 2000000 ≤ u.now ∧ u.ras.inFrame = true) ∧
  (∀ s : State, s.rasterScans = true → s.ras.inFrame = true →
    let t := s.goTo s.ras.latchAt
    let due := s.ras.rateChange && t.gridRate == s.tl.rate
    let rate := if due then s.tl.rate else s.ras.rate
    let u := { t with ras := { t.ras with inFrame := false, rateChange := s.ras.rateChange && !due } }
    (s.reg Od.rsCommit = 1 → exec .rasterLatchLine s = .next (State.ended s
      (((u.setReg Od.rsCommit 0).count Od.commitsLatched).latchRaster s.rsShadow.1 s.rsShadow.2 rate))) ∧
    (s.reg Od.rsCommit ≠ 1 → exec .rasterLatchLine s = .next (State.ended s (u.latchRaster s.ras.timing s.ras.scan rate)))) ∧
  (∀ (s : State) (t c : Bytes) (rate : Nat), (s.latchRaster t c rate).ras.timing = t ∧ (s.latchRaster t c rate).ras.scan = c ∧
    (t ≠ s.ras.timing → (s.latchRaster t c rate).ras.black = true ∧
      (s.latchRaster t c rate).reg Od.modeChanges = Od.modeChanges.counted (s.reg Od.modeChanges) 1)) ∧
  (∀ (s : State) (dt : Nat), s.domOn 11 = true → exec (.rasterPllLocked dt) s = .next (State.ended s
    { s.advance dt with ras := { s.ras with relock := none } })) ∧
  (∀ (s : State) (dt output px : Nat), s.rasterOn = true → output < 2 → px ≠ 0 →
    let t := ((s.advance dt).count Od.underrunPx px).count Od.underrunLines
    (s.ras.eventTick = some s.tl.nextTick → exec (.rasterUnderrun dt output px) s = .next (State.ended s
      { t with ras := { s.ras with lines := s.ras.lines + 1 } })) ∧
    (s.ras.eventTick ≠ some s.tl.nextTick → exec (.rasterUnderrun dt output px) s = .next (State.ended s
      (({ t with ras := { s.ras with lines := 0, eventTick := some s.tl.nextTick } } : State).raise 0xC001 (natBE 4 (s.ras.lines + 1))))))

/-! ### The towpath and the mirror (spec/17) -/

/-- A claim: it begins when R393's conditions hold and asserts HOLD; the re-check 50 µs later fails it where TOW_PEER_N is asserted; once
the new epoch is written the unit is ACTIVE; the back-off and the hold-off end at their times; both lines at once are a conflict that
TOW_PRI high gives way to. -/
def Obligations.ClaimsTakeTheTowpath : Prop :=
  (∀ s : State, s.tow.state = 1 ∨ s.tow.state = 4 → s.alive = true → s.reg Od.autoAcquire = 1 → s.peerOn = false → s.holdoff = false →
    s.reg Od.timelineState = 1 ∨ s.tow.state = 4 → s.pwr.state = 2 ∨ s.pwr.state = 3 ∨ s.pwr.state = 4 →
    let t := s.goTo (max (if s.pair then s.tow.peerSince + 500000 else s.now) (s.tow.backoffUntil.getD 0))
    exec .towClaimStart s = .next (State.ended s { t with tow := { s.tow with
      state := 2, hold := true, claimAt := t.now, rechecked := false, beaconWait := false, epochWrite := none, backoffUntil := none } })) ∧
  (∀ s : State, s.tow.state = 2 → s.tow.rechecked = false → s.alive = true →
    let t := s.goTo (s.tow.claimAt + 50000)
    (s.peerOn = true → ∃ u, exec .towClaimRecheck s = .next u ∧ u.tow.hold = false ∧
      u.tow.state = (if s.pwr.state = 3 then 4 else 1) ∧ u.tow.attempts = s.tow.attempts + 1 ∧
      u.tow.backoffUntil = some (t.now + crc32c (natBE 16 Config.serial ++ natBE 4 (s.tow.attempts + 1)) % 1024 * 1000)) ∧
    (s.peerOn = false → s.tow.epochWrite = none → ∃ u, exec .towClaimRecheck s = .next u ∧
      (s.tow.lastBeacon = none ∨ s.pair = false → u.tow.state = 2 ∧ u.tow.hold = s.tow.hold ∧ u.tow.rechecked = true ∧
        u.tow.epochWrite = some s.newEpoch) ∧
      (∀ b at_, s.tow.lastBeacon = some (b, at_) → s.pair = true →
        (s.tow.peerSince < beaconSent b → beaconGate b = true → u.tow.state = 6 ∧ u.tow.hold = false ∧
          u.reg Od.wireFaults = Od.wireFaults.counted (s.reg Od.wireFaults) 1) ∧
        (s.tow.peerSince < beaconSent b → beaconGate b = false → u.tow.state = 2 ∧ u.tow.epochWrite = some s.newEpoch) ∧
        (beaconSent b ≤ s.tow.peerSince → s.tow.beaconRecent = true → u.tow.state = 2 ∧ u.tow.beaconWait = true ∧ u.tow.epochWrite = none) ∧
        (beaconSent b ≤ s.tow.peerSince → s.tow.beaconRecent = false → u.tow.state = 2 ∧ u.tow.epochWrite = some s.newEpoch)))) ∧
  (∀ s : State, s.newEpoch = (max s.nv.epoch (max s.nv.mirrored s.nv.highest) + 1) % 2 ^ 32) ∧
  (∀ s : State, s.tow.state = 2 → s.tow.beaconWait = true → s.alive = true → ∃ u, exec .beaconWaitTimeout s = .next u ∧
    u.now = max s.now (s.tow.peerSince + 3 * s.reg Od.beaconPeriod * 1000000) ∧ u.tow.beaconWait = false ∧
    u.tow.epochWrite = some s.newEpoch) ∧
  (∀ (s : State) (dt e : Nat), s.alive = true → s.tow.epochWrite = some e →
    (s.tow.state = 2 → ∃ u, exec (.epochWriteDone dt) s = .next u ∧ u.tow.state = 3 ∧ u.nv.epoch = e ∧ u.tow.attempts = 0 ∧
      u.tow.epochWrite = none ∧ u.nv.epochs.read.1 = natBE 4 e ∧ (s.pwr.state ≠ 3 → u.reg Od.takeovers = Od.takeovers.counted (s.reg Od.takeovers) 1)) ∧
    (s.tow.state = 3 → ∃ u, exec (.epochWriteDone dt) s = .next u ∧ u.tow.state = 3 ∧ u.nv.epoch = e ∧ u.tow.epochWrite = none ∧
      u.reg Od.epochAdvances = Od.epochAdvances.counted (s.reg Od.epochAdvances) 1)) ∧
  (∀ (s : State) (t : Nat), s.tow.backoffUntil = some t → exec .claimBackoffExpire s =
    .next (State.ended s { s.goTo t with tow := { s.tow with backoffUntil := none } })) ∧
  (∀ (s : State) (t : Nat), s.tow.holdoffUntil = some t → exec .holdoffExpire s =
    .next (State.ended s { s.goTo t with tow := { s.tow with holdoffUntil := none } })) ∧
  (∀ (s : State) (dt : Nat), s.alive = true → s.tow.peer = false →
    (s.pair = true → s.tow.hold = true → s.strap 1 = true → ∃ u, exec (.peerAssert dt) s = .next u ∧ u.tow.peer = true ∧
      u.reg Od.claimConflicts = Od.claimConflicts.counted (s.reg Od.claimConflicts) 1 ∧
      (s.tow.state = 2 ∨ s.tow.state = 3 → u.tow.hold = false ∧ u.tow.state ≠ 2 ∧ u.tow.state ≠ 3)) ∧
    (s.pair = false ∨ s.tow.hold = false ∨ s.strap 1 = false → ∃ u, exec (.peerAssert dt) s = .next u ∧ u.tow.peer = true ∧
      u.tow.hold = s.tow.hold ∧ u.tow.state = s.tow.state ∧ u.tow.peerSince = s.now + dt)) ∧
  (∀ (s : State) (dt : Nat), s.alive = true → s.tow.peer = true → ∃ u, exec (.peerDeassert dt) s = .next u ∧ u.tow.peer = false ∧
    u.tow.peerSince = s.now + dt ∧ u.tow.state = s.tow.state ∧ u.tow.hold = s.tow.hold)

/-- Beacons and the mirror: a beacon goes out every BEACON_PERIOD in pair operation, MIRROR_SMALL every second and the ledgers every 600 s
from the ACTIVE unit; no beacon for three periods is a lost link; parts that do not all arrive in 10 s are dropped and counted; a part not
answered goes out again up to three times and then the mirror is stale. -/
def Obligations.TheMirrorKeepsThePartnerInformed : Prop :=
  (∀ s : State, s.alive = true → s.pair = true →
    let t := (s.goTo s.tow.nextBeacon).sendBeacon
    exec .beaconSend s = .next (State.ended s { t with tow := { t.tow with nextBeacon := t.now + s.reg Od.beaconPeriod * 1000000 } })) ∧
  (∀ s : State, s.tow.state = 3 → s.pair = true → s.alive = true →
    let t := s.goTo s.tow.nextSmall
    let u := t.toPartner 2 Od.mirrorSmall.key 13 t.smallRecord
    exec .mirrorSmallSend s = .next (State.ended s { u with tow := { u.tow with nextSmall := u.now + 1000000000 } })) ∧
  (∀ s : State, s.tow.state = 3 → s.pair = true → s.alive = true →
    let t := s.goTo s.tow.nextLedger
    let u := t.mirrorSend [(Od.ageLedger.key, t.ageLedger)] (s.reg Od.boundFrame) t.now
    exec .ageLedgerMirrorSend s = .next (State.ended s { u with tow := { u.tow with nextLedger := u.now + 600000000000 } })) ∧
  (∀ s : State, s.alive = true → s.pair = true → s.tow.linkLost = false →
    let u := s.goTo (s.beaconSince + 3 * s.reg Od.beaconPeriod * 1000000)
    exec .peerLinkLost s = .next (State.ended s
      ((({ u with tow := { u.tow with linkLost := true } } : State).setReg Od.mirrorStale 1).raise 0xD006 (natBE 2 (s.reg Od.pairPartner))))) ∧
  (∀ (s : State) (p : MirrorPart) (rest : List MirrorPart), s.tow.parts = p :: rest →
    let t := s.goTo (p.first + 10000000000)
    exec .mirrorPartsExpire s = .next (State.ended s
      (({ t with tow := { t.tow with parts := s.tow.parts.filter (fun q => q.tag != p.tag) } } : State).count Od.mirrorIncomplete))) ∧
  (∀ (s : State) (dt : Nat) (m : MirrorOut) (rest : List MirrorOut), s.alive = true → s.tow.unanswered = m :: rest →
    (m.resends < 3 → exec (.mirrorPartNotAnswered dt) s = .next (State.ended s
      { (s.advance dt).sendPart m with tow := { ((s.advance dt).sendPart m).tow with unanswered := rest ++ [{ m with resends := m.resends + 1 }] } })) ∧
    (3 ≤ m.resends → exec (.mirrorPartNotAnswered dt) s = .next (State.ended s
      ((({ s.advance dt with tow := { s.tow with unanswered := rest } } : State).setReg Od.mirrorStale 1).raise 0xD008
        (natBE 2 (m.key / 256) ++ natBE 1 m.key ++ natBE 2 m.tag)))))

/-! ### Keys, the DRBG and updates (spec/18, spec/19) -/

/-- Updates: the six UPDATE messages are executed as they arrive and answered; a session is erased SESSION_LIFE days after it was opened; an
activation waits for its tick and then puts the staged image on trial; a trial is confirmed after 30 s of calm, or by UPDATE_CONFIRM, and
what is confirmed raises the floor, and the boot record in eNVM follows; a trial not confirmed in its window has failed a try; a start whose image slot fails its checks loads
the previous one (log entry 122), and none without a usable flash. -/
def Obligations.UpdatesAreStagedTriedAndConfirmed : Prop :=
  (∀ (s : State) (dt : Nat) (m : Msg),
    let u := s.served dt
    let answer (cmd : Nat) (t : State) (st : Nat) (p : Bytes) : Host.Outcome State Fault Refusal := .next (State.ended s (t.reply m.src cmd m.seq st p))
    (s.takesMsg 0x10 m = true → let (t, st, p) := u.updateOpen m.payload; exec (.updateOpen dt m) s = answer 0x10 t st p) ∧
    (s.takesMsg 0x11 m = true → let (t, st, p) := u.updatePiece m.payload; exec (.updatePiece dt m) s = answer 0x11 t st p) ∧
    (s.takesMsg 0x12 m = true → let (t, st, p) := u.updateFinish m.payload; exec (.updateFinish dt m) s = answer 0x12 t st p) ∧
    (s.takesMsg 0x13 m = true → let (t, st) := u.updateActivate m.payload; exec (.updateActivate dt m) s = answer 0x13 t st []) ∧
    (s.takesMsg 0x14 m = true → m.payload = [] → exec (.updateConfirm dt m) s = answer 0x14 u.confirmTrial stOk []) ∧
    (s.takesMsg 0x14 m = true → m.payload ≠ [] → exec (.updateConfirm dt m) s = answer 0x14 u stType []) ∧
    (s.takesMsg 0x15 m = true → let (t, st) := u.updateAbort m.payload; exec (.updateAbort dt m) s = answer 0x15 t st [])) ∧
  (∀ (s : State) (p : Bytes), (p.length ≠ 516 → (s.updateOpen p).1 = s ∧ (s.updateOpen p).2.1 = stType) ∧
    (p.length = 516 → (s.updateOpen p).2.1 ≠ stOk → (s.updateOpen p).1.upd = s.upd ∧
      (s.updateOpen p).1.reg Od.headersRefused = Od.headersRefused.counted (s.reg Od.headersRefused) 1)) ∧
  (∀ (s : State) (p : Bytes), (p.length ≠ 16 → s.updateActivate p = (s, stType)) ∧
    (p.length = 16 → s.staged? = none → s.updateActivate p = (s, stNotStaged))) ∧
  (∀ (s : State) (x : Session), s.upd.session = some x → s.alive = true → s.reg Od.timeSet ≠ 0 →
    exec .updateSessionExpire s = .next (State.ended s
      ((s.goTo (x.opened + s.reg Od.sessionLife * 86400000000000)).eraseSession.raise 0xA005 (natBE 4 x.held.length)))) ∧
  (∀ (s : State) (a : Activation) (i : Nat), s.upd.activation = some a → s.staged? = some i → s.pwr.state = 2 →
    let t := if a.handing then s else s.goTo (tickTime s.tl.rate (tickFrom s.tl.rate a.at_))
    exec .updateActivation s = .next (State.ended s (t.actOnActivation a i)) ∧
    (a.handing = false → bit a.flags 0 = false → t.actOnActivation a i = t.activate i) ∧
    (a.handing = false → bit a.flags 0 = true → t.cmdHandover.2.1 ≠ stOk → (t.actOnActivation a i).upd = { t.upd with activation := none })) ∧
  (∀ (s : State) (t : Nat), s.upd.trial = true → s.upd.calmSince = some t → s.reg Od.autoConfirm = 1 → s.reg Od.timelineState = 1 →
    exec .autoConfirm s = .next (State.ended s (s.goTo (t + 30000000000)).confirmTrial)) ∧
  (∀ s : State, s.upd.trial = true → s.confirmTrial.upd.trial = false ∧
    s.confirmTrial.upd.floor = max s.upd.floor (s.image s.upd.running).rollback ∧ s.upd.floor ≤ s.confirmTrial.upd.floor ∧
    s.confirmTrial.upd.running = s.upd.running) ∧
  (∀ s : State, s.upd.trial = false → s.confirmTrial = s) ∧
  (∀ (s : State) (t : Nat), s.upd.tryStart = some t → s.upd.trial = true → s.alive = true →
    exec .confirmWindowExpire s = .next (State.ended s (s.goTo (t + s.reg Od.confirmWindow * 1000000000)).failedTry)) ∧
  (∀ s : State, (3 ≤ (s.image s.upd.running).tries → s.failedTry = s.fallBack 2) ∧
    ((s.image s.upd.running).tries < 3 → s.failedTry = (s.setImage s.upd.running
      { s.image s.upd.running with tries := max (s.image s.upd.running).tries 1 + 1 }).writeBoot.serviceRestart)) ∧
  (∀ s : State, s.writeBoot.nv.boot.read.1 = natBE 1 s.upd.running ++ natBE 1 (b2n s.upd.trial) ++ natBE 1 (s.image s.upd.running).tries) ∧
  (∀ s : State, (s.image (1 - s.upd.running)).state = 5 ∨ (s.image (1 - s.upd.running)).state = 4 → s.upd.floor ≤ (s.image (1 - s.upd.running)).rollback →
    (∀ x ∈ (s.pwr.selfTests.headD {}).slots, x.1 = s.upd.running) → (s.pwr.selfTests.headD {}).slots ≠ [] → 64 ≤ s.pwr.flashMiB → s.upd.running < 2 →
    s.chooseImage.2 = 1 ∧ s.chooseImage.1.upd.running = 1 - s.upd.running ∧ s.chooseImage.1.upd.trial = false) ∧
  (∀ s : State, (∀ x ∈ (s.pwr.selfTests.headD {}).slots, x.1 ≠ s.upd.running) → 64 ≤ s.pwr.flashMiB →
    s.chooseImage.2 = 0 ∧ s.chooseImage.1.upd = s.upd) ∧
  (∀ s : State, s.pwr.flashMiB < 64 → s.chooseImage.2 = 2)

/-! ### Trim, the lengthsman, power and reset (spec/20, spec/21) -/

/-- Trim and wear: a run that is done hands its figures to the next tick and the run asked for meanwhile follows; a class A run is stored
and its reply leaves; every second the life ledger, the history and the largest temperature move on; the ledgers go to eNVM every 600 s;
corrected DRAM errors are summed over an hour. -/
def Obligations.TrimAndWearAreKept : Prop :=
  (∀ (s : State) (dt : Nat), s.domOn 1 = true → s.trim.running = true → ∃ u, exec (.trimTRunDone dt) s = .next u ∧
    u.trim.running = s.trim.again ∧ u.trim.again = false ∧ u.trim.runs = s.trim.runs + 1 ∧ u.trim.waiting = some s.trim.runs ∧
    u.trim.next = s.trimRun s.trim.runs ∧ u.trim.lastTj = s.weir.tjHottest ∧ u.trim.lastTime = s.now + dt) ∧
  (∀ (s : State) (dt tag at_ : Nat) (q : Req), s.domOn 1 = true → s.trim.aRun = some (tag, at_, q) → ∃ u, exec (.trimARunDone dt) s = .next u ∧
    u.trim.aRun = none ∧ u.trim.aGen = s.trim.aGen + 1 ∧ u.trim.aState = 1 ∧ u.trim.wear = s.trim.wear + 1 ∧
    u.od.owed = (s.od.owed.map fun w => { w with waits := w.waits.filter (· != 4) }).filter fun w => !w.waits.isEmpty) ∧
  (∀ s : State, s.alive = true → ∃ u, exec .lengthsmanSecond s = .next u ∧ u.now = max s.now s.trim.nextSecond ∧
    u.trim.life = s.trim.life + Config.lifeStep s.secondTj ∧ u.trim.seconds = s.trim.seconds + 1 ∧
    u.trim.hist = modAt s.trim.hist (tjBin s.secondTj) (· + 1) ∧ u.trim.nextSecond = s.trim.nextSecond + 1000000000 ∧
    u.trim.tjMax = some (match s.trim.tjMax with | some m => max m s.secondTj | none => s.secondTj)) ∧
  (∀ s : State, s.alive = true → exec .lifeLedgerWrite s = .next (State.ended s
    { s.goTo s.trim.nextLedger with trim := { s.trim with
      lifeSaved := s.trim.life, secondsSaved := s.trim.seconds, histSaved := s.trim.hist, tjMaxSaved := s.trim.tjMax, wear := s.trim.wear + 1
      nextLedger := s.trim.nextLedger + 600000000000 } })) ∧
  (∀ (s : State) (n : Nat), s.alive = true →
    let l := pushLast 60 s.trim.ddr (if s.domOn 4 then n else 0)
    let sum := l.foldl (· + ·) 0
    ∃ u, exec (.ddrCeStep n) s = .next u ∧ u.now = max s.now s.trim.nextDdr ∧ u.trim.ddr = l ∧ u.reg Od.ddrCeHour = min sum (2 ^ 32 - 1) ∧
      u.trim.ddrCause = (s.trim.ddrCause || decide (s.reg Od.ddrCeLimit < sum)))

/-- Reset and power: PORST_N holds the whole device, keeping what flash and eNVM hold (of two copies the newer whole one is read, and a write
that is torn leaves it); its release with the rails in tolerance starts AO from
the straps, and with one below its monitor's limit ends in the brown-out state; WARM_N releases HOLD, then starts the domains with cause 2; a dip of VDDAO or VDDIO resets everything and its end starts AO; a
brown-out holds the domains until the rails are back; a shut-down for heat is latched until it has cooled; a domain comes on or faults; the
watchdogs and a changed strap do what R473 and R476 say. -/
def Obligations.ResetsAndPowerAct : Prop :=
  (∀ (s : State) (dt : Nat), exec (.porst dt) s = .next (State.ended s ((s.advance dt).coldReset 1)) ∧
    exec (.powerOnReset dt) s = .next (State.ended s ((s.advance dt).coldReset 0))) ∧
  (∀ (s : State) (c : Nat), (s.coldReset c).pwr.state = 0 ∧ (s.coldReset c).pwr.cause = c ∧ (s.coldReset c).now = 0 ∧
    (s.coldReset c).gate = false ∧ (s.coldReset c).od.regs = {} ∧ (s.coldReset c).od.journal = s.od.journal ∧
    (s.coldReset c).nv.epoch = beNat (s.nv.epochs.tear s.tow.epochWrite.isSome).read.1 ∧ (s.coldReset c).upd.running = u8 s.nv.boot.read.1 0 ∧
    (s.coldReset c).upd.floor = beNat s.nv.floors.read.1 ∧ (s.coldReset c).trim.life = s.trim.lifeSaved) ∧
  (∀ (n : Copies) (v : Bytes), (n.write v).read.1 = v ∧ (n.a ≠ none → n.b ≠ none → (n.tear true).read = n.read)) ∧
  (∀ (s : State) (dt straps : Nat), s.pwr.state = 0 → s.pwr.cause = 1 → s.pwr.railsOk = true →
    exec (.porstRelease dt straps true) s = .next (State.ended s ((s.advance dt).bootAO (straps % 16)))) ∧
  (∀ (s : State) (dt straps : Nat) (good : Bool), s.pwr.state = 0 → s.pwr.cause = 1 → s.pwr.railsOk = false →
    exec (.porstRelease dt straps good) s = .next (State.ended s ((s.advance dt).bootHeld (straps % 16)))) ∧
  (∀ (s : State) (dt : Nat), s.pwr.state = 0 → s.pwr.cause = 0 → exec (.powerOnResetEnd dt) s = .next (State.ended s
    (({ s.advance dt with pwr := { s.pwr with railsOk := true } } : State).bootAO s.pwr.strapLive))) ∧
  (∀ (s : State) (straps : Nat), (s.bootAO straps).reg Od.straps = straps) ∧
  (∀ (s : State) (dt : Nat), s.pwr.state ≠ 0 → s.pwr.state ≠ 5 → s.pwr.state ≠ 6 → s.pwr.warmLow = false →
    let t := ((s.advance dt).dropHold 5).flushJournal.allLost
    exec (.warmAssert dt) s = .next (State.ended s { t with pwr := { t.pwr with warmLow := true } })) ∧
  (∀ (s : State) (dt : Nat), s.pwr.warmLow = true → exec (.warmStart dt) s = .next (State.ended s ((s.advance dt).warmStart 2))) ∧
  (∀ (s : State) (dt rail : Nat), s.pwr.state = 1 ∨ s.pwr.state = 2 ∨ s.pwr.state = 4 ∨ (s.pwr.state = 3 ∧ s.pwr.railsEn = true) →
    let t := (({ s.advance dt with pwr := { s.pwr with railsOk := false, brownRail := rail } } : State).dropHold 5).flushJournal.allLost
    exec (.brownOut dt rail) s = .next (State.ended s { t with pwr := { t.pwr with state := 6, warmLow := false } })) ∧
  (∀ (s : State) (dt rail : Nat), s.pwr.state = 0 ∨ 5 ≤ s.pwr.state ∧ s.pwr.state ≤ 8 ∨ (s.pwr.state = 3 ∧ s.pwr.railsEn = false) →
    exec (.brownOut dt rail) s = .next (State.ended s { s.advance dt with pwr := { s.pwr with railsOk := false, brownRail := rail } })) ∧
  (∀ (s : State) (dt : Nat), s.pwr.state ≠ 6 →
    exec (.brownOutRecovery dt) s = .next (State.ended s { s.advance dt with pwr := { s.pwr with railsOk := true } })) ∧
  (∀ (s : State) (dt : Nat), s.pwr.state = 6 → exec (.brownOutRecovery dt) s = .next (State.ended s
    (((({ s.advance dt with pwr := { s.pwr with railsOk := true } } : State).warmStart 4).count Od.brownOuts).raise 0xE002 (natBE 1 s.pwr.brownRail)))) ∧
  (∀ (s : State) (dt : Nat), s.alive = true → s.pwr.state ≠ 5 → ∃ u, exec (.tjShut dt) s = .next u ∧ u.pwr.state = 5 ∧ u.pwr.shutLatched = true ∧
    u.tow.hold = false ∧ u.gate = false ∧ u.nv.shutdowns = min (s.nv.shutdowns + 1) 65535 ∧ ∀ d, 1 ≤ d → d ≤ 12 → u.domOn d = false) ∧
  (∀ (s : State) (t : Nat), s.pwr.state = 5 → s.pwr.shutLatched = true → s.pwr.coolSince = some t →
    let u := s.goTo (t + 10000000000)
    let v := { u with pwr := { u.pwr with shutLatched := false, coolSince := none } }
    exec .shutdownCool s = .next (State.ended s (if s.reg Od.shutAutoRestart = 1 then v.thermalStart else v))) ∧
  (∀ (s : State) (dt d : Nat), s.alive = true → s.pwr.doms.getD d 0 = 2 → s.pwr.warmLow = false →
    exec (.domainPowerGood dt d) s = .next (State.ended s ((s.advance dt).domainOn d).startCheck)) ∧
  (∀ (s : State) (d : Nat), s.alive = true → s.pwr.doms.getD d 0 = 2 → exec (.domainFault d) s = .next (State.ended s
    ((((s.goTo (s.pwr.onAt.getD d 0 + 5000000)).setDomState d 3).raise 0xE008 (natBE 1 d)).startCheck.ptpChecks))) ∧
  (∀ (s : State) (dt core : Nat), s.domOn 1 = true →
    exec (.cpWatchdog dt core) s = .next (State.ended s ((s.advance dt).coreHung core))) ∧
  (∀ (s : State) (core : Nat), s.upd.trial = false → (s.pwr.wdStarts.filter fun t => decide (s.now < t + 600000000000)).length + 1 < s.reg Od.wdStormLimit →
    s.coreHung core = State.warmStart { s.raise 0xE003 (natBE 1 core) with pwr := { s.pwr with
      wdStarts := (s.pwr.wdStarts.filter fun t => decide (s.now < t + 600000000000)) ++ [s.now] } } 3) ∧
  (∀ (s : State) (dt : Nat), s.alive = true → exec (.supervisorWatchdog dt) s = .next (State.ended s
    (({ s.advance dt with tow := { s.tow with nextBeacon := max s.tow.nextBeacon ((s.advance dt).now + 10000000) } } : State).raise 0xE004))) ∧
  (∀ (s : State) (dt k : Nat) (level : Bool), s.alive = true → k < 4 →
    let live := if level then setBit s.pwr.strapLive k else clrBit s.pwr.strapLive k
    let t := { s.advance dt with pwr := { s.pwr with strapLive := live } }
    (level = s.strap k → exec (.strapChanged dt k level) s = .next (State.ended s
      { t with pwr := { t.pwr with strapRaised := s.pwr.strapRaised.filter (· != k) } })) ∧
    (level ≠ s.strap k → s.pwr.strapRaised.contains k = true → exec (.strapChanged dt k level) s = .next (State.ended s t)) ∧
    (level ≠ s.strap k → s.pwr.strapRaised.contains k = false → exec (.strapChanged dt k level) s = .next (State.ended s
      (({ t with pwr := { t.pwr with strapRaised := k :: s.pwr.strapRaised } } : State).raise 0xE005 (natBE 1 (s.reg Od.straps) ++ natBE 1 live)))))
end

