-- ==== Sys2Proof/Laws/State.lean ====
section
/-!
SUPPORT. What each update of the state leaves: one lemma per field per update, and what the update sets.
-/
namespace Sys2Proof.Machine

@[simp] theorem State.setReg_tl (s : State) (r : OdRow) (v i : Nat) : (s.setReg r v i).tl = s.tl := rfl
@[simp] theorem State.setReg_tm (s : State) (r : OdRow) (v i : Nat) : (s.setReg r v i).tm = s.tm := rfl
@[simp] theorem State.setReg_net (s : State) (r : OdRow) (v i : Nat) : (s.setReg r v i).net = s.net := rfl
@[simp] theorem State.setReg_intake (s : State) (r : OdRow) (v i : Nat) : (s.setReg r v i).intake = s.intake := rfl
@[simp] theorem State.setReg_lk (s : State) (r : OdRow) (v i : Nat) : (s.setReg r v i).lk = s.lk := rfl
@[simp] theorem State.setReg_tow (s : State) (r : OdRow) (v i : Nat) : (s.setReg r v i).tow = s.tow := rfl
@[simp] theorem State.setReg_pwr (s : State) (r : OdRow) (v i : Nat) : (s.setReg r v i).pwr = s.pwr := rfl
@[simp] theorem State.setReg_col (s : State) (r : OdRow) (v i : Nat) : (s.setReg r v i).col = s.col := rfl
@[simp] theorem State.setReg_weir (s : State) (r : OdRow) (v i : Nat) : (s.setReg r v i).weir = s.weir := rfl
@[simp] theorem State.setReg_zl (s : State) (r : OdRow) (v i : Nat) : (s.setReg r v i).zl = s.zl := rfl
@[simp] theorem State.setReg_lamp (s : State) (r : OdRow) (v i : Nat) : (s.setReg r v i).lamp = s.lamp := rfl
@[simp] theorem State.setReg_strs (s : State) (r : OdRow) (v i : Nat) : (s.setReg r v i).strs = s.strs := rfl
@[simp] theorem State.setReg_ras (s : State) (r : OdRow) (v i : Nat) : (s.setReg r v i).ras = s.ras := rfl
@[simp] theorem State.setReg_aq (s : State) (r : OdRow) (v i : Nat) : (s.setReg r v i).aq = s.aq := rfl
@[simp] theorem State.setReg_keys (s : State) (r : OdRow) (v i : Nat) : (s.setReg r v i).keys = s.keys := rfl
@[simp] theorem State.setReg_upd (s : State) (r : OdRow) (v i : Nat) : (s.setReg r v i).upd = s.upd := rfl
@[simp] theorem State.setReg_trim (s : State) (r : OdRow) (v i : Nat) : (s.setReg r v i).trim = s.trim := rfl
@[simp] theorem State.setReg_nv (s : State) (r : OdRow) (v i : Nat) : (s.setReg r v i).nv = s.nv := rfl
@[simp] theorem State.setReg_fresh (s : State) (r : OdRow) (v i : Nat) : (s.setReg r v i).fresh = s.fresh := rfl
@[simp] theorem State.setReg_pending (s : State) (r : OdRow) (v i : Nat) : (s.setReg r v i).pending = s.pending := rfl

@[simp] theorem State.setRegTab_tl (s : State) (r : OdRow) (b : Bytes) (i : Nat) : (s.setRegTab r b i).tl = s.tl := rfl
@[simp] theorem State.setRegTab_tm (s : State) (r : OdRow) (b : Bytes) (i : Nat) : (s.setRegTab r b i).tm = s.tm := rfl
@[simp] theorem State.setRegTab_net (s : State) (r : OdRow) (b : Bytes) (i : Nat) : (s.setRegTab r b i).net = s.net := rfl
@[simp] theorem State.setRegTab_intake (s : State) (r : OdRow) (b : Bytes) (i : Nat) : (s.setRegTab r b i).intake = s.intake := rfl
@[simp] theorem State.setRegTab_lk (s : State) (r : OdRow) (b : Bytes) (i : Nat) : (s.setRegTab r b i).lk = s.lk := rfl
@[simp] theorem State.setRegTab_tow (s : State) (r : OdRow) (b : Bytes) (i : Nat) : (s.setRegTab r b i).tow = s.tow := rfl
@[simp] theorem State.setRegTab_pwr (s : State) (r : OdRow) (b : Bytes) (i : Nat) : (s.setRegTab r b i).pwr = s.pwr := rfl
@[simp] theorem State.setRegTab_col (s : State) (r : OdRow) (b : Bytes) (i : Nat) : (s.setRegTab r b i).col = s.col := rfl
@[simp] theorem State.setRegTab_weir (s : State) (r : OdRow) (b : Bytes) (i : Nat) : (s.setRegTab r b i).weir = s.weir := rfl
@[simp] theorem State.setRegTab_zl (s : State) (r : OdRow) (b : Bytes) (i : Nat) : (s.setRegTab r b i).zl = s.zl := rfl
@[simp] theorem State.setRegTab_lamp (s : State) (r : OdRow) (b : Bytes) (i : Nat) : (s.setRegTab r b i).lamp = s.lamp := rfl
@[simp] theorem State.setRegTab_strs (s : State) (r : OdRow) (b : Bytes) (i : Nat) : (s.setRegTab r b i).strs = s.strs := rfl
@[simp] theorem State.setRegTab_ras (s : State) (r : OdRow) (b : Bytes) (i : Nat) : (s.setRegTab r b i).ras = s.ras := rfl
@[simp] theorem State.setRegTab_aq (s : State) (r : OdRow) (b : Bytes) (i : Nat) : (s.setRegTab r b i).aq = s.aq := rfl
@[simp] theorem State.setRegTab_keys (s : State) (r : OdRow) (b : Bytes) (i : Nat) : (s.setRegTab r b i).keys = s.keys := rfl
@[simp] theorem State.setRegTab_upd (s : State) (r : OdRow) (b : Bytes) (i : Nat) : (s.setRegTab r b i).upd = s.upd := rfl
@[simp] theorem State.setRegTab_trim (s : State) (r : OdRow) (b : Bytes) (i : Nat) : (s.setRegTab r b i).trim = s.trim := rfl
@[simp] theorem State.setRegTab_nv (s : State) (r : OdRow) (b : Bytes) (i : Nat) : (s.setRegTab r b i).nv = s.nv := rfl
@[simp] theorem State.setRegTab_fresh (s : State) (r : OdRow) (b : Bytes) (i : Nat) : (s.setRegTab r b i).fresh = s.fresh := rfl
@[simp] theorem State.setRegTab_pending (s : State) (r : OdRow) (b : Bytes) (i : Nat) : (s.setRegTab r b i).pending = s.pending := rfl

@[simp] theorem State.count_tl (s : State) (r : OdRow) (n i : Nat) : (s.count r n i).tl = s.tl := rfl
@[simp] theorem State.count_tm (s : State) (r : OdRow) (n i : Nat) : (s.count r n i).tm = s.tm := rfl
@[simp] theorem State.count_net (s : State) (r : OdRow) (n i : Nat) : (s.count r n i).net = s.net := rfl
@[simp] theorem State.count_intake (s : State) (r : OdRow) (n i : Nat) : (s.count r n i).intake = s.intake := rfl
@[simp] theorem State.count_lk (s : State) (r : OdRow) (n i : Nat) : (s.count r n i).lk = s.lk := rfl
@[simp] theorem State.count_tow (s : State) (r : OdRow) (n i : Nat) : (s.count r n i).tow = s.tow := rfl
@[simp] theorem State.count_pwr (s : State) (r : OdRow) (n i : Nat) : (s.count r n i).pwr = s.pwr := rfl
@[simp] theorem State.count_col (s : State) (r : OdRow) (n i : Nat) : (s.count r n i).col = s.col := rfl
@[simp] theorem State.count_weir (s : State) (r : OdRow) (n i : Nat) : (s.count r n i).weir = s.weir := rfl
@[simp] theorem State.count_zl (s : State) (r : OdRow) (n i : Nat) : (s.count r n i).zl = s.zl := rfl
@[simp] theorem State.count_lamp (s : State) (r : OdRow) (n i : Nat) : (s.count r n i).lamp = s.lamp := rfl
@[simp] theorem State.count_strs (s : State) (r : OdRow) (n i : Nat) : (s.count r n i).strs = s.strs := rfl
@[simp] theorem State.count_ras (s : State) (r : OdRow) (n i : Nat) : (s.count r n i).ras = s.ras := rfl
@[simp] theorem State.count_aq (s : State) (r : OdRow) (n i : Nat) : (s.count r n i).aq = s.aq := rfl
@[simp] theorem State.count_keys (s : State) (r : OdRow) (n i : Nat) : (s.count r n i).keys = s.keys := rfl
@[simp] theorem State.count_upd (s : State) (r : OdRow) (n i : Nat) : (s.count r n i).upd = s.upd := rfl
@[simp] theorem State.count_trim (s : State) (r : OdRow) (n i : Nat) : (s.count r n i).trim = s.trim := rfl
@[simp] theorem State.count_nv (s : State) (r : OdRow) (n i : Nat) : (s.count r n i).nv = s.nv := rfl
@[simp] theorem State.count_fresh (s : State) (r : OdRow) (n i : Nat) : (s.count r n i).fresh = s.fresh := rfl
@[simp] theorem State.count_pending (s : State) (r : OdRow) (n i : Nat) : (s.count r n i).pending = s.pending := rfl

@[simp] theorem State.raise_tl (s : State) (c : Nat) (a : Bytes) : (s.raise c a).tl = s.tl := rfl
@[simp] theorem State.raise_tm (s : State) (c : Nat) (a : Bytes) : (s.raise c a).tm = s.tm := rfl
@[simp] theorem State.raise_net (s : State) (c : Nat) (a : Bytes) : (s.raise c a).net = s.net := rfl
@[simp] theorem State.raise_intake (s : State) (c : Nat) (a : Bytes) : (s.raise c a).intake = s.intake := rfl
@[simp] theorem State.raise_lk (s : State) (c : Nat) (a : Bytes) : (s.raise c a).lk = s.lk := rfl
@[simp] theorem State.raise_tow (s : State) (c : Nat) (a : Bytes) : (s.raise c a).tow = s.tow := rfl
@[simp] theorem State.raise_pwr (s : State) (c : Nat) (a : Bytes) : (s.raise c a).pwr = s.pwr := rfl
@[simp] theorem State.raise_col (s : State) (c : Nat) (a : Bytes) : (s.raise c a).col = s.col := rfl
@[simp] theorem State.raise_weir (s : State) (c : Nat) (a : Bytes) : (s.raise c a).weir = s.weir := rfl
@[simp] theorem State.raise_zl (s : State) (c : Nat) (a : Bytes) : (s.raise c a).zl = s.zl := rfl
@[simp] theorem State.raise_lamp (s : State) (c : Nat) (a : Bytes) : (s.raise c a).lamp = s.lamp := rfl
@[simp] theorem State.raise_strs (s : State) (c : Nat) (a : Bytes) : (s.raise c a).strs = s.strs := rfl
@[simp] theorem State.raise_ras (s : State) (c : Nat) (a : Bytes) : (s.raise c a).ras = s.ras := rfl
@[simp] theorem State.raise_aq (s : State) (c : Nat) (a : Bytes) : (s.raise c a).aq = s.aq := rfl
@[simp] theorem State.raise_keys (s : State) (c : Nat) (a : Bytes) : (s.raise c a).keys = s.keys := rfl
@[simp] theorem State.raise_upd (s : State) (c : Nat) (a : Bytes) : (s.raise c a).upd = s.upd := rfl
@[simp] theorem State.raise_trim (s : State) (c : Nat) (a : Bytes) : (s.raise c a).trim = s.trim := rfl
@[simp] theorem State.raise_nv (s : State) (c : Nat) (a : Bytes) : (s.raise c a).nv = s.nv := rfl
@[simp] theorem State.raise_fresh (s : State) (c : Nat) (a : Bytes) : (s.raise c a).fresh = s.fresh := rfl
@[simp] theorem State.raise_pending (s : State) (c : Nat) (a : Bytes) : (s.raise c a).pending = s.pending := rfl

/-- Noting an entry for the mirror changes the lists of what is owed and changed alone. -/
theorem State.noteMirror_eq (s : State) (k : Nat) :
    ∃ o c, s.noteMirror k = { s with tow := { s.tow with owed := o, changed := c } } := by
  unfold State.noteMirror
  simp only []
  repeat' split
  all_goals exact ⟨_, _, rfl⟩

@[simp] theorem State.noteMirror_od (s : State) (k : Nat) : (s.noteMirror k).od = s.od := by
  obtain ⟨_, _, h⟩ := s.noteMirror_eq k; rw [h]
@[simp] theorem State.noteMirror_tl (s : State) (k : Nat) : (s.noteMirror k).tl = s.tl := by
  obtain ⟨_, _, h⟩ := s.noteMirror_eq k; rw [h]
@[simp] theorem State.noteMirror_tm (s : State) (k : Nat) : (s.noteMirror k).tm = s.tm := by
  obtain ⟨_, _, h⟩ := s.noteMirror_eq k; rw [h]
@[simp] theorem State.noteMirror_net (s : State) (k : Nat) : (s.noteMirror k).net = s.net := by
  obtain ⟨_, _, h⟩ := s.noteMirror_eq k; rw [h]
@[simp] theorem State.noteMirror_intake (s : State) (k : Nat) : (s.noteMirror k).intake = s.intake := by
  obtain ⟨_, _, h⟩ := s.noteMirror_eq k; rw [h]
@[simp] theorem State.noteMirror_lk (s : State) (k : Nat) : (s.noteMirror k).lk = s.lk := by
  obtain ⟨_, _, h⟩ := s.noteMirror_eq k; rw [h]
@[simp] theorem State.noteMirror_pwr (s : State) (k : Nat) : (s.noteMirror k).pwr = s.pwr := by
  obtain ⟨_, _, h⟩ := s.noteMirror_eq k; rw [h]
@[simp] theorem State.noteMirror_col (s : State) (k : Nat) : (s.noteMirror k).col = s.col := by
  obtain ⟨_, _, h⟩ := s.noteMirror_eq k; rw [h]
@[simp] theorem State.noteMirror_weir (s : State) (k : Nat) : (s.noteMirror k).weir = s.weir := by
  obtain ⟨_, _, h⟩ := s.noteMirror_eq k; rw [h]
@[simp] theorem State.noteMirror_zl (s : State) (k : Nat) : (s.noteMirror k).zl = s.zl := by
  obtain ⟨_, _, h⟩ := s.noteMirror_eq k; rw [h]
@[simp] theorem State.noteMirror_lamp (s : State) (k : Nat) : (s.noteMirror k).lamp = s.lamp := by
  obtain ⟨_, _, h⟩ := s.noteMirror_eq k; rw [h]
@[simp] theorem State.noteMirror_strs (s : State) (k : Nat) : (s.noteMirror k).strs = s.strs := by
  obtain ⟨_, _, h⟩ := s.noteMirror_eq k; rw [h]
@[simp] theorem State.noteMirror_ras (s : State) (k : Nat) : (s.noteMirror k).ras = s.ras := by
  obtain ⟨_, _, h⟩ := s.noteMirror_eq k; rw [h]
@[simp] theorem State.noteMirror_aq (s : State) (k : Nat) : (s.noteMirror k).aq = s.aq := by
  obtain ⟨_, _, h⟩ := s.noteMirror_eq k; rw [h]
@[simp] theorem State.noteMirror_keys (s : State) (k : Nat) : (s.noteMirror k).keys = s.keys := by
  obtain ⟨_, _, h⟩ := s.noteMirror_eq k; rw [h]
@[simp] theorem State.noteMirror_upd (s : State) (k : Nat) : (s.noteMirror k).upd = s.upd := by
  obtain ⟨_, _, h⟩ := s.noteMirror_eq k; rw [h]
@[simp] theorem State.noteMirror_trim (s : State) (k : Nat) : (s.noteMirror k).trim = s.trim := by
  obtain ⟨_, _, h⟩ := s.noteMirror_eq k; rw [h]
@[simp] theorem State.noteMirror_nv (s : State) (k : Nat) : (s.noteMirror k).nv = s.nv := by
  obtain ⟨_, _, h⟩ := s.noteMirror_eq k; rw [h]
@[simp] theorem State.noteMirror_fresh (s : State) (k : Nat) : (s.noteMirror k).fresh = s.fresh := by
  obtain ⟨_, _, h⟩ := s.noteMirror_eq k; rw [h]
@[simp] theorem State.noteMirror_pending (s : State) (k : Nat) : (s.noteMirror k).pending = s.pending := by
  obtain ⟨_, _, h⟩ := s.noteMirror_eq k; rw [h]
@[simp] theorem State.noteMirror_towState (s : State) (k : Nat) : (s.noteMirror k).tow.state = s.tow.state := by
  obtain ⟨_, _, h⟩ := s.noteMirror_eq k; rw [h]
@[simp] theorem State.noteMirror_hold (s : State) (k : Nat) : (s.noteMirror k).tow.hold = s.tow.hold := by
  obtain ⟨_, _, h⟩ := s.noteMirror_eq k; rw [h]

@[simp] theorem State.noteJournal_tl (s : State) (k : Nat) (v : OdVal) : (s.noteJournal k v).tl = s.tl := State.noteMirror_tl ..
@[simp] theorem State.noteJournal_tm (s : State) (k : Nat) (v : OdVal) : (s.noteJournal k v).tm = s.tm := State.noteMirror_tm ..
@[simp] theorem State.noteJournal_net (s : State) (k : Nat) (v : OdVal) : (s.noteJournal k v).net = s.net := State.noteMirror_net ..
@[simp] theorem State.noteJournal_intake (s : State) (k : Nat) (v : OdVal) : (s.noteJournal k v).intake = s.intake := State.noteMirror_intake ..
@[simp] theorem State.noteJournal_lk (s : State) (k : Nat) (v : OdVal) : (s.noteJournal k v).lk = s.lk := State.noteMirror_lk ..
@[simp] theorem State.noteJournal_towState (s : State) (k : Nat) (v : OdVal) : (s.noteJournal k v).tow.state = s.tow.state :=
  State.noteMirror_towState ..
@[simp] theorem State.noteJournal_hold (s : State) (k : Nat) (v : OdVal) : (s.noteJournal k v).tow.hold = s.tow.hold :=
  State.noteMirror_hold ..
@[simp] theorem State.noteJournal_pwr (s : State) (k : Nat) (v : OdVal) : (s.noteJournal k v).pwr = s.pwr := State.noteMirror_pwr ..
@[simp] theorem State.noteJournal_col (s : State) (k : Nat) (v : OdVal) : (s.noteJournal k v).col = s.col := State.noteMirror_col ..
@[simp] theorem State.noteJournal_weir (s : State) (k : Nat) (v : OdVal) : (s.noteJournal k v).weir = s.weir := State.noteMirror_weir ..
@[simp] theorem State.noteJournal_zl (s : State) (k : Nat) (v : OdVal) : (s.noteJournal k v).zl = s.zl := State.noteMirror_zl ..
@[simp] theorem State.noteJournal_lamp (s : State) (k : Nat) (v : OdVal) : (s.noteJournal k v).lamp = s.lamp := State.noteMirror_lamp ..
@[simp] theorem State.noteJournal_strs (s : State) (k : Nat) (v : OdVal) : (s.noteJournal k v).strs = s.strs := State.noteMirror_strs ..
@[simp] theorem State.noteJournal_ras (s : State) (k : Nat) (v : OdVal) : (s.noteJournal k v).ras = s.ras := State.noteMirror_ras ..
@[simp] theorem State.noteJournal_aq (s : State) (k : Nat) (v : OdVal) : (s.noteJournal k v).aq = s.aq := State.noteMirror_aq ..
@[simp] theorem State.noteJournal_keys (s : State) (k : Nat) (v : OdVal) : (s.noteJournal k v).keys = s.keys := State.noteMirror_keys ..
@[simp] theorem State.noteJournal_upd (s : State) (k : Nat) (v : OdVal) : (s.noteJournal k v).upd = s.upd := State.noteMirror_upd ..
@[simp] theorem State.noteJournal_trim (s : State) (k : Nat) (v : OdVal) : (s.noteJournal k v).trim = s.trim := State.noteMirror_trim ..
@[simp] theorem State.noteJournal_nv (s : State) (k : Nat) (v : OdVal) : (s.noteJournal k v).nv = s.nv := State.noteMirror_nv ..
@[simp] theorem State.noteJournal_fresh (s : State) (k : Nat) (v : OdVal) : (s.noteJournal k v).fresh = s.fresh := State.noteMirror_fresh ..
@[simp] theorem State.noteJournal_pending (s : State) (k : Nat) (v : OdVal) : (s.noteJournal k v).pending = s.pending := State.noteMirror_pending ..

@[simp] theorem State.pendWrite_tl (s : State) (k : Nat) (v : OdVal) : (s.pendWrite k v).tl = s.tl := rfl
@[simp] theorem State.pendWrite_tm (s : State) (k : Nat) (v : OdVal) : (s.pendWrite k v).tm = s.tm := rfl
@[simp] theorem State.pendWrite_net (s : State) (k : Nat) (v : OdVal) : (s.pendWrite k v).net = s.net := rfl
@[simp] theorem State.pendWrite_intake (s : State) (k : Nat) (v : OdVal) : (s.pendWrite k v).intake = s.intake := rfl
@[simp] theorem State.pendWrite_lk (s : State) (k : Nat) (v : OdVal) : (s.pendWrite k v).lk = s.lk := rfl
@[simp] theorem State.pendWrite_tow (s : State) (k : Nat) (v : OdVal) : (s.pendWrite k v).tow = s.tow := rfl
@[simp] theorem State.pendWrite_pwr (s : State) (k : Nat) (v : OdVal) : (s.pendWrite k v).pwr = s.pwr := rfl
@[simp] theorem State.pendWrite_col (s : State) (k : Nat) (v : OdVal) : (s.pendWrite k v).col = s.col := rfl
@[simp] theorem State.pendWrite_weir (s : State) (k : Nat) (v : OdVal) : (s.pendWrite k v).weir = s.weir := rfl
@[simp] theorem State.pendWrite_zl (s : State) (k : Nat) (v : OdVal) : (s.pendWrite k v).zl = s.zl := rfl
@[simp] theorem State.pendWrite_lamp (s : State) (k : Nat) (v : OdVal) : (s.pendWrite k v).lamp = s.lamp := rfl
@[simp] theorem State.pendWrite_strs (s : State) (k : Nat) (v : OdVal) : (s.pendWrite k v).strs = s.strs := rfl
@[simp] theorem State.pendWrite_ras (s : State) (k : Nat) (v : OdVal) : (s.pendWrite k v).ras = s.ras := rfl
@[simp] theorem State.pendWrite_aq (s : State) (k : Nat) (v : OdVal) : (s.pendWrite k v).aq = s.aq := rfl
@[simp] theorem State.pendWrite_keys (s : State) (k : Nat) (v : OdVal) : (s.pendWrite k v).keys = s.keys := rfl
@[simp] theorem State.pendWrite_upd (s : State) (k : Nat) (v : OdVal) : (s.pendWrite k v).upd = s.upd := rfl
@[simp] theorem State.pendWrite_trim (s : State) (k : Nat) (v : OdVal) : (s.pendWrite k v).trim = s.trim := rfl
@[simp] theorem State.pendWrite_nv (s : State) (k : Nat) (v : OdVal) : (s.pendWrite k v).nv = s.nv := rfl
@[simp] theorem State.pendWrite_fresh (s : State) (k : Nat) (v : OdVal) : (s.pendWrite k v).fresh = s.fresh := rfl
@[simp] theorem State.pendWrite_pending (s : State) (k : Nat) (v : OdVal) : (s.pendWrite k v).pending = s.pending := rfl

@[simp] theorem State.setPort_od (s : State) (p : Nat) (x : Port) : (s.setPort p x).od = s.od := rfl
@[simp] theorem State.setPort_tl (s : State) (p : Nat) (x : Port) : (s.setPort p x).tl = s.tl := rfl
@[simp] theorem State.setPort_tm (s : State) (p : Nat) (x : Port) : (s.setPort p x).tm = s.tm := rfl
@[simp] theorem State.setPort_intake (s : State) (p : Nat) (x : Port) : (s.setPort p x).intake = s.intake := rfl
@[simp] theorem State.setPort_lk (s : State) (p : Nat) (x : Port) : (s.setPort p x).lk = s.lk := rfl
@[simp] theorem State.setPort_tow (s : State) (p : Nat) (x : Port) : (s.setPort p x).tow = s.tow := rfl
@[simp] theorem State.setPort_pwr (s : State) (p : Nat) (x : Port) : (s.setPort p x).pwr = s.pwr := rfl
@[simp] theorem State.setPort_col (s : State) (p : Nat) (x : Port) : (s.setPort p x).col = s.col := rfl
@[simp] theorem State.setPort_weir (s : State) (p : Nat) (x : Port) : (s.setPort p x).weir = s.weir := rfl
@[simp] theorem State.setPort_zl (s : State) (p : Nat) (x : Port) : (s.setPort p x).zl = s.zl := rfl
@[simp] theorem State.setPort_lamp (s : State) (p : Nat) (x : Port) : (s.setPort p x).lamp = s.lamp := rfl
@[simp] theorem State.setPort_strs (s : State) (p : Nat) (x : Port) : (s.setPort p x).strs = s.strs := rfl
@[simp] theorem State.setPort_ras (s : State) (p : Nat) (x : Port) : (s.setPort p x).ras = s.ras := rfl
@[simp] theorem State.setPort_aq (s : State) (p : Nat) (x : Port) : (s.setPort p x).aq = s.aq := rfl
@[simp] theorem State.setPort_keys (s : State) (p : Nat) (x : Port) : (s.setPort p x).keys = s.keys := rfl
@[simp] theorem State.setPort_upd (s : State) (p : Nat) (x : Port) : (s.setPort p x).upd = s.upd := rfl
@[simp] theorem State.setPort_trim (s : State) (p : Nat) (x : Port) : (s.setPort p x).trim = s.trim := rfl
@[simp] theorem State.setPort_nv (s : State) (p : Nat) (x : Port) : (s.setPort p x).nv = s.nv := rfl
@[simp] theorem State.setPort_fresh (s : State) (p : Nat) (x : Port) : (s.setPort p x).fresh = s.fresh := rfl
@[simp] theorem State.setPort_pending (s : State) (p : Nat) (x : Port) : (s.setPort p x).pending = s.pending := rfl

@[simp] theorem State.setPound_od (s : State) (p : Nat) (x : Pound) : (s.setPound p x).od = s.od := rfl
@[simp] theorem State.setPound_tl (s : State) (p : Nat) (x : Pound) : (s.setPound p x).tl = s.tl := rfl
@[simp] theorem State.setPound_tm (s : State) (p : Nat) (x : Pound) : (s.setPound p x).tm = s.tm := rfl
@[simp] theorem State.setPound_intake (s : State) (p : Nat) (x : Pound) : (s.setPound p x).intake = s.intake := rfl
@[simp] theorem State.setPound_lk (s : State) (p : Nat) (x : Pound) : (s.setPound p x).lk = s.lk := rfl
@[simp] theorem State.setPound_tow (s : State) (p : Nat) (x : Pound) : (s.setPound p x).tow = s.tow := rfl
@[simp] theorem State.setPound_pwr (s : State) (p : Nat) (x : Pound) : (s.setPound p x).pwr = s.pwr := rfl
@[simp] theorem State.setPound_col (s : State) (p : Nat) (x : Pound) : (s.setPound p x).col = s.col := rfl
@[simp] theorem State.setPound_weir (s : State) (p : Nat) (x : Pound) : (s.setPound p x).weir = s.weir := rfl
@[simp] theorem State.setPound_zl (s : State) (p : Nat) (x : Pound) : (s.setPound p x).zl = s.zl := rfl
@[simp] theorem State.setPound_lamp (s : State) (p : Nat) (x : Pound) : (s.setPound p x).lamp = s.lamp := rfl
@[simp] theorem State.setPound_strs (s : State) (p : Nat) (x : Pound) : (s.setPound p x).strs = s.strs := rfl
@[simp] theorem State.setPound_ras (s : State) (p : Nat) (x : Pound) : (s.setPound p x).ras = s.ras := rfl
@[simp] theorem State.setPound_aq (s : State) (p : Nat) (x : Pound) : (s.setPound p x).aq = s.aq := rfl
@[simp] theorem State.setPound_keys (s : State) (p : Nat) (x : Pound) : (s.setPound p x).keys = s.keys := rfl
@[simp] theorem State.setPound_upd (s : State) (p : Nat) (x : Pound) : (s.setPound p x).upd = s.upd := rfl
@[simp] theorem State.setPound_trim (s : State) (p : Nat) (x : Pound) : (s.setPound p x).trim = s.trim := rfl
@[simp] theorem State.setPound_nv (s : State) (p : Nat) (x : Pound) : (s.setPound p x).nv = s.nv := rfl
@[simp] theorem State.setPound_fresh (s : State) (p : Nat) (x : Pound) : (s.setPound p x).fresh = s.fresh := rfl
@[simp] theorem State.setPound_pending (s : State) (p : Nat) (x : Pound) : (s.setPound p x).pending = s.pending := rfl

@[simp] theorem State.goTo_od (s : State) (t : Nat) : (s.goTo t).od = s.od := rfl
@[simp] theorem State.goTo_tl (s : State) (t : Nat) : (s.goTo t).tl = s.tl := rfl
@[simp] theorem State.goTo_net (s : State) (t : Nat) : (s.goTo t).net = s.net := rfl
@[simp] theorem State.goTo_intake (s : State) (t : Nat) : (s.goTo t).intake = s.intake := rfl
@[simp] theorem State.goTo_lk (s : State) (t : Nat) : (s.goTo t).lk = s.lk := rfl
@[simp] theorem State.goTo_tow (s : State) (t : Nat) : (s.goTo t).tow = s.tow := rfl
@[simp] theorem State.goTo_pwr (s : State) (t : Nat) : (s.goTo t).pwr = s.pwr := rfl
@[simp] theorem State.goTo_col (s : State) (t : Nat) : (s.goTo t).col = s.col := rfl
@[simp] theorem State.goTo_weir (s : State) (t : Nat) : (s.goTo t).weir = s.weir := rfl
@[simp] theorem State.goTo_zl (s : State) (t : Nat) : (s.goTo t).zl = s.zl := rfl
@[simp] theorem State.goTo_lamp (s : State) (t : Nat) : (s.goTo t).lamp = s.lamp := rfl
@[simp] theorem State.goTo_strs (s : State) (t : Nat) : (s.goTo t).strs = s.strs := rfl
@[simp] theorem State.goTo_ras (s : State) (t : Nat) : (s.goTo t).ras = s.ras := rfl
@[simp] theorem State.goTo_aq (s : State) (t : Nat) : (s.goTo t).aq = s.aq := rfl
@[simp] theorem State.goTo_keys (s : State) (t : Nat) : (s.goTo t).keys = s.keys := rfl
@[simp] theorem State.goTo_upd (s : State) (t : Nat) : (s.goTo t).upd = s.upd := rfl
@[simp] theorem State.goTo_trim (s : State) (t : Nat) : (s.goTo t).trim = s.trim := rfl
@[simp] theorem State.goTo_nv (s : State) (t : Nat) : (s.goTo t).nv = s.nv := rfl
@[simp] theorem State.goTo_fresh (s : State) (t : Nat) : (s.goTo t).fresh = s.fresh := rfl
@[simp] theorem State.goTo_pending (s : State) (t : Nat) : (s.goTo t).pending = s.pending := rfl

@[simp] theorem State.draw_od (s : State) : (s.draw).od = s.od := rfl
@[simp] theorem State.draw_tl (s : State) : (s.draw).tl = s.tl := rfl
@[simp] theorem State.draw_tm (s : State) : (s.draw).tm = s.tm := rfl
@[simp] theorem State.draw_net (s : State) : (s.draw).net = s.net := rfl
@[simp] theorem State.draw_intake (s : State) : (s.draw).intake = s.intake := rfl
@[simp] theorem State.draw_lk (s : State) : (s.draw).lk = s.lk := rfl
@[simp] theorem State.draw_tow (s : State) : (s.draw).tow = s.tow := rfl
@[simp] theorem State.draw_pwr (s : State) : (s.draw).pwr = s.pwr := rfl
@[simp] theorem State.draw_col (s : State) : (s.draw).col = s.col := rfl
@[simp] theorem State.draw_weir (s : State) : (s.draw).weir = s.weir := rfl
@[simp] theorem State.draw_zl (s : State) : (s.draw).zl = s.zl := rfl
@[simp] theorem State.draw_lamp (s : State) : (s.draw).lamp = s.lamp := rfl
@[simp] theorem State.draw_strs (s : State) : (s.draw).strs = s.strs := rfl
@[simp] theorem State.draw_ras (s : State) : (s.draw).ras = s.ras := rfl
@[simp] theorem State.draw_aq (s : State) : (s.draw).aq = s.aq := rfl
@[simp] theorem State.draw_keys (s : State) : (s.draw).keys = s.keys := rfl
@[simp] theorem State.draw_upd (s : State) : (s.draw).upd = s.upd := rfl
@[simp] theorem State.draw_trim (s : State) : (s.draw).trim = s.trim := rfl
@[simp] theorem State.draw_nv (s : State) : (s.draw).nv = s.nv := rfl
@[simp] theorem State.draw_pending (s : State) : (s.draw).pending = s.pending := rfl

@[simp] theorem State.advance_od (s : State) (dt : Nat) : (s.advance dt).od = s.od := by unfold State.advance; split <;> rfl
@[simp] theorem State.advance_tl (s : State) (dt : Nat) : (s.advance dt).tl = s.tl := by unfold State.advance; split <;> rfl
@[simp] theorem State.advance_net (s : State) (dt : Nat) : (s.advance dt).net = s.net := by unfold State.advance; split <;> rfl
@[simp] theorem State.advance_intake (s : State) (dt : Nat) : (s.advance dt).intake = s.intake := by unfold State.advance; split <;> rfl
@[simp] theorem State.advance_lk (s : State) (dt : Nat) : (s.advance dt).lk = s.lk := by unfold State.advance; split <;> rfl
@[simp] theorem State.advance_tow (s : State) (dt : Nat) : (s.advance dt).tow = s.tow := by unfold State.advance; split <;> rfl
@[simp] theorem State.advance_pwr (s : State) (dt : Nat) : (s.advance dt).pwr = s.pwr := by unfold State.advance; split <;> rfl
@[simp] theorem State.advance_col (s : State) (dt : Nat) : (s.advance dt).col = s.col := by unfold State.advance; split <;> rfl
@[simp] theorem State.advance_weir (s : State) (dt : Nat) : (s.advance dt).weir = s.weir := by unfold State.advance; split <;> rfl
@[simp] theorem State.advance_zl (s : State) (dt : Nat) : (s.advance dt).zl = s.zl := by unfold State.advance; split <;> rfl
@[simp] theorem State.advance_lamp (s : State) (dt : Nat) : (s.advance dt).lamp = s.lamp := by unfold State.advance; split <;> rfl
@[simp] theorem State.advance_strs (s : State) (dt : Nat) : (s.advance dt).strs = s.strs := by unfold State.advance; split <;> rfl
@[simp] theorem State.advance_ras (s : State) (dt : Nat) : (s.advance dt).ras = s.ras := by unfold State.advance; split <;> rfl
@[simp] theorem State.advance_aq (s : State) (dt : Nat) : (s.advance dt).aq = s.aq := by unfold State.advance; split <;> rfl
@[simp] theorem State.advance_keys (s : State) (dt : Nat) : (s.advance dt).keys = s.keys := by unfold State.advance; split <;> rfl
@[simp] theorem State.advance_upd (s : State) (dt : Nat) : (s.advance dt).upd = s.upd := by unfold State.advance; split <;> rfl
@[simp] theorem State.advance_trim (s : State) (dt : Nat) : (s.advance dt).trim = s.trim := by unfold State.advance; split <;> rfl
@[simp] theorem State.advance_nv (s : State) (dt : Nat) : (s.advance dt).nv = s.nv := by unfold State.advance; split <;> rfl
@[simp] theorem State.advance_fresh (s : State) (dt : Nat) : (s.advance dt).fresh = s.fresh := by unfold State.advance; split <;> rfl
@[simp] theorem State.advance_pending (s : State) (dt : Nat) : (s.advance dt).pending = s.pending := by unfold State.advance; split <;> rfl

@[simp] theorem State.goTo_tm (s : State) (t : Nat) : (s.goTo t).tm =
    { s.tm with now := max s.tm.now t, frac := if s.tm.now < t then 0 else s.tm.frac } := rfl
@[simp] theorem State.draw_fresh (s : State) : s.draw.fresh = s.fresh + 1 := rfl
@[simp] theorem State.goTo_reg (s : State) (t : Nat) (r : OdRow) (i : Nat) : (s.goTo t).reg r i = s.reg r i := rfl
@[simp] theorem State.draw_reg (s : State) (r : OdRow) (i : Nat) : s.draw.reg r i = s.reg r i := rfl
@[simp] theorem State.raise_reg (s : State) (c : Nat) (a : Bytes) (r : OdRow) (i : Nat) : (s.raise c a).reg r i = s.reg r i := rfl
@[simp] theorem State.noteJournal_reg (s : State) (k : Nat) (v : OdVal) (r : OdRow) (i : Nat) : (s.noteJournal k v).reg r i = s.reg r i := by
  simp only [State.reg, State.noteJournal, State.noteMirror_od]
@[simp] theorem State.pendWrite_reg (s : State) (k : Nat) (v : OdVal) (r : OdRow) (i : Nat) : (s.pendWrite k v).reg r i = s.reg r i := rfl
@[simp] theorem State.setPort_reg (s : State) (p : Nat) (x : Port) (r : OdRow) (i : Nat) : (s.setPort p x).reg r i = s.reg r i := rfl
@[simp] theorem State.setPound_reg (s : State) (p : Nat) (x : Pound) (r : OdRow) (i : Nat) : (s.setPound p x).reg r i = s.reg r i := rfl
@[simp] theorem State.raise_raised (s : State) (c : Nat) (a : Bytes) : (s.raise c a).od.raised = s.od.raised ++
    [{ code := c, frame := s.reg Od.currentFrame, time := s.now, arg := padTo 8 a }] := rfl
@[simp] theorem State.pendWrite_pend (s : State) (k : Nat) (v : OdVal) : (s.pendWrite k v).od.pend = s.od.pend ++ [(k, v, s.now)] := rfl

end Sys2Proof.Machine
end

