-- ==== Sys2Proof/Laws/Finish.lean ====
section
/-!
SUPPORT. What the end of every meaning can do: with nothing left to release it logs the events and nothing else; and the parts of the
state it never touches.
-/
namespace Sys2Proof.Machine

theorem foldl_id {α β : Type} (f : β → α → β) (l : List α) (b : β) (h : ∀ a ∈ l, f b a = b) : l.foldl f b = b := by
  induction l with
  | nil => rfl
  | cons a t ih =>
    rw [List.foldl_cons, h a (List.mem_cons_self ..)]
    exact ih fun x hx => h x (List.mem_cons_of_mem _ hx)

/-- A record that is its own image under a map. -/
theorem map_self {α : Type} (f : α → α) (l : List α) (h : ∀ a ∈ l, f a = a) : l.map f = l := by
  induction l with
  | nil => rfl
  | cons a t ih => simp [h a (List.mem_cons_self ..), ih fun x hx => h x (List.mem_cons_of_mem _ hx)]

theorem getD_of_all {α : Type} (p : α → Bool) (l : List α) (d : α) (i : Nat) (h : l.all p = true) (hd : p d = true) : p (l.getD i d) = true := by
  rw [List.getD_eq_getElem?_getD]
  cases hg : l[i]? with
  | none => simpa using hd
  | some x => simpa using List.all_eq_true.mp h x (List.mem_of_getElem? hg)

theorem zipIdx_map_self {α : Type} (f : α × Nat → α) (l : List α) (k : Nat) (h : ∀ a ∈ l.zipIdx k, f a = a.1) : (l.zipIdx k).map f = l := by
  induction l generalizing k with
  | nil => rfl
  | cons a t ih =>
    simp only [List.zipIdx_cons, List.map_cons]
    rw [h (a, k) (by simp), ih (k + 1) fun x hx => h x (by simp [hx])]

/-- With nothing gated under way or driven, the guard of the gate changes nothing. -/
theorem State.guardGate_still {s : State} (h : s.still = true) : s.guardGate = s := by
  unfold State.guardGate
  cases hg : s.gate with
  | true => simp
  | false =>
    simp only [State.still, hg, Bool.false_or, Bool.and_eq_true] at h
    obtain ⟨⟨⟨⟨hw, hb⟩, hl⟩, hs⟩, hr⟩ := h
    have h1 : (List.range 26).foldl State.abortGated s = s := by
      refine foldl_id _ _ _ fun p _ => ?_
      have := getD_of_all (fun p : Port => match p.wire with | some w => !w.gated | none => true) s.net.ports {} p hw rfl
      simp only [State.abortGated, State.port]
      split
      · rename_i w hw'
        rw [hw'] at this
        simp_all
      · rfl
    have h2 : (List.range 48).foldl State.cutLamp s = s := by
      refine foldl_id _ _ _ fun p _ => ?_
      have := getD_of_all (fun p : LampPort => p.busy == 0) s.lamp.ports {} p hb rfl
      simp only [State.cutLamp]
      rw [if_pos (by simpa using this)]
    simp only [h1, h2, Bool.false_eq_true, if_false, State.releaseOutputs]
    have e1 : s.net.ports.map Port.cut = s.net.ports := by
      refine map_self _ _ fun p hp => ?_
      have := List.all_eq_true.mp hw p hp
      simp only [Port.cut]
      split
      · rename_i w hw'
        rw [hw'] at this
        simp_all
      · rfl
    have e2 : (s.lamp.ports.zipIdx.map fun (p, i) => p.released (s.ungated i)) = s.lamp.ports := by
      refine zipIdx_map_self _ _ _ fun a ha => ?_
      have := List.all_eq_true.mp hl a ha
      have e : (a.1.pins.zipIdx.map fun (v, i) => if s.ungated a.2 i then v else 2) = a.1.pins := by
        refine zipIdx_map_self _ _ _ fun b hb' => ?_
        have := List.all_eq_true.mp this b hb'
        simp only [Bool.or_eq_true, beq_iff_eq] at this
        rcases this with h | h <;> simp [h]
      simp only [LampPort.released]
      rw [e]
    have e3 : (s.strs.ctl.map fun (c : StringSt) => { c with pinA := 2, pinB := 2 }) = s.strs.ctl := by
      refine map_self _ _ fun c hc => ?_
      have := List.all_eq_true.mp hs c hc
      simp only [Bool.and_eq_true, beq_iff_eq] at this
      cases c; simp_all
    have e4 : s.ras.pins = [0, 0] := by simpa using hr
    rw [e1, e2, e3, ← e4]

/-- What a meaning answers where nothing is left to release and the towpath stays as it was: the state with its events logged. -/
theorem finish_still {s0 s : State} (h : s.still = true) (ht : s.tow.state = s0.tow.state) (hg : s.gate = s0.gate)
    (hp : s.pending = s0.pending) : finish s0 s = .next s.flush := by
  unfold finish State.ended
  rw [State.guardGate_still h]
  have : State.beaconOnChange s0 s = s := by simp [State.beaconOnChange, ht, hg]
  rw [this, ← hp]
  rfl

/-- With no event raised there is nothing to log. -/
theorem State.flush_none {s : State} (h : s.EventsLogged) : s.flush = s := by
  obtain ⟨h1, h2⟩ := h
  have : s.od.log.length - 256 = 0 := by omega
  cases s with
  | mk pending od => cases od; simp_all [State.flush]

/-- Every meaning that ends with `finish` answers a next state with the queue as it stood. -/
theorem finish_next (s0 s : State) : ∃ t, finish s0 s = .next t ∧ t.pending = s0.pending := ⟨_, rfl, rfl⟩

end Sys2Proof.Machine
end

