-- ==== Sys2Proof/Laws/Core.lean ====
section
/-!
SUPPORT. The parts of the state that the end of a meaning never touches: everything but the event log and its queues, the counters of
what the gate cuts, and the pins and frames the gate governs.
-/
namespace Sys2Proof.Machine

@[simp] theorem core_setReg (s : State) (r : OdRow) (v i : Nat) : (s.setReg r v i).core = s.core := rfl
@[simp] theorem core_count (s : State) (r : OdRow) (n i : Nat) : (s.count r n i).core = s.core := rfl
@[simp] theorem core_raise (s : State) (c : Nat) (a : Bytes) : (s.raise c a).core = s.core := rfl
@[simp] theorem core_raiseOnce (s : State) (c u : Nat) (a : Bytes) : (s.raiseOnce c u a).core = s.core := by
  unfold State.raiseOnce
  simp only []
  split <;> rfl
@[simp] theorem core_setPort (s : State) (p : Nat) (x : Port) : (s.setPort p x).core = s.core := rfl
@[simp] theorem core_setPound (s : State) (p : Nat) (x : Pound) : (s.setPound p x).core = s.core := rfl
@[simp] theorem core_endJob (s : State) (p : Nat) (j : TxJob) : (s.endJob p j).core = s.core := rfl

theorem core_foldl {α : Type} (f : State → α → State) (h : ∀ s a, (f s a).core = s.core) (l : List α) (s : State) :
    (l.foldl f s).core = s.core := by
  induction l generalizing s with
  | nil => rfl
  | cons a t ih => rw [List.foldl_cons, ih, h]

@[simp] theorem core_sluiceEdge (s : State) (p : Nat) : (s.sluiceEdge p).core = s.core := by
  refine core_foldl _ (fun s a => ?_) _ _
  simp only []
  split
  · split
    · rw [core_raiseOnce, core_count]; rfl
    · rfl
  · rfl

@[simp] theorem core_watermark (s : State) (p : Nat) : (s.watermark p).core = s.core := by
  unfold State.watermark
  simp only []
  split
  · rw [core_sluiceEdge]; split <;> simp
  · split
    · rw [core_sluiceEdge, core_setPound]
    · simp

@[simp] theorem core_writePound (s : State) (p slot prio : Nat) (d : Bytes) : (s.writePound p slot prio d).1.core = s.core := by
  unfold State.writePound
  simp only []
  split <;> simp

/-- A completion that is no late drop makes no tile hold. -/
theorem core_noteCompletion (s : State) (p tag st : Nat) (h : st ≠ txLateDropped) : (s.noteCompletion p tag st).core = s.core := by
  unfold State.noteCompletion
  simp only []
  split
  · rfl
  · rw [if_neg fun e => h e.2]

theorem core_completeTx (s : State) (p : Nat) (j : TxJob) (st : Nat) (hs : st ≠ txLateDropped) : (s.completeTx p j st).core = s.core := by
  unfold State.completeTx
  split
  · simp only []
    split
    · rename_i s' h
      rw [core_noteCompletion _ _ _ _ hs]
      have := core_writePound s (s.reg Od.txComplPound p) 0 0
        (natBE 2 (dTag j.desc) ++ natBE 1 st ++ natBE 1 j.tc ++ natBE 4 j.sent ++ natBE 8 j.start ++ List.replicate 16 0#8)
      rw [h] at this; exact this
    · rename_i s' h
      rw [core_count]
      have := core_writePound s (s.reg Od.txComplPound p) 0 0
        (natBE 2 (dTag j.desc) ++ natBE 1 st ++ natBE 1 j.tc ++ natBE 4 j.sent ++ natBE 8 j.start ++ List.replicate 16 0#8)
      rw [h] at this; exact this
  · rfl

@[simp] theorem core_abortGated (s : State) (p : Nat) : (s.abortGated p).core = s.core := by
  unfold State.abortGated
  split
  · split
    · simp only []
      split
      · rw [core_completeTx _ _ _ _ (by decide), core_count, core_endJob]
      · rw [core_completeTx _ _ _ _ (by decide), core_completeTx _ _ _ _ (by decide), core_count, core_endJob]
    · rfl
  · rfl

@[simp] theorem core_cutLamp (s : State) (p : Nat) : (s.cutLamp p).core = s.core := by
  unfold State.cutLamp
  simp only []
  split
  · rfl
  · split
    · rw [core_raiseOnce, core_count]; rfl
    · rfl

@[simp] theorem core_releaseOutputs (s : State) : s.releaseOutputs.core = s.core := by
  simp [State.core, State.releaseOutputs, List.map_map, Function.comp_def]

@[simp] theorem core_guardGate (s : State) : s.guardGate.core = s.core := by
  unfold State.guardGate
  split
  · rfl
  · rw [core_releaseOutputs, core_foldl _ core_cutLamp, core_foldl _ core_abortGated]

@[simp] theorem core_send (s : State) (m : Sent) : (s.send m).core = s.core := by
  unfold State.send
  repeat' split
  all_goals rfl

@[simp] theorem core_toPartner (s : State) (c k ty : Nat) (v : Bytes) : (s.toPartner c k ty v).core = s.core := by
  unfold State.toPartner
  simp only []
  exact core_send s _

@[simp] theorem core_beaconOnChange (s0 s : State) : (State.beaconOnChange s0 s).core = s.core := by
  unfold State.beaconOnChange
  split
  · rfl
  · unfold State.sendBeacon
    split <;> simp

/-- What logging an event leaves of the OD server. -/
def OdState.rest (o : OdState) :=
  (o.pend, o.journal, o.journalQ, o.owed, o.dups, o.bulks, o.nextHandle, o.posted, o.snapshot, o.groups, o.inQ, o.demoted, o.regs.tabs)

theorem rest_dispatch (o : OdState) (e : Event) : (o.dispatch e).rest = o.rest := by
  unfold OdState.dispatch
  simp only []
  generalize (o.logEvent e).subs = l
  have h0 : (o.logEvent e).rest = o.rest := rfl
  revert h0
  generalize o.logEvent e = o'
  intro h0
  induction l generalizing o' with
  | nil => exact h0
  | cons a t ih =>
    rw [List.foldl_cons]
    refine ih _ ?_
    split
    · split
      · exact h0
      · exact h0
    · exact h0

theorem rest_foldl (l : List Event) (o : OdState) : (l.foldl OdState.dispatch o).rest = o.rest := by
  induction l generalizing o with
  | nil => rfl
  | cons a t ih => rw [List.foldl_cons, ih, rest_dispatch]

@[simp] theorem core_flush (s : State) : s.flush.core = s.core := by
  have h := rest_foldl s.od.raised { s.od with raised := [] }
  simp only [OdState.rest, Prod.mk.injEq] at h
  simp only [State.core, State.flush, Prod.mk.injEq, true_and, and_true]
  exact h

theorem core_pending (s : State) (q : List Instr) : ({ s with pending := q } : State).core = s.core := rfl

/-- The end of a meaning leaves everything of `core` as the meaning left it. -/
theorem finish_core {s0 s t : State} (h : finish s0 s = .next t) : t.core = s.core := by
  unfold finish State.ended at h
  have e := Host.Outcome.next.inj h
  rw [← e, core_pending, core_flush, core_beaconOnChange, core_guardGate]

theorem ended_core (s0 s : State) : (State.ended s0 s).core = s.core := finish_core (s0 := s0) rfl

@[simp] theorem ended_tm (s0 s : State) : (State.ended s0 s).tm = s.tm := by
  have h := ended_core s0 s; simp only [State.core, Prod.mk.injEq] at h; exact h.1.1

@[simp] theorem ended_tl (s0 s : State) : (State.ended s0 s).tl = s.tl := by
  have h := ended_core s0 s; simp only [State.core, Prod.mk.injEq] at h; exact h.1.2.1

@[simp] theorem ended_intake (s0 s : State) : (State.ended s0 s).intake = s.intake := by
  have h := ended_core s0 s; simp only [State.core, Prod.mk.injEq] at h; exact h.1.2.2.1

@[simp] theorem ended_lk (s0 s : State) : (State.ended s0 s).lk = s.lk := by
  have h := ended_core s0 s; simp only [State.core, Prod.mk.injEq] at h; exact h.1.2.2.2.1

@[simp] theorem ended_pwr (s0 s : State) : (State.ended s0 s).pwr = s.pwr := by
  have h := ended_core s0 s; simp only [State.core, Prod.mk.injEq] at h; exact h.1.2.2.2.2.1

@[simp] theorem ended_col (s0 s : State) : (State.ended s0 s).col = s.col := by
  have h := ended_core s0 s; simp only [State.core, Prod.mk.injEq] at h; exact h.1.2.2.2.2.2.1

@[simp] theorem ended_weir (s0 s : State) : (State.ended s0 s).weir = s.weir := by
  have h := ended_core s0 s; simp only [State.core, Prod.mk.injEq] at h; exact h.1.2.2.2.2.2.2.1

@[simp] theorem ended_aq (s0 s : State) : (State.ended s0 s).aq = s.aq := by
  have h := ended_core s0 s; simp only [State.core, Prod.mk.injEq] at h; exact h.1.2.2.2.2.2.2.2.1

@[simp] theorem ended_keys (s0 s : State) : (State.ended s0 s).keys = s.keys := by
  have h := ended_core s0 s; simp only [State.core, Prod.mk.injEq] at h; exact h.1.2.2.2.2.2.2.2.2.1

@[simp] theorem ended_upd (s0 s : State) : (State.ended s0 s).upd = s.upd := by
  have h := ended_core s0 s; simp only [State.core, Prod.mk.injEq] at h; exact h.1.2.2.2.2.2.2.2.2.2.1

@[simp] theorem ended_trim (s0 s : State) : (State.ended s0 s).trim = s.trim := by
  have h := ended_core s0 s; simp only [State.core, Prod.mk.injEq] at h; exact h.1.2.2.2.2.2.2.2.2.2.2.1

@[simp] theorem ended_nv (s0 s : State) : (State.ended s0 s).nv = s.nv := by
  have h := ended_core s0 s; simp only [State.core, Prod.mk.injEq] at h; exact h.1.2.2.2.2.2.2.2.2.2.2.2.1

@[simp] theorem ended_fresh (s0 s : State) : (State.ended s0 s).fresh = s.fresh := by
  have h := ended_core s0 s; simp only [State.core, Prod.mk.injEq] at h; exact h.1.2.2.2.2.2.2.2.2.2.2.2.2.1

@[simp] theorem ended_pending (s0 s : State) : (State.ended s0 s).pending = s0.pending := rfl

end Sys2Proof.Machine
end

