-- ==== Sys2Proof/Laws/Memory.lean ====
section
/-!
SUPPORT. Memory: reading back what was stored, and that every memory operation keeps the canonical form.
-/
namespace Sys2Proof.Machine

theorem memOk_none {lo : Option Nat} {m : List Host.Cell} (h : memOk lo m = true) : memOk none m = true := by
  cases m with
  | nil => rfl
  | cons p t => obtain ⟨a, v⟩ := p; simp only [memOk, Bool.and_eq_true] at h ⊢; exact ⟨⟨trivial, h.1.2⟩, h.2⟩

/-- An address at or below the bound of a memory is not listed: it reads 0. -/
theorem memGet_low {b a : Nat} {m : List Host.Cell} (h : memOk (some b) m = true) (ha : a ≤ b) : memGet a m = 0#8 := by
  induction m generalizing b with
  | nil => rfl
  | cons p t ih =>
    obtain ⟨c, v⟩ := p
    simp only [memOk, Bool.and_eq_true, decide_eq_true_eq] at h
    simp only [memGet, if_neg (show ¬a = c by omega)]
    exact ih h.2 (by omega)

/-- Storing keeps the canonical form. -/
theorem memOk_memSet {lo : Option Nat} {a : Nat} (v : Byte) {m : List Host.Cell} (h : memOk lo m = true) (hl : ∀ b, lo = some b → b < a) :
    memOk lo (memSet a v m) = true := by
  induction m generalizing lo with
  | nil =>
    simp only [memSet]
    split
    · rfl
    · rename_i hv
      cases lo with
      | none => simp [memOk, hv]
      | some b => simp [memOk, hv, hl b rfl]
  | cons p t ih =>
    obtain ⟨c, w⟩ := p
    have h' := h
    simp only [memOk, Bool.and_eq_true] at h
    simp only [memSet]
    split
    · rename_i hac
      split
      · exact h'
      · rename_i hv
        cases lo with
        | none => simp_all [memOk]
        | some b => simp_all [memOk]
    · split
      · rename_i hac
        subst hac
        split
        · cases lo with
          | none => exact memOk_none h.2
          | some b =>
            have hb := hl b rfl
            cases t with
            | nil => rfl
            | cons q u =>
              obtain ⟨d, x⟩ := q
              have h2 := h.2
              simp only [memOk, Bool.and_eq_true, decide_eq_true_eq] at h2 ⊢
              exact ⟨⟨by omega, h2.1.2⟩, h2.2⟩
        · rename_i hv
          simp only [memOk, Bool.and_eq_true]
          exact ⟨⟨h.1.1, by simpa using hv⟩, h.2⟩
      · rename_i h1 h2
        simp only [memOk, Bool.and_eq_true]
        refine ⟨h.1, ih h.2 fun b hb => ?_⟩
        cases hb
        omega

/-- Every memory operation keeps the canonical form. -/
theorem Memory.wf_memSet {m : List Host.Cell} (a : Nat) (v : Byte) (h : Memory.wf m = true) : Memory.wf (memSet a v m) = true :=
  memOk_memSet v h fun _ hb => by cases hb

theorem Memory.wf_memWrite {m : List Host.Cell} (a : Nat) (b : Bytes) (h : Memory.wf m = true) : Memory.wf (memWrite a b m) = true := by
  induction b generalizing a m with
  | nil => exact h
  | cons x t ih => exact ih _ (Memory.wf_memSet a x h)

theorem Memory.wf_nil : Memory.wf [] = true := rfl

/-- A byte reads back. -/
theorem memGet_memSet {lo : Option Nat} (a : Nat) (v : Byte) {m : List Host.Cell} (h : memOk lo m = true) : memGet a (memSet a v m) = v := by
  induction m generalizing lo with
  | nil => simp only [memSet]; split <;> simp_all [memGet]
  | cons p t ih =>
    obtain ⟨c, w⟩ := p
    simp only [memOk, Bool.and_eq_true] at h
    simp only [memSet]
    split
    · rename_i hac
      split
      · rename_i hv
        simp only [memGet, if_neg (show ¬a = c by omega), hv]
        exact memGet_low h.2 (by omega)
      · simp [memGet]
    · split
      · rename_i hac
        split
        · rename_i hv
          rw [hv, hac]
          exact memGet_low h.2 (Nat.le_refl _)
        · simp [memGet]
      · rename_i h1 h2
        simp only [memGet, if_neg h2]
        exact ih h.2

/-- Every other byte stays. -/
theorem memGet_memSet_ne {lo : Option Nat} {a b : Nat} (v : Byte) {m : List Host.Cell} (h : memOk lo m = true) (hb : b ≠ a) :
    memGet b (memSet a v m) = memGet b m := by
  induction m generalizing lo with
  | nil => simp only [memSet]; split <;> simp [memGet, hb]
  | cons p t ih =>
    obtain ⟨c, w⟩ := p
    simp only [memOk, Bool.and_eq_true] at h
    simp only [memSet]
    split
    · split
      · rfl
      · simp [memGet, hb]
    · split
      · rename_i hac
        split
        · simp only [memGet, if_neg (show ¬b = c by omega)]
        · simp only [memGet, if_neg hb, if_neg (show ¬b = c by omega)]
      · simp only [memGet, ih h.2]

end Sys2Proof.Machine
end

