-- ==== Sys2Proof/Laws/Registers.lean ====
section
/-!
SUPPORT. Reading back what was written: the key-value lists, the registers, and which registers the end of a meaning may change.
-/
namespace Sys2Proof.Machine

@[simp] theorem kvGet_kvSet {α : Type} (k : Nat) (v : α) (l : List (Nat × α)) : kvGet k (kvSet k v l) = some v := by
  induction l with
  | nil => simp [kvSet, kvGet]
  | cons p t ih =>
    obtain ⟨j, w⟩ := p
    simp only [kvSet]
    split
    · simp [kvGet]
    · split
      · simp [kvGet]
      · rename_i h
        simp only [kvGet, if_neg (Ne.symm h), ih]

theorem kvGet_kvSet_ne {α : Type} {j k : Nat} (v : α) (l : List (Nat × α)) (h : j ≠ k) : kvGet j (kvSet k v l) = kvGet j l := by
  induction l with
  | nil => simp [kvSet, kvGet, Ne.symm h]
  | cons p t ih =>
    obtain ⟨i, w⟩ := p
    simp only [kvSet]
    split
    · simp only [kvGet, if_neg (Ne.symm h)]
    · split
      · rename_i hk
        simp only [kvGet, if_neg (Ne.symm h), ← hk]
      · simp only [kvGet, ih]

/-- A register reads what was set. -/
@[simp] theorem State.reg_setReg (s : State) (r : OdRow) (v i : Nat) : (s.setReg r v i).reg r i = v := by
  simp [State.reg, State.setReg, Store.num, Store.setNum, kvGetD]

/-- Setting one register leaves every other. -/
theorem State.reg_setReg_ne (s : State) {r q : OdRow} {i j : Nat} (v : Nat) (h : r.key + i ≠ q.key + j) :
    (s.setReg q v j).reg r i = s.reg r i := by
  simp [State.reg, State.setReg, Store.num, Store.setNum, kvGetD, kvGet_kvSet_ne _ _ h]

theorem State.reg_count_ne (s : State) {r q : OdRow} {i j : Nat} (n : Nat) (h : r.key + i ≠ q.key + j) :
    (s.count q n j).reg r i = s.reg r i := State.reg_setReg_ne _ _ h

/-- Counting adds (R47's wrapping and saturating counters). -/
@[simp] theorem State.reg_count (s : State) (r : OdRow) (n i : Nat) : (s.count r n i).reg r i = r.counted (s.reg r i) n :=
  State.reg_setReg ..

/-- The number an entry holds, if it was ever set. -/
def State.num? (s : State) (key : Nat) : Option Nat := kvGet key s.od.regs.nums

theorem num?_setReg (s : State) (r : OdRow) (v i key : Nat) (h : key ≠ r.key + i) : (s.setReg r v i).num? key = s.num? key :=
  kvGet_kvSet_ne v s.od.regs.nums h

theorem num?_foldl {α : Type} (key : Nat) (f : State → α → State) (l : List α) (h : ∀ s, ∀ a ∈ l, (f s a).num? key = s.num? key) (s : State) :
    (l.foldl f s).num? key = s.num? key := by
  induction l generalizing s with
  | nil => rfl
  | cons a t ih => rw [List.foldl_cons, ih fun s x hx => h s x (List.mem_cons_of_mem _ hx), h s a (List.mem_cons_self ..)]

theorem num?_raiseOnce (s : State) (c u : Nat) (a : Bytes) (key : Nat) : (s.raiseOnce c u a).num? key = s.num? key := by
  unfold State.raiseOnce
  simp only []
  split <;> rfl

section
variable {key : Nat} (hk : endTouches key = false)
include hk

theorem endTouches_ne : key ≠ Od.irqPending.key ∧ key ≠ Od.notifyLost.key ∧ key ≠ Od.sluiceMerged.key := by
  simp only [endTouches, Bool.or_eq_false_iff, beq_eq_false_iff_ne] at hk
  exact ⟨hk.1.1.1.1.1, hk.1.1.1.1.2, hk.1.1.1.2⟩

theorem endTouches_range (p : Nat) : (p < 26 → key ≠ Od.gateAborts.key + p) ∧ (p < 26 → key ≠ Od.txComplLost.key + p) ∧
    (p < 48 → key ≠ Od.lampCuts.key + p) := by
  simp only [endTouches, Bool.or_eq_false_iff, Bool.and_eq_false_iff, decide_eq_false_iff_not] at hk
  obtain ⟨⟨⟨_, h1⟩, h2⟩, h3⟩ := hk
  refine ⟨fun h e => ?_, fun h e => ?_, fun h e => ?_⟩ <;> omega

theorem num?_sluiceEdge (s : State) (p : Nat) : (s.sluiceEdge p).num? key = s.num? key := by
  refine num?_foldl key _ _ (fun s a _ => ?_) s
  simp only []
  split
  · split
    · rw [num?_raiseOnce]; exact num?_setReg _ _ _ _ _ (endTouches_ne hk).2.2
    · rfl
  · rfl

theorem num?_watermark (s : State) (p : Nat) : (s.watermark p).num? key = s.num? key := by
  unfold State.watermark
  simp only []
  split
  · rw [num?_sluiceEdge hk]; split <;> rfl
  · split
    · rw [num?_sluiceEdge hk]; rfl
    · rfl

theorem num?_writePound (s : State) (p slot prio : Nat) (d : Bytes) : (s.writePound p slot prio d).1.num? key = s.num? key := by
  unfold State.writePound
  simp only []
  split
  · exact num?_watermark hk _ _
  · rfl

omit hk in
/-- A completion that is no late drop makes no tile hold. -/
theorem num?_noteCompletion (s : State) (p tag st : Nat) (h : st ≠ txLateDropped) (key : Nat) : (s.noteCompletion p tag st).num? key = s.num? key := by
  unfold State.noteCompletion
  simp only []
  split
  · rfl
  · rw [if_neg fun e => h e.2]

theorem num?_completeTx (s : State) (p : Nat) (hp : p < 26) (j : TxJob) (st : Nat) (hs : st ≠ txLateDropped) :
    (s.completeTx p j st).num? key = s.num? key := by
  unfold State.completeTx
  split
  · simp only []
    have w := num?_writePound hk s (s.reg Od.txComplPound p) 0 0
      (natBE 2 (dTag j.desc) ++ natBE 1 st ++ natBE 1 j.tc ++ natBE 4 j.sent ++ natBE 8 j.start ++ List.replicate 16 0#8)
    split
    · rename_i s' h
      rw [h] at w
      rw [num?_noteCompletion _ _ _ _ hs, w]
    · rename_i s' h
      rw [h] at w
      rw [State.count, num?_setReg _ _ _ _ _ ((endTouches_range hk p).2.1 hp), w]
  · rfl

theorem num?_abortGated (s : State) (p : Nat) (hp : p < 26) : (s.abortGated p).num? key = s.num? key := by
  unfold State.abortGated
  split
  · split
    · simp only []
      split
      · rw [num?_completeTx hk _ _ hp _ _ (by decide), State.count, num?_setReg _ _ _ _ _ ((endTouches_range hk p).1 hp)]; rfl
      · rw [num?_completeTx hk _ _ hp _ _ (by decide), num?_completeTx hk _ _ hp _ _ (by decide), State.count,
          num?_setReg _ _ _ _ _ ((endTouches_range hk p).1 hp)]; rfl
    · rfl
  · rfl

theorem num?_cutLamp (s : State) (p : Nat) (hp : p < 48) : (s.cutLamp p).num? key = s.num? key := by
  unfold State.cutLamp
  simp only []
  split
  · rfl
  · split
    · rw [num?_raiseOnce, State.count, num?_setReg _ _ _ _ _ ((endTouches_range hk p).2.2 hp)]; rfl
    · rfl

theorem num?_guardGate (s : State) : s.guardGate.num? key = s.num? key := by
  unfold State.guardGate
  split
  · rfl
  · show State.num? (State.releaseOutputs _) key = _
    have : ∀ u : State, u.releaseOutputs.num? key = u.num? key := fun _ => rfl
    rw [this, num?_foldl key _ _ fun s a ha => num?_cutLamp hk s a (List.mem_range.mp ha),
      num?_foldl key _ _ fun s a ha => num?_abortGated hk s a (List.mem_range.mp ha)]

omit hk in
theorem num?_send (s : State) (m : Sent) (key : Nat) : (s.send m).num? key = s.num? key := by
  unfold State.send
  repeat' split
  all_goals rfl

omit hk in
theorem num?_beaconOnChange (s0 s : State) (key : Nat) : (State.beaconOnChange s0 s).num? key = s.num? key := by
  unfold State.beaconOnChange State.sendBeacon State.toPartner
  simp only []
  split
  · rfl
  · split
    · exact num?_send ..
    · rfl

theorem nums_logEvent (o : OdState) (e : Event) : kvGet key (o.logEvent e).regs.nums = kvGet key o.regs.nums :=
  kvGet_kvSet_ne _ _ (endTouches_ne hk).1

theorem nums_dispatch (o : OdState) (e : Event) : kvGet key (o.dispatch e).regs.nums = kvGet key o.regs.nums := by
  unfold OdState.dispatch
  simp only []
  generalize (o.logEvent e).subs = l
  have h0 : kvGet key (o.logEvent e).regs.nums = kvGet key o.regs.nums := nums_logEvent hk o e
  revert h0
  generalize o.logEvent e = o'
  intro h0
  induction l generalizing o' with
  | nil => exact h0
  | cons a t ih =>
    rw [List.foldl_cons]
    refine ih _ ?_
    split
    · split
      · exact h0
      · rw [nums_logEvent hk]
        refine Eq.trans ?_ h0
        exact kvGet_kvSet_ne _ _ (endTouches_ne hk).2.1
    · exact h0

theorem num?_flush (s : State) : s.flush.num? key = s.num? key := by
  have : ∀ (l : List Event) (o : OdState), kvGet key (l.foldl OdState.dispatch o).regs.nums = kvGet key o.regs.nums := by
    intro l
    induction l with
    | nil => intro o; rfl
    | cons a t ih => intro o; rw [List.foldl_cons, ih, nums_dispatch hk]
  exact this s.od.raised { s.od with raised := [] }

/-- A register that the end of a meaning does not touch reads as the meaning left it. -/
theorem finish_num? {s0 s t : State} (h : finish s0 s = .next t) : t.num? key = s.num? key := by
  unfold finish State.ended at h
  have e := Host.Outcome.next.inj h
  rw [← e]
  have : ∀ (u : State) (q : List Instr), ({ u with pending := q } : State).num? key = u.num? key := fun _ _ => rfl
  rw [this, num?_flush hk, num?_beaconOnChange, num?_guardGate hk]

end

/-- The same of a register of a row. -/
theorem finish_reg {s0 s t : State} (h : finish s0 s = .next t) (r : OdRow) (i : Nat) (hk : endTouches (r.key + i) = false) :
    t.reg r i = s.reg r i := by
  have := finish_num? hk h
  simp only [State.num?] at this
  simp only [State.reg, Store.num, kvGetD, this]

theorem ended_reg (s0 s : State) (r : OdRow) (i : Nat) (hk : endTouches (r.key + i) = false) : (State.ended s0 s).reg r i = s.reg r i :=
  finish_reg (s0 := s0) rfl r i hk

end Sys2Proof.Machine
end

