-- ==== Sys2Proof/Laws/Server.lean ====
section
/-!
SUPPORT. How the OD server answers: a request or a message it takes is executed once, and one accepted item does what its entry does
and is answered.
-/
namespace Sys2Proof.Machine

/-- What moving the clock leaves. -/
theorem State.advance_eq (s : State) (dt : Nat) : s.advance dt = { s with tm := { s.tm with now := if s.alive then s.tm.now + dt else s.tm.now } } := by
  unfold State.advance
  split <;> simp_all

@[simp] theorem State.advance_reg (s : State) (dt : Nat) (r : OdRow) (i : Nat) : (s.advance dt).reg r i = s.reg r i := by
  rw [State.advance_eq]; rfl

@[simp] theorem State.advance_hears (s : State) (dt p : Nat) : (s.advance dt).hears p = s.hears p := by
  rw [State.advance_eq]; rfl

@[simp] theorem State.advance_portClass (s : State) (dt p : Nat) : (s.advance dt).portClass p = s.portClass p := by
  rw [State.advance_eq]; rfl

@[simp] theorem State.advance_kept (s : State) (dt : Nat) (src : Src) (seq : Nat) : (s.advance dt).od.kept? src seq = s.od.kept? src seq := by
  rw [State.advance_eq]

@[simp] theorem State.advance_aqInFlight (s : State) (dt : Nat) (src : Src) (seq : Nat) : (s.advance dt).aqInFlight src seq = s.aqInFlight src seq := by
  rw [State.advance_eq]; rfl

@[simp] theorem State.advance_underWay (s : State) (dt : Nat) (src : Src) (seq : Nat) : (s.advance dt).underWay src seq = s.underWay src seq := by
  rw [State.advance_eq]; rfl

@[simp] theorem State.advance_discards (s : State) (dt : Nat) (m : Msg) : (s.advance dt).discards m = s.discards m := by
  rw [State.advance_eq]; rfl

@[simp] theorem State.advance_waitsOn (s : State) (dt p : Nat) : (s.advance dt).waitsOn p = s.waitsOn p := by
  rw [State.advance_eq]; rfl

@[simp] theorem State.advance_device (s : State) (dt : Nat) : (s.advance dt).device = s.device := State.advance_reg ..

/-- A port's class rests on ROLE and the demotion of MGMT1 alone: counting something else leaves it. -/
theorem State.portClass_count (s : State) (r : OdRow) (n p : Nat) (h : r.key < Od.role.key ∨ Od.role.key + 24 ≤ r.key) :
    (s.count r n).portClass p = s.portClass p := by
  unfold State.portClass
  by_cases hp : p < 24
  · have : (s.count r n).reg Od.role p = s.reg Od.role p := State.reg_count_ne s n (by omega)
    simp only [this, hp, if_true]
    rfl
  · simp only [hp, if_false]
    rfl

@[simp] theorem State.served_portClass (s : State) (dt p : Nat) : (s.served dt).portClass p = s.portClass p := by
  rw [State.served, State.portClass_count _ _ _ _ (by decide), State.advance_portClass]

/-- What `served` leaves of what the server looks at. -/
theorem State.served_eq (s : State) (dt : Nat) : s.served dt = (s.advance dt).count Od.rxMsgs := rfl

theorem State.served_checks (s : State) (dt : Nat) (src : Src) (seq : Nat) :
    (s.served dt).od.kept? src seq = s.od.kept? src seq ∧ (s.served dt).aqInFlight src seq = s.aqInFlight src seq ∧
      (s.served dt).underWay src seq = s.underWay src seq ∧ (s.served dt).waitsOn src.port = s.waitsOn src.port := by
  rw [State.served, State.advance_eq]
  exact ⟨rfl, rfl, rfl, rfl⟩

theorem State.served_notServed (s : State) (dt cmd : Nat) : (s.served dt).notServed cmd = s.notServed cmd := by
  rw [State.served, State.advance_eq]; rfl

/-- What makes a message one the server takes, by its parts. -/
theorem State.takes_iff (s : State) (src : Src) (seq : Nat) : s.takes src seq = true ↔
    s.hears src.port = true ∧ (24 ≤ src.port ∨ s.reg Od.role src.port ≠ 2) ∧ s.portClass src.port ≠ 0 ∧ src.group = false ∧
      s.pwr.state ≠ 7 ∧ s.waitsOn src.port = false ∧ s.od.kept? src seq = none ∧ s.aqInFlight src seq = false ∧ s.underWay src seq = false := by
  simp only [State.takes, Bool.and_eq_true, Bool.or_eq_true, Bool.not_eq_true', bne_iff_ne, ne_eq, Option.isNone_iff_eq_none,
    decide_eq_true_eq, and_assoc]

/-- A WRITE is served in every power state but recovery's (R441). -/
theorem State.notServed_write {s : State} (h : s.pwr.state ≠ 7) : s.notServed 2 = none := by
  unfold State.notServed; simp [h]

/-- A command that any class may send, or of a class that may, is executed where its source and SEQ are new. -/
theorem State.serve_taken {s : State} {dt cmd : Nat} {m : Msg} {run : State → Answer} (h : s.takes m.src m.seq = true)
    (hc : (cmdClasses cmd &&& s.portClass m.src.port) ≠ 0) (hn : s.notServed cmd = none) :
    (s.served dt).serve cmd m run = State.conclude cmd m (run (s.served dt)) := by
  obtain ⟨_, _, _, _, _, _, hk, ha, hu⟩ := (s.takes_iff ..).mp h
  obtain ⟨e1, e2, e3, _⟩ := State.served_checks s dt m.src m.seq
  unfold State.serve
  simp only [e1, e2, e3, hk, ha, hu, Bool.false_eq_true, if_false, State.served_portClass, if_neg hc, State.served_notServed, hn]

/-- A request the server takes is one WRITE of its item. -/
theorem State.request_taken {s : State} {dt : Nat} {r : Req} (w : WriteItem) (bulk : Bool) (h : s.takes r.src r.seq = true)
    (hn : s.notServed 2 = none) :
    s.request dt r w bulk = State.conclude 2 (reqMsg r s.device) ((s.served dt).writeList r.src r.seq false [w] bulk) := by
  obtain ⟨hh, hr, hc, hg, _, hw, _⟩ := (s.takes_iff ..).mp h
  have ha : (s.advance dt).letInReq r = (s.served dt, true) := by
    unfold State.letInReq
    simp only [State.advance_hears, State.advance_reg, State.advance_portClass, hh, hg, if_neg hc, Bool.true_eq_false, Bool.false_eq_true, if_false]
    rw [if_neg (by rintro ⟨h1, h2⟩; rcases hr with h | h <;> omega)]
    rfl
  have hcls : cmdClasses 2 &&& s.portClass r.src.port ≠ 0 := by
    have : s.portClass r.src.port = 1 ∨ s.portClass r.src.port = 2 ∨ s.portClass r.src.port = 4 := by
      revert hc
      unfold State.portClass
      repeat' split
      all_goals simp
    rcases this with e | e | e <;> rw [e] <;> decide
  have hd : (s.served dt).device = s.device := by
    rw [State.served, State.device, State.reg_count_ne _ _ (by decide), State.advance_reg]; rfl
  unfold State.request
  rw [ha]
  simp only [(State.served_checks s dt r.src r.seq).2.2.2, hw, Bool.false_and, Bool.false_eq_true, if_false, hd]
  exact State.serve_taken (m := reqMsg r s.device) h hcls hn

/-- One accepted item of a request does what its entry does, and is answered. -/
theorem State.request_accepted {s : State} {dt : Nat} {r : Req} {w : WriteItem} {bulk : Bool} (h : s.takes r.src r.seq = true)
    (ha : (s.served dt).accepts r w bulk) :
    s.request dt r w bulk = answered r w ((s.served dt).runItem (s.portClass r.src.port) r w) := by
  rw [State.request_taken w bulk h (State.notServed_write ((s.takes_iff ..).mp h).2.2.2.2.1)]
  generalize hu : s.served dt = u at *
  obtain ⟨hw, hck⟩ := ha
  have hp : u.portClass r.src.port = s.portClass r.src.port := by rw [← hu, State.served_portClass]
  have hg : r.src.group = false := ((s.takes_iff ..).mp h).2.2.2.1
  rw [hp] at hck
  unfold State.writeList State.writeAll
  simp only [List.any_cons, List.any_nil, Bool.or_false, hw, Bool.false_eq_true, if_false, List.map_cons, List.map_nil, hp, hck]
  have : (stOk != stOk) = false := rfl
  simp only [this, Bool.false_eq_true, if_false, State.runItems, List.foldl_cons, List.foldl_nil, List.nil_append, List.any_cons, List.any_nil,
    Bool.or_false]
  have hr : ({ src := r.src, seq := r.seq } : Req) = r := rfl
  rw [hr]
  generalize he : u.runItem (s.portClass r.src.port) r w = e
  obtain ⟨t, st, wait⟩ := e
  have hg' : (reqMsg r s.device).src.group = false := hg
  cases hst : refuses st with
  | true =>
    simp only [if_true, State.refuseItems, List.zip_cons_cons, List.zip_nil_right, List.foldl_cons, List.foldl_nil, hst, he, statusOf,
      answered, State.conclude, hg', Bool.false_eq_true, if_false, List.flatMap_cons, List.flatMap_nil, List.append_nil, List.find?_cons, ne_eq, not_true_eq_false]
    rfl
  | false =>
    have hs : statusOf [w] [st] = (st, w.index, w.sub) ∨ (st = stOk ∧ statusOf [w] [st] = (stOk, 0, 0)) := by
      by_cases h0 : st = stOk
      · right; refine ⟨h0, ?_⟩
        subst h0; rfl
      · left
        simp [statusOf, hst, h0]
    have hs1 : (statusOf [w] [st]).1 = st := by rcases hs with h | ⟨h, h'⟩ <;> simp_all
    cases wait with
    | none =>
      simp only [Bool.false_eq_true, if_false, List.zip_cons_cons, List.zip_nil_right, answered, State.conclude, hg', hst, hs1,
        Option.toList_none, ne_eq, not_true_eq_false, List.flatMap_cons, List.flatMap_nil, List.append_nil]
      rfl
    | some k =>
      simp only [Bool.false_eq_true, if_false, List.zip_cons_cons, List.zip_nil_right, answered, State.conclude, hg', hst, hs1,
        Option.toList_some, ne_eq, List.flatMap_cons, List.flatMap_nil, List.append_nil, List.cons_ne_nil,
        not_false_eq_true, if_true]
      rfl

/-- No message of a port waits: none is first there. -/
theorem State.dequeue_none {s : State} {cmd : Nat} {m : Msg} (h : s.waitsOn m.src.port = false) : s.dequeue cmd m = none := by
  simp only [State.waitsOn, Bool.or_eq_false_iff, List.any_eq_false] at h
  have h1 : (s.od.inQ.findIdx? fun q => q.2.2.src.port == m.src.port) = none := by
    rw [List.findIdx?_eq_none_iff]; intro x hx; simpa using h.1 x hx
  have h2 : (s.aq.serve.findIdx? fun q => q.2.2.src.port == m.src.port) = none := by
    rw [List.findIdx?_eq_none_iff]; intro x hx; simpa using h.2 x hx
  unfold State.dequeue
  rw [h1, h2]

/-- A message the server takes is executed as it arrives. -/
theorem State.message_taken {s : State} {dt cmd : Nat} {m : Msg} {run : State → Answer} (h : s.takesMsg cmd m = true) :
    s.message dt cmd m run = State.conclude cmd m (run (s.served dt)) := by
  simp only [State.takesMsg, Bool.and_eq_true, Bool.not_eq_true', bne_iff_ne, ne_eq, Option.isNone_iff_eq_none] at h
  obtain ⟨⟨⟨ht, hd⟩, hc⟩, hn⟩ := h
  obtain ⟨hh, hr, hcl, hg, _, hw, _⟩ := (s.takes_iff ..).mp ht
  have hq : (s.advance dt).dequeue cmd m = none := State.dequeue_none (by rw [State.advance_waitsOn]; exact hw)
  have : (s.advance dt).letIn cmd m = (s.served dt, true) := by
    unfold State.letIn
    rw [hq]
    simp only [State.advance_hears, State.advance_reg, State.advance_portClass, State.advance_discards, State.advance_waitsOn, hh, hg, hd, hw,
      notGroup, if_neg hcl, Bool.true_eq_false, Bool.false_eq_true, Bool.false_and, Bool.or_false, if_false]
    rw [if_neg (by rintro ⟨h1, h2⟩; rcases hr with h | h <;> omega)]
    rfl
  unfold State.message State.nextOf
  rw [this]
  simp only [hq, Option.isSome_none, Bool.false_eq_true, if_false]
  exact State.serve_taken ht hc hn

end Sys2Proof.Machine
end

