-- ==== Sys2Proof/Tests/Slice0.lean ====
section
/-!
SUPPORT. Small tests: for every statement with hypotheses concrete states and operands that meet them, each clause at least once, with
what the step then leaves; an ill-formed term for every check of WellFormed; and the manual's worked figures.
-/
namespace Sys2Proof.Tests
set_option Elab.async false
open Sys2Proof Sys2Proof.Machine

/-- The next state of an outcome; the reset state where there is none. -/
def nx : Host.Outcome State Fault Refusal → State
  | .next t => t
  | _ => State.reset

/-- A command does exactly this. -/
def does (c : Instr) (s t : State) : Bool :=
  match exec c s with
  | .next u => decide (u = State.ended s t)
  | _ => false

/-- A request that passes every check of R72. -/
def acc (s : State) (r : Req) (w : WriteItem) (bulk : Bool := false) : Bool :=
  inWindow w.index == false && s.checkItem (s.hypothesis [w]) (s.portClass r.src.port) r.src.port bulk w == stOk

/-- Running, every domain on, in STANDBY. -/
def up : State := { pwr := { state := 2, cause := 1, doms := 0 :: List.replicate 12 1 }, tow := { state := 1 } }

/-- The same, ACTIVE with the gate open. -/
def act : State := { up with tow := { up.tow with state := 3, hold := true } }

def spi : Src := { port := 26 }
def rq : Req := { src := spi, seq := 7 }

def ev : Event := { code := 0x3001, frame := 0, time := 0, arg := padTo 8 [] }

theorem test_front_command :
  (match step { up with pending := [.tickOutFall, .slewDone] } with | .next t => decide (t.pending = [Instr.slewDone]) | _ => false) = true := by decide +kernel
theorem test_empty_queue_idles : (match step up with | .next t => t.now == 0 && t.od.log.isEmpty | _ => false) = true := by decide +kernel
theorem test_queue_kept : (decide ((nx (exec .slewDone { up with pending := [.tick (some 0)] })).pending = [Instr.tick (some 0)])) = true := by decide +kernel
theorem test_undefined_start :
  ((match exec (.porstRelease 5 0 false) State.reset with
    | .fault f => decide (f = .undefinedStart) | _ => false) &&
   decide (State.reset.pwr.state = 0 ∧ State.reset.pwr.cause = 1 ∧ State.reset.pwr.railsOk = true)) = true := by decide +kernel
theorem test_gate_open : (act.gate && !({ act with tow := { act.tow with hold := false } }).gate) = true := by decide +kernel
theorem test_gate_shut_releases :
  (let s := { act with ras := { act.ras with pins := [1, 1] } }
   let t := nx (exec (.release 5 rq) s)
   s.gate && !t.gate && t.ras.pins == [0, 0]) = true := by decide +kernel
theorem test_event_logged :
  (let t := nx (exec (.domainFault 3) { up with pwr := { up.pwr with doms := (up.pwr.doms.set 3 2) } })
   t.od.raised == [] && t.od.log.map Event.code == [0xE008, 0x2009, 0x2009] && bit (t.reg Od.irqPending) 14 && bit (t.reg Od.irqPending) 2) = true := by decide +kernel
theorem test_log_holds_256 :
  (let s := { up with od := { up.od with log := List.replicate 256 ev, raised := [{ ev with code := 0x2401 }] } }
   s.flush.od.log.length == 256 && (s.flush.od.log.getLast?.map Event.code) == some 0x2401 && decide (s.od.log.length ≤ 256) &&
     s.od.subs == []) = true := by decide +kernel
theorem test_full_queue_notifies_lost :
  (let b : Sub := { src := spi, cls := 1, lo := 0, hi := 0xFFFF, expires := 9, queue := List.replicate 64 (0, ev) }
   let s := { up with od := { up.od with subs := [(2, b)], raised := [ev] } }
   s.flush.od.log.map Event.code == [0x3001, 0x1002] && bit (s.flush.reg Od.irqPending) 1) = true := by decide +kernel
theorem test_irq_pending_write :
  (let s := up.setReg Od.irqPending 0xC006
   let w := Od.irqPending.numItem 0 0x8002
   s.takes spi 7 && acc (s.served 5) rq w && (nx (exec (.irqPendingWrite 5 rq 0x8002) s)).reg Od.irqPending == 0x4004) = true := by decide +kernel
theorem test_irq_low : ((((up.setReg Od.irqPending 6).setReg Od.irqMask 2).irqLow) && !((up.setReg Od.irqPending 4).setReg Od.irqMask 2).irqLow) = true := by decide +kernel
theorem test_end_keeps_rest :
  (up.still && (State.ended up up).reg Od.commitCutoff == up.reg Od.commitCutoff && !endTouches Od.commitCutoff.key) = true := by decide +kernel

/-! ### Time -/

theorem test_tick_out_fall :
  (let s := { up with tl := { up.tl with tickOut := 1, tickOutEnd := 900 } }
   let t := nx (exec .tickOutFall s)
   s.tl.tickOut == 1 && t.tl.tickOut == 0 && t.now == 900) = true := by decide +kernel

/-- A domain that is locked is selected, and PPS_OUT enabled. -/
def locked : State :=
  { (((up.setReg Od.ppsOutEn 1).setReg (Od.ptpState.inst 0) 3).setReg Od.timeSet 1) with tm := { up.tm with now := 1999999999, doms := [{ state := 3, lastSync := 10 }, {}] } }

theorem test_pps_rise_locked :
  (let t := nx (exec .ppsOutRise locked)
   locked.alive && locked.reg Od.ppsOutEn != 0 && locked.timeLocked && t.now == 2000000000 && t.tm.ppsOut == 1) = true := by decide +kernel
theorem test_pps_rise_unlocked :
  (let s := { locked with tm := { locked.tm with doms := [{}, {}] } }
   let t := nx (exec .ppsOutRise s)
   s.alive && s.reg Od.ppsOutEn == 1 && !s.timeLocked && t.now == 2000000000 && t.tm.ppsOut == 0) = true := by decide +kernel
theorem test_pps_fall :
  (let s := { up with tm := { up.tm with ppsOut := 1, ppsOutEnd := 77 } }
   let t := nx (exec .ppsOutFall s)
   s.alive && t.tm.ppsOut == 0 && t.now == 77) = true := by decide +kernel

/-- PPS_IN in a mode, the clock `n` ns past a second. -/
def pps (mode n : Nat) : State := { up.setReg Od.ppsInMode mode with tm := { up.tm with now := 5000000000 + n } }

theorem test_pps_in_off : (decide ((pps 0 300).reg Od.ppsInMode = 0) && (nx (exec (.ppsInEdge 0) (pps 0 300))).reg Od.ppsInEdges == 0) = true := by decide +kernel
theorem test_pps_in_far :
  (let t := nx (exec (.ppsInEdge 0) (pps 1 1000001))
   t.reg Od.ppsInFarCount == 1 && t.reg Od.ppsInEdges == 1 && t.reg Od.ppsInOffset == 0 && t.od.log.map Event.code == [0x2008]) = true := by decide +kernel
theorem test_pps_in_near :
  (let t := nx (exec (.ppsInEdge 0) (pps 1 1000000))
   t.reg Od.ppsInFarCount == 0 && t.reg Od.ppsInOffset == 1000000 && t.od.log == []) = true := by decide +kernel
theorem test_pps_in_assist_not_holdover :
  (let s := pps 2 300
   (s.dom s.sel).state != 4 && (nx (exec (.ppsInEdge 0) s)).reg Od.ppsInOffset == 300) = true := by decide +kernel
theorem test_pps_in_assist_holdover :
  (let s := { pps 2 300 with tm := { (pps 2 300).tm with doms := [{ state := 4, holdFreq := 5000 }, {}] } }
   let t := nx (exec (.ppsInEdge 0) s)
   (s.dom s.sel).state == 4 && s.sel == 0 && (s.dom 0).holdFreq == 5000 && t.reg Od.ppsInOffset == 300) = true := by decide +kernel

theorem test_slew_done :
  (let s := { up with tm := { up.tm with slew := some (100, -2000), doms := [{ off := -2500 }, {}] } }
   let t := nx (exec .slewDone s)
   t.tm.slew == none && (t.dom 0).off == -500) = true := by decide +kernel
theorem test_switch_at_refused :
  (let s := (up.setReg Od.switchAt (timeOfNs 4000)).setReg Od.timeSet 1
   let t := nx (exec .scheduledSwitch s)
   s.reg Od.switchAt != 0 && (s.dom 1).state != 3 && t.reg Od.switchAt == 0 && t.sel == 0 && t.od.log.map Event.code == [0x200A] && t.now == 4000) = true := by decide +kernel
theorem test_switch_at_switches :
  (let s := { (up.setReg Od.switchAt (timeOfNs 4000)).setReg Od.timeSet 1 with tm := { up.tm with doms := [{}, { state := 3 }] } }
   let t := nx (exec .scheduledSwitch s)
   (s.dom 1).state == 3 && s.sel == 0 && t.sel == 1 && t.reg Od.switches == 1) = true := by decide +kernel

/-- Domain A in a state. -/
def domA (d : PtpDomain) : State := { ((up.setReg (Od.ptpState.inst 0) d.state).setReg Od.autoSwitch 0) with tm := { up.tm with doms := [d, {}] } }
def ann : Announce :=
  { domainNumber := 0, gm := 5, priority1 := 128, clockClass := 6, accuracy := 0x21, variance := 9, priority2 := 128, stepsRemoved := 0
    sender := 5, senderPort := 1, logInterval := 0, utcOffset := 37 }

theorem test_sync_timeout :
  (let s := domA { state := 3, lastSync := 1000, logSync := -3 }
   let t := nx (exec (.syncTimeout 0) s)
   s.reg Od.autoSwitch == 0 && (t.dom 0).state == 4 && t.reg (Od.ptpState.inst 0) == 4 && t.reg (Od.ptpLockLosses.inst 0) == 1 && t.now == 1000 + 500000000) = true := by decide +kernel
theorem test_holdover_expired :
  (let s := domA { state := 4, holdSince := 1000 }
   let t := nx (exec (.holdoverExpired 0) s)
   (t.dom 0).state == 1 && t.now == 1000 + s.reg (Od.ptpHoldoverLimit.inst 0) * 1000000000) = true := by decide +kernel
theorem test_announce_timeout :
  (let s := domA { state := 2, chosen := some ann, lastAnnounce := 50 }
   let t := nx (exec (.announceReceiptTimeout 0) s)
   (s.dom 0).chosen == some ann && (t.dom 0).chosen == none && (t.dom 0).state == 1 && t.reg (Od.ptpAnnounceTimeouts.inst 0) == 1 &&
     t.now == 50 + s.announceTimeout 0 0) = true := by decide +kernel

/-- Domain A listens on port 0, which runs. -/
def ptp (d : PtpDomain) : State :=
  { ((((domA d).setReg (Od.ptpEnable.inst 0) 1).setReg (Od.ptpPort.inst 0) 0).setReg (Od.ptpDomainNumber.inst 0) 0) with tm := { up.tm with now := 10000, doms := [d, {}] } }
def sy : SyncMsg := { domainNumber := 0, sender := 5, senderPort := 1, logInterval := -3, origin := 900, correction := 0, capture := 1000 }
def dr : DelayResp := { domainNumber := 0, sender := 5, senderPort := 1, seq := 0, logInterval := 0, t4 := 100 }

theorem test_ptp_announce :
  (let s := ptp { state := 1 }
   (s.advance 5).domOn (portDomain 0) && ((s.advance 5).ptpFor 0 0).2 == some 0 && (nx (exec (.ptpAnnounceRx 5 0 ann) s)).now == 10005) = true := by decide +kernel
theorem test_ptp_other_domain :
  (let s := ptp { state := 1 }
   ((s.advance 5).ptpFor 0 9).2 == none &&
   (nx (exec (.ptpSyncRx 5 0 { sy with domainNumber := 9 }) s)).reg (Od.ptpRxDiscarded.inst 0) == 1) = true := by decide +kernel
theorem test_ptp_two_domains_ask :
  (let s := ptp { state := 1 }
   (((s.advance 0).domsOn 0).find? (fun d => s.reg (Od.ptpDomainNumber.inst d) == 9)) == none && (s.advance 0).domsOn 0 == [0]) = true := by decide +kernel
theorem test_pdelay_req :
  (let s := ptp { state := 1 }
   let u := s.setReg (Od.ptpProfile.inst 0) 2
   s.reg (Od.ptpProfile.inst 0) != 2 && (nx (exec (.ptpPdelayReqRx 0 0 0 44 6) s)).reg (Od.ptpRxDiscarded.inst 0) == 1 &&
     ((nx (exec (.ptpPdelayReqRx 0 0 0 44 6) u)).dom 0).respTo == some (44, 6)) = true := by decide +kernel

theorem test_offset_locks :
  (let d : PtpDomain := { state := 2, good := 15 }
   ((((ptp d).syncState 0 0).dom 0).state) == 3 && ((((ptp { d with good := 14 }).syncState 0 0).dom 0).state) == 2 &&
     ((((ptp { state := 3, bad := 3 }).syncState 0 5000000000).dom 0).state) == 2 && ((((ptp { state := 4 }).syncState 0 0).dom 0).state) == 4 &&
     ((((ptp { state := 4, regained := 3 }).syncState 0 0).dom 0).state) == 3) = true := by decide +kernel

theorem test_delay_req :
  (let s := ptp { state := 2, chosen := some ann }
   let t := nx (exec (.delayReqSend 5 0) s)
   (s.dom 0).state != 0 && decide ((s.dom 0).nextReq ≤ (s.advance 5).now) && (s.advance 5).domOn (portDomain (s.reg (Od.ptpPort.inst 0))) && (s.dom 0).chosen.isSome &&
     (t.dom 0).reqSeq == 0 && t.tm.ptpSeq == 1) = true := by decide +kernel
theorem test_tsq_deliver :
  (let e := natBE 2 0xF000 ++ natBE 2 0 ++ natBE 12 (7 * 65536)
   let s := { ptp { state := 2, reqOpen := true } with tm := { (ptp { state := 2, reqOpen := true }).tm with tsq := [(3, [e])] } }
   let t := nx (exec (.tsqEntryDeliver 5 3) s)
   (s.dom 0).reqOpen && s.tsq 3 == [e] && u16 e 0 == 0xF000 && t.tsq 3 == [] && (t.dom 0).reqTime == some (captureNs (slice e 4 12))) = true := by decide +kernel

/-! ### The timeline and commits -/

/-- A running timeline at 60 Hz just before tick 60. -/
def tlUp : State :=
  { up.setReg Od.timelineState 1 with tm := { up.tm with now := 999000000 }, tl := { up.tl with nextTick := 60, nextCut := 61, first := 10 } }

theorem test_tick :
  (let t := nx (exec (.tick (some 0)) tlUp)
   tlUp.alive && tlUp.tl.awaitAck == none && tlUp.oldDue == none && t.now == 1000000000 && t.tl.nextTick == 61) = true := by decide +kernel
theorem test_old_tick :
  (let s := { tlUp with tl := { tlUp.tl with oldGrids := [(7, 49, 50, 100)] } }
   s.oldDue == some (7, 49, 50, 100) && (nx (exec (.tick (some 0)) s)).now == 999000000) = true := by decide +kernel
theorem test_tick_missed :
  (let s := { tlUp with tl := { tlUp.tl with awaitAck := some (9, 60) } }
   let t := nx (exec .tickMissed s)
   s.running && s.tow.state != 3 && t.tl.awaitAck == none && t.now == 1000100000 && t.reg Od.missedTicks == 1) = true := by decide +kernel
theorem test_timeline_start :
  (let s := { (up.setReg Od.timeSet 1).setReg Od.commitCutoff 1000 with tm := { up.tm with now := 999000000, doms := [{ state := 3 }, {}] } }
   let t := nx (exec (.timelineStart 1000000) s)
   (s.advance 1000000).mayStart && s.tl.startFrame == none && t.reg Od.timelineState == 1 && t.tl.first == 61) = true := by decide +kernel

def fr : Frame := { k := 61, rate := 9, cfg := {}, closed := true, outs := [{ out := .str 2, lam := 5000 }], temps := [] }
/-- One frame in flight. -/
def tlFr (f : Frame) : State := { tlUp with tl := { tlUp.tl with frames := [f] } }

theorem test_cutoff :
  (let s := { tlUp with tl := { tlUp.tl with newest := ({} : Store).setNum Od.commitCutoff 0, waiting := [{ bound := 61, vals := [(Od.presentDelay.key, .num 3)] }, { bound := 62, vals := [(Od.presentDelay.key, .num 4)] }] } }
   let t := nx (exec .frameCutoff s)
   s.domOn 1 && s.running && (s.settingsAt 61).num Od.frameRate == s.tl.rate && t.tl.newest.num Od.presentDelay == 3 && t.tl.nextCut == 62 &&
     t.tl.waiting.map Commit.bound == [62] && (t.tl.frames.getLast?.map fun f => (f.k, f.closed)) == some (61, false)) = true := by decide +kernel
theorem test_hold_decision :
  (let s := tlFr fr
   let t := nx (exec (.holdDecision (.str 2)) s)
   s.tl.frames.find? (fun f => f.closed && (match f.out? (.str 2) with | some x => x.decision == 0 | none => false)) == some fr &&
     fr.out? (.str 2) == some { out := .str 2, lam := 5000 } && t.now == fr.presentAt - 5000 - s.reg Od.launchGuard * 1000 && t.reg Od.holds == 1) = true := by decide +kernel
theorem test_output_launch :
  (let f := { fr with outs := [{ out := .str 2, lam := 5000, decision := 2 }] }
   let t := nx (exec (.outputLaunch (.str 2)) (tlFr f))
   t.now == f.presentAt - 5000) = true := by decide +kernel
theorem test_abandoned_holds :
  (let f := { fr with abandoned := true }
   !f.endsOnly (.str 2) && f.abandoned && ((tlFr f).decide_ f (.str 2)).reg Od.holds == 1) = true := by decide +kernel
theorem test_complete_launches :
  (let s := { tlFr fr with lk := { tlUp.lk with graphs := [(61, {})] } }
   !fr.endsOnly (.str 2) && !fr.abandoned && s.outComplete fr (.str 2) && !(s.outState (.str 2)).latOver && !fr.forcedOut (.str 2) &&
     (s.decide_ fr (.str 2)).reg Od.holds == 0) = true := by decide +kernel

/-- Worked example of spec/02: 60 Hz, cut-off 1,000 µs; accepted exactly at tick 61 − COMMIT_CUTOFF, a commit binds to frame 62. -/
theorem test_bind_exactly_at_cutoff :
  (let s := { tlUp.setReg Od.commitCutoff 1000 with tm := { tlUp.tm with now := 1015666666 } }
   s.now + s.reg Od.commitCutoff * 1000 == tickTime s.tl.rate 61 && decide (s.tl.nextCut ≤ 62) && s.firstFrame == 62 &&
     (({ s with tm := { s.tm with now := 1015666665 } } : State).firstFrame == 61)) = true := by decide +kernel
theorem test_bind_timed :
  ((tlUp.bindAt (some 2000000000) fun _ => 2).1 == 118 && (tlUp.bindAt (some 2000000001) fun _ => 2).1 == 119 && !(tlUp.bindAt (some 2000000000) fun _ => 2).2 &&
     (tlUp.bindAt (some 1000000000) fun _ => 2).2) = true := by decide +kernel

def wCommit : WriteItem := Od.commit.numItem 0 0

theorem test_commit :
  (let t := nx (exec (.commit 5 rq) tlUp)
   tlUp.takes spi 7 && acc (tlUp.served 5) rq wCommit && t.tl.waiting.map Commit.bound == [61] && t.reg Od.boundFrame == 61 &&
     (t.od.spiReplies.map fun m => (m.cmd, m.seq, m.status)) == [(2, 7, 0)]) = true := by decide +kernel
theorem test_commit_at :
  (let t := nx (exec (.commitAt 5 rq (timeOfNs 2000000000)) tlUp)
   acc (tlUp.served 5) rq (Od.commitAt.numItem 0 (timeOfNs 2000000000)) && decide (timeOfNs 2000000000 < 2 ^ 80) && t.tl.waiting.map Commit.bound == [118]) = true := by decide +kernel

/-- A message to device 0. -/
def msg (payload : Bytes) : Msg := { src := spi, seq := 7, device := 0, length := payload.length, payload := payload }

theorem test_commit_cmd :
  (let m := msg []
   let t := nx (exec (.commitCmd 5 m) tlUp)
   tlUp.takesMsg 7 m && m.payload == [] && t.tl.waiting.map Commit.bound == [61] &&
     (t.od.spiReplies.map fun r => (r.cmd, r.status, r.payload)) == [(7, 0, natBE 4 61 ++ natBE 4 0)]) = true := by decide +kernel
theorem test_commit_cmd_timed :
  (let m := msg (natBE 10 (timeOfNs 2000000000))
   tlUp.takesMsg 7 m && m.payload.length == 10 && timeOk (beNat m.payload) && (nx (exec (.commitCmd 5 m) tlUp)).tl.waiting.map Commit.bound == [118]) = true := by decide +kernel
theorem test_cancel_pending :
  (let s := { tlUp with tl := { tlUp.tl with waiting := [{ bound := 70, vals := [(Od.presentDelay.key, .num 4)] }], dirty := [(Od.frameRate.key, .num 9)] } }
   let t := nx (exec (.cancelPending 5 rq) s)
   s.takes spi 7 && acc (s.served 5) rq (Od.cancelPending.numItem 0 0) && t.tl.waiting == [] && (t.tl.dirty.map (·.1)) == [Od.presentDelay.key, Od.frameRate.key]) = true := by decide +kernel
theorem test_fifth_commit_busy :
  (let s := { tlUp with tl := { tlUp.tl with waiting := List.replicate 4 { bound := 70, vals := [] } } }
   (s.commitDirty 1 none).2.1 == stBusy && decide (4 ≤ s.tl.waiting.length)) = true := by decide +kernel
theorem test_late_commit :
  ((tlUp.commitDirty 1 (some 1000000000)).2.1 == stLateBound && (tlUp.commitDirty 1 (some 1000000000)).2.2 == 61) = true := by decide +kernel
theorem test_far_commit : ((tlUp.commitDirty 1 (some 90000000000000)).2.1 == stRange) = true := by decide +kernel

/-- A group message: DEVICE 4095, EXEC_TIME and zeros. -/
def gsrc : Src := { port := 24, addr := 9, udp := 4000, group := true }
def gm (t : Nat) : Msg := { src := gsrc, seq := 3, device := 4095, length := 16, payload := natBE 10 (timeOfNs t) ++ natBE 6 0 }

theorem test_group_ignored :
  (tlUp.takesGroup 7 (gm 2000000000) && tlUp.takesGroup 0xB (gm 2000000000) && tlUp.takesGroup 0xC (gm 2000000000) && tlUp.reg Od.numberSet == 0 &&
     (nx (exec (.groupCommit 5 (gm 2000000000)) tlUp)).reg Od.groupIgnored == 1) = true := by decide +kernel
def tlNum : State := tlUp.setReg Od.numberSet 1
theorem test_group_commit :
  (let t := nx (exec (.groupCommit 5 (gm 2000000000)) tlNum)
   tlNum.takesGroup 7 (gm 2000000000) && tlNum.reg Od.numberSet == 1 && t.tl.waiting.map Commit.bound == [118] && t.od.groups.length == 1) = true := by decide +kernel
theorem test_group_snapshot :
  ((nx (exec (.groupSnapshot 5 (gm 2000000000)) tlNum)).od.groups.map GroupCmd.bound == [118]) = true := by decide +kernel
theorem test_group_reset_late :
  (let t := nx (exec (.groupReset 5 (gm 1000000000)) tlNum)
   t.od.groups.map GroupCmd.bound == [61] && t.reg Od.groupLate == 1) = true := by decide +kernel
theorem test_group_reply :
  (let s := nx (exec (.groupCommit 5 (gm 2000000000)) (tlNum.setReg Od.deviceNumber 66))
   let t := nx (exec .groupReplySend s)
   s.nextReply.isSome && t.now == 2000000000 + 2 * 10 * 1000 && t.od.groups == [] && (t.od.sent.map (·.cmd)) == [7]) = true := by decide +kernel

/-! ### The object dictionary server -/

theorem test_lane_en :
  (acc (up.served 5) rq (Od.laneEn.numItem 3 0) && (nx (exec (.laneEnWrite 5 rq 3 0) up)).od.pend.map (·.1) == [Od.laneEn.key + 3]) = true := by decide +kernel
theorem test_port_en :
  (acc (up.served 5) rq (Od.portEn.numItem 3 0) && (nx (exec (.portEnWrite 5 rq 3 0) up)).od.pend.map (·.1) == [Od.portEn.key + 3]) = true := by decide +kernel
theorem test_domain_enable :
  (acc (up.served 5) rq ((Od.ptpEnable.inst 1).numItem 0 1) && (nx (exec (.domainEnableWrite 5 rq 1 1) up)).od.pend.map (·.1) == [(Od.ptpEnable.inst 1).key]) = true := by decide +kernel
theorem test_domain_en :
  (let v := up.reg Od.domainEn
   decide (v < 256 ^ Od.domainEn.len) && acc (up.served 5) rq (Od.domainEn.numItem 0 v) && (nx (exec (.domainEnWrite 5 rq v) up)).od.pend.map (·.1) == [Od.domainEn.key]) = true := by decide +kernel
theorem test_standby_mode :
  (acc (up.served 5) rq (Od.standbyMode.numItem 0 1) && (nx (exec (.standbyModeWrite 5 rq 1) up)).od.pend.map (·.1) == [Od.standbyMode.key]) = true := by decide +kernel
theorem test_register_write :
  (let w : WriteItem := { index := 0x1401, sub := 0, ty := Od.commitCutoff.ty, flags := 0, value := natBE Od.commitCutoff.len 1500 }
   acc (up.served 5) rq w && (nx (exec (.registerWrite 5 rq w.index w.sub w.ty w.value) up)).od.pend.map (fun p => (p.1, p.2.1)) == [(Od.commitCutoff.key, .num 1500)]) = true := by decide +kernel
theorem test_last_write_wins :
  (let s := { up with od := { up.od with pend := [(Od.commitCutoff.key, .num 900, 1), (Od.commitCutoff.key, .num 1500, 2)] }, tm := { up.tm with now := 9 } }
   s.applyPend.reg Od.commitCutoff == 1500 && s.applyPend.od.pend == [] && s.applyPend.od.journalQ.map (·.1) == [Od.commitCutoff.key] && s.now == 9) = true := by decide +kernel

/-- A WRITE payload of two items: a value out of range, and one in range. -/
def two : List WriteItem :=
  [{ index := 0x1401, sub := 0, ty := Od.commitCutoff.ty, flags := 0, value := natBE Od.commitCutoff.len 1500 }, { index := 0x7FFF, sub := 0, ty := 2, flags := 0, value := [0#8] }]
def wire (w : WriteItem) : Bytes := natBE 2 w.index ++ natBE 1 w.sub ++ natBE 1 w.ty ++ natBE 2 w.flags ++ natBE 2 w.value.length ++ padTo ((w.value.length + 3) / 4 * 4) w.value

theorem test_write_refused_whole :
  (let m := msg (two.flatMap wire)
   let u := up.served 5
   let sts := two.map (u.checkItem (u.hypothesis two) (up.portClass 26) 26 false)
   let t := nx (exec (.write 5 m) up)
   up.takesMsg 2 m && writeItems m.payload == some two && !(two.any fun w => inWindow w.index) && sts == [stOk, stNoEntry] &&
     (sts.all fun x => x == stOk || refuses x) && t.od.pend == [] && t.od.spiReplies.map (·.status) == [stNoEntry]) = true := by decide +kernel
theorem test_read :
  (let m := msg (natBE 2 0x1401 ++ natBE 1 0 ++ natBE 1 0)
   let t := nx (exec (.read 5 m) up)
   up.takesMsg 1 m && readItems m.payload == some [{ index := 0x1401, sub := 0, flags := 0 }] && (t.od.spiReplies.map (·.status)) == [0] && (t.od.kept? spi 7).isNone) = true := by decide +kernel
theorem test_write_posted :
  (let m := msg (two.flatMap wire)
   let t := nx (exec (.writePosted 5 m) up)
   up.takesMsg 3 m && t.reg Od.postedFails == 1 && t.od.spiReplies == [] && t.od.log.map Event.code == [0x1001]) = true := by decide +kernel
theorem test_duplicate :
  (let m := msg (wire (Od.commitCutoff.numItem 0 1500))
   let s := nx (exec (.write 5 m) up)
   let t := nx (exec (.write 5 m) s)
   s.hears 26 && s.portClass 26 != 0 && !m.src.group && !s.discards m && !s.waitsOn 26 && (s.od.kept? spi 7).isSome && t.reg Od.dupReplies == 1 &&
     t.od.spiReplies.length == 2 && t.od.pend.length == 1) = true := by decide +kernel
theorem test_input_queue_order :
  (let m := msg []
   let s := { up with od := { up.od with inQ := [(0, 1, { m with seq := 1 }), (0, 1, { m with seq := 2 })] } }
   s.waitsOn 26 && (s.dequeue 1 { m with seq := 2 }).isNone && ((s.letIn 1 { m with seq := 2 }).2 == false) && (s.letIn 1 { m with seq := 1 }).2 &&
     !s.discards m && !notGroup 1 m && (s.letIn 1 { m with seq := 1 }).1.od.inQ.length == 1) = true := by decide +kernel
/-- R173, SDR: s^2.4 at signals 0, 2048/4095 and 1 (198,784.457 and 1.0 by hand). -/
theorem test_eotf_sdr : ([0, 2048, 4095].map (generated 0 0) == [0, 198784, 1048576]) = true := by decide +kernel

/-- The same device hearing a class O host on lane 0 (RATE and link do not matter here). -/
def upO : State := ((up.setReg Od.laneEn 1).setReg Od.role 1)
def laneSrc : Src := { port := 0, addr := 5, udp := 6 }

theorem test_class_o_no_update :
  (let m := { msg (natBE 4 0) with src := laneSrc }
   let t := nx (exec (.updateOpen 5 m) upO)
   upO.takes laneSrc 7 && !upO.discards m && !upO.waitsOn 0 && upO.portClass 0 == 2 && t.reg Od.noRightCount == 1 && t.upd.session == none &&
     t.od.sent.map (·.status) == [stNoRight]) = true := by decide +kernel
theorem test_class_p_no_commit :
  (let s := upO.setReg Od.role 3
   let m := { msg [] with src := laneSrc }
   s.portClass 0 == 4 && (nx (exec (.commitCmd 5 m) s)).od.sent.map (·.status) == [stNoRight]) = true := by decide +kernel

theorem test_device_number :
  (let t := nx (exec (.deviceNumberWrite 5 rq 77) up)
   acc (up.served 5) rq (Od.deviceNumber.numItem 0 77) && t.device == 77 && t.reg Od.numberSet == 1) = true := by decide +kernel
theorem test_mgmt1_demoted :
  (let t := nx (exec (.mgmt1ClassWrite 5 rq 1) up)
   acc (up.served 5) rq (Od.mgmt1Class.numItem 0 1) && acc (up.served 5) rq (Od.mgmt1Class.numItem 0 0) && t.portClass 25 == 2 && up.portClass 25 == 1 &&
     (nx (exec (.mgmt1ClassWrite 5 rq 0) t)).portClass 25 == 2) = true := by decide +kernel
theorem test_sync :
  (let s := { up with od := { up.od with journalQ := [(Od.replySlot.key, .num 9, 0)] } }
   acc (up.served 5) rq (Od.sync.numItem 0 0) && !up.persistWaits && (nx (exec (.sync 5 rq) up)).od.spiReplies.length == 1 && s.persistWaits &&
     (nx (exec (.sync 5 rq) s)).od.owed.length == 1 && (nx (exec (.sync 5 rq) s)).od.spiReplies == []) = true := by decide +kernel

/-- BULK_OPEN of a write of SECTION_LIST, 8 bytes. -/
def openMsg : Msg := msg (natBE 2 0x1810 ++ natBE 1 2 ++ natBE 1 1 ++ natBE 4 8 ++ natBE 4 0)
def opened : State := nx (exec (.bulkOpen 5 openMsg) up)

theorem test_bulk_open :
  (up.takesMsg 4 openMsg && (State.runBulkOpen openMsg (up.served 5)).status == stOk && opened.od.bulks.map Bulk.total == [8] &&
     (opened.od.spiReplies.map (·.payload)) == [natBE 2 1 ++ natBE 2 0 ++ natBE 4 8]) = true := by decide +kernel
theorem test_bulk_data :
  (let m := { msg (natBE 2 1 ++ natBE 2 8 ++ natBE 4 0 ++ List.replicate 8 1#8) with seq := 8 }
   let t := nx (exec (.bulkData 5 m) opened)
   opened.takesMsg 5 m && t.od.bulks.map (fun b => b.parts) == [[(0, List.replicate 8 1#8)]]) = true := by decide +kernel
theorem test_bulk_close_missing :
  (let m := { msg (natBE 2 1 ++ natBE 2 0 ++ natBE 4 0) with seq := 8 }
   let t := nx (exec (.bulkClose 5 m) opened)
   opened.takesMsg 6 m && m.payload.length == 8 && t.od.bulks == [] && (t.od.spiReplies.map (·.status)) == [stOk, stRange]) = true := by decide +kernel
theorem test_bulk_close_bad_crc :
  (let m := { msg (natBE 2 1 ++ natBE 2 0 ++ natBE 4 0) with seq := 8 }
   let s := { opened with od := { opened.od with bulks := opened.od.bulks.map fun b => { b with parts := [(0, List.replicate 8 1#8)] } } }
   (State.runBulkClose m s).payload == natBE 1 2 ++ natBE 3 0 && covers [(0, List.replicate 8 1#8)] 8 && (State.runBulkClose m s).s.od.bulks == []) = true := by decide +kernel
theorem test_bulk_close_read :
  (let m := msg (natBE 2 1 ++ natBE 2 0 ++ natBE 4 0)
   let s := { opened with od := { opened.od with bulks := opened.od.bulks.map fun b => { b with isWrite := false } } }
   (State.runBulkClose m s).status == stOk) = true := by decide +kernel
theorem test_bulk_expire :
  (let t := nx (exec (.bulkExpire 1) opened)
   t.od.bulks == [] && t.now == 5 + 10000000000 && t.od.log.map Event.code == [0x1003]) = true := by decide +kernel

/-- SUBSCRIBE to every event for SUB_LEASE. -/
theorem test_subscribe :
  (let m := msg (natBE 2 0 ++ natBE 2 0xFFFF ++ natBE 4 0)
   up.takesMsg 8 m && (nx (exec (.subscribe 5 m) up)).od.subs.length == 1) = true := by decide +kernel
def sub1 : Sub := { src := spi, cls := 1, lo := 0, hi := 0xFFFF, expires := 900, queue := [(4, ev)] }
def subd : State := { up with od := { up.od with subs := [(2, sub1)] } }
theorem test_lapse :
  (let t := nx (exec (.subscriptionLapse 2) subd)
   kvGet 2 subd.od.subs == some sub1 && t.od.subs == [] && t.now == 900) = true := by decide +kernel
theorem test_notify :
  (let t := nx (exec (.notify 5 2) subd)
   subd.notifyRoom spi && (t.od.spiReplies.map fun m => (m.cmd, m.seq)) == [(9, 4)] && t.od.subs.map (fun p => p.2.queue) == [[]]) = true := by decide +kernel

/-- A READ of IDENTITY as bytes. -/
def readBytes : Bytes := natBE 2 0x4F44 ++ natBE 1 1 ++ natBE 1 1 ++ natBE 2 7 ++ natBE 2 0 ++ natBE 2 0 ++ natBE 2 4 ++ natBE 4 0 ++ natBE 2 0x1000 ++ natBE 2 0
theorem test_put_msg :
  (let t := nx (exec (.putMsg 5 readBytes) up)
   (msgOf { port := 26 } readBytes).isSome && t.od.inQ.length == 1 && (nx (exec (.putMsg 5 [1#8]) up)).reg Od.msgDiscarded == 1) = true := by decide +kernel
theorem test_put_msg_full :
  (let s := { up with od := { up.od with inQ := List.replicate 64 (0, 1, msg []) } }
   decide (64 ≤ (s.od.inQ.filter fun q => q.1 == 0).length) && (nx (exec (.putMsg 5 readBytes) s)).reg Od.queueDrops == 1) = true := by decide +kernel
theorem test_get_msg :
  (let t := nx (exec (.getMsg 5) opened)
   opened.od.spiReplies.length == 1 && t.od.spiReplies == [] && t.od.sent.length == 1 && (nx (exec (.getMsg 5) up)).now == 5) = true := by decide +kernel
theorem test_spi_shifts_out :
  ((nx (exec (.getMsg 5) up)).od.spiOut == [[0#8, 0#8]] && ((nx (exec (.getMsg 5) opened)).od.spiOut.map List.length) == [2 + 16 + 8] &&
     (nx (exec (.spiStatus 5) opened)).od.spiOut.map List.length == [1] && !State.reset.alive && (nx (exec (.spiStatus 5) State.reset)).od.spiOut == []) = true := by decide +kernel
theorem test_spi_status : ((nx (exec (.spiStatus 5) opened)).od.spiReplies.length == 1) = true := by decide +kernel
theorem test_journal :
  (let s := { up with od := { up.od with journalQ := [(Od.replySlot.key, .num 9, 0)] } }
   let t := nx (exec (.journalWriteDone 5) s)
   t.od.journalQ == [] && t.od.journal.num Od.replySlot == 9 && !t.persistWaits && up.od.journalQ == [] && up.alive) = true := by decide +kernel

/-! ### Lanes, frames and pounds -/

/-- Lane 3 runs in TILE role with its link up. -/
def lane3 : State :=
  { (act.setReg Od.laneEn 1 3).setReg Od.role 2 3 with net := { up.net with ports := (up.net.ports.set 3 { up := true }), pounds := [] } }
theorem test_link_up :
  (let s := (up.setReg Od.laneEn 1 3).setReg Od.role 2 3
   let t := nx (exec (.linkUp 5 ⟨3, false⟩) s)
   s.portRuns 3 && !(s.port 3).up && (t.port 3).up && t.reg Od.linkState 3 == 1 && t.od.log.map Event.code == [0x2401]) = true := by decide +kernel
theorem test_link_up_mgmt :
  (let s := (up.setReg Od.laneEn 1 24).setReg Od.mgmt0Speed 2
   s.portRuns 24 && s.mgmtSpeed 24 != 0 && (nx (exec (.linkUp 5 ⟨24, false⟩) s)).reg Od.linkSpeed 24 == 2) = true := by decide +kernel
theorem test_link_down :
  (let t := nx (exec (.linkDown 5 3) lane3)
   (lane3.port 3).up && (lane3.port 3).wire == none && !(t.port 3).up && t.reg Od.linkDowns 3 == 1 && t.od.log.map Event.code == [0x2402]) = true := by decide +kernel
theorem test_inband :
  (let s := (up.setReg Od.laneEn 1 24).setReg Od.mgmt0Speed 0
   let t := nx (exec (.mgmtInbandStatus 5 24 true 1 true) s)
   s.portRuns 24 && s.mgmtSpeed 24 == 0 && (t.port 24).up && t.reg Od.linkSpeed 24 == 1 && !((nx (exec (.mgmtInbandStatus 5 24 true 1 false) t)).port 24).up) = true := by decide +kernel

/-- A descriptor of queue 2 of lane 3: 46 bytes of payload after an Ethernet header in slot 1, sent untimed or at LAUNCH. -/
def hdr : Bytes := List.replicate 12 2#8 ++ natBE 2 0x88B5
def desc (launch : Nat) : Bytes :=
  natBE 8 launch ++ natBE 6 txArea ++ natBE 2 9 ++ natBE 4 46 ++ natBE 2 0 ++ natBE 2 1 ++ natBE 1 14 ++ natBE 1 0 ++ natBE 1 0 ++ natBE 1 2 ++ natBE 2 0 ++ natBE 1 2 ++ natBE 1 0
def pnd (d : Bytes) : Pound := { entries := [{ producer := 0, prio := 0, data := d }] }
def queued (d : Bytes) : State :=
  { lane3 with net := { lane3.net with ports := lane3.net.ports.set 3 { up := true, templates := [(1, hdr)] }, pounds := [(26, pnd d)] } }
theorem test_tx_select :
  (let s := queued (desc 0)
   let t := nx (exec (.txSelect 5 3) s)
   s.alive && (s.port 3).wire == none && ((s.advance 5).drainPort 3).chooseQ 3 == some 2 &&
     (((s.advance 5).drainPort 3).takeJob 3 2).2.isSome && ((t.port 3).wire.map fun w => w.bytes.length) == some 64) = true := by decide +kernel
theorem test_tx_select_nothing :
  (((lane3.advance 5).drainPort 3).chooseQ 3 == none && ((nx (exec (.txSelect 5 3) lane3)).port 3).wire == none) = true := by decide +kernel
theorem test_tx_done :
  (let s := nx (exec (.txSelect 5 3) (queued (desc 0)))
   let t := nx (exec (.txFrameDone 700 3) s)
   t.net.wires.length == 1 && t.reg Od.txFrames 3 == 1 && t.reg Od.txBytes 3 == 64 && (t.port 3).wire == none) = true := by decide +kernel
theorem test_timed_waits :
  (let s := queued (desc 50000)
   s.headDesc 3 2 == some (desc 50000) && dLaunch (desc 50000) == 50000 && s.chooseQ 3 == none &&
     ({ s with tm := { s.tm with now := 50000 } } : State).chooseQ 3 == some 2) = true := by decide +kernel

/-- A good frame of 64 bytes, and one too short. -/
def good : Bytes := let b : Bytes := hdr ++ List.replicate 46 3#8; b ++ natLE 4 (crc32 b)
def runt : Bytes := let b : Bytes := hdr; b ++ natLE 4 (crc32 b)
theorem test_rx_runs : (lane3.portRuns 3 && lane3.role 3 != 0 && (lane3.port 3).up && good.length == 64) = true := by decide +kernel
theorem test_rx_giant :
  ((nx (exec (.rxFrame 5 3 { bytes := List.replicate 16384 0#8 }) lane3)).reg Od.rxGiant 3 == 1) = true := by decide +kernel
theorem test_rx_pcs : (lane3.reg Od.rxKeepBad 3 == 0 && (nx (exec (.rxFrame 5 3 { bytes := good, pcsErr := true }) lane3)).reg Od.rxPcsErr 3 == 1) = true := by decide +kernel
theorem test_rx_runt :
  (decide (runt.length < 64 ∧ runt.drop (runt.length - 4) = natLE 4 (crc32 (runt.take (runt.length - 4)))) &&
     (nx (exec (.rxFrame 5 3 { bytes := runt }) lane3)).reg Od.rxRunt 3 == 1) = true := by decide +kernel
theorem test_rx_down : (!(up.port 3).up && (nx (exec (.rxFrame 5 3 { bytes := good }) up)).reg Od.rxFrames 3 == 0) = true := by decide +kernel

theorem test_memory :
  (let m := memWrite 10 [1#8, 0#8, 2#8] [(5, 7#8), (11, 9#8)]
   m == [(5, 7#8), (10, 1#8), (12, 2#8)] && Memory.wf m && memRead 10 3 m == [1#8, 0#8, 2#8] && memGet 5 m == 7#8 && Memory.wf up.net.basin) = true := by decide +kernel

def paused (e st : Nat) : State := { lane3 with net := { lane3.net with ports := lane3.net.ports.set 3 { up := true, pause := [(1, e, st)] } } }
theorem test_pause_expire :
  (let t := nx (exec (.pauseExpire 3 1) (paused 900 100))
   kvGet 1 ((paused 900 100).port 3).pause == some (900, 100) && (t.port 3).pause == [] && t.now == 900) = true := by decide +kernel
theorem test_pause_override :
  (let s := (paused 900000 100).setReg Od.pauseLimit 300 3
   let t := nx (exec (.pauseOverride 3 1) s)
   decide (100 + s.reg Od.pauseLimit 3 * 1000 ≤ 900000) && (t.port 3).pause == [] && (t.port 3).ignoreUntil == some 600100 && t.reg Od.pauseOverrides 3 == 1) = true := by decide +kernel
theorem test_pause_ignore_end :
  (let s := { lane3 with net := { lane3.net with ports := lane3.net.ports.set 3 { up := true, ignoreUntil := some 700 } } }
   ((nx (exec (.pauseIgnoreEnd 3) s)).port 3).ignoreUntil == none) = true := by decide +kernel

theorem test_pound_write :
  (let s := { up with net := { up.net with pounds := [(9, {})] } }
   let t := nx (exec (.poundWrite 5 9 0 1 [4#8]) s)
   let u := nx (exec (.poundWrite 5 9 1 1 [4#8]) s)
   s.domOn 1 && (t.pound 9).entries.length == 1 && (t.pound 9).credits.head? == some 1023 && (u.pound 9).entries == [] && (u.pound 9).refusals == 1) = true := by decide +kernel
/-- Of two sub-lanes the higher is read first, and its producer gets its credit back. -/
theorem test_pound_read :
  (let s := { up with net := { up.net with pounds := [(9, { entries := [{ producer := 0, prio := 3, data := [] }, { producer := 7, prio := 1, data := [] }] })] } }
   let t := nx (exec (.poundRead 5 9 false) s)
   (s.readPound 9).2.map (·.producer) == some 7 && (t.pound 9).entries.map (·.prio) == [3] && (t.pound 9).credits.getD 7 9 == 1) = true := by decide +kernel
/-- 33 entries on chip: the tail of 16 goes to the spill (R271). -/
theorem test_spill :
  (((spill (List.replicate 33 ({ producer := 0, prio := 3, data := [] } : PEntry))).map (·.spilled)) == List.replicate 16 false ++ List.replicate 16 true ++ [false]) = true := by decide +kernel
theorem test_pound_fetch :
  (let es : List PEntry := [{ producer := 0, prio := 3, data := [1#8], spilled := true }, { producer := 0, prio := 3, data := [2#8] }]
   let s := { up with net := { up.net with pounds := [(9, { entries := es })] } }
   let t := nx (exec (.poundRead 5 9 true) s)
   let u := nx (exec (.spillFetchDone 5 9 0) t)
   (s.pound 9).headEmpty && (t.pound 9).fetching && t.net.reads == [] && !(u.pound 9).fetching && u.net.reads == [(9, 3, [1#8])] && (u.pound 9).entries.length == 1) = true := by decide +kernel
def sluiced (pending since : Nat) : State :=
  { up.setRegTab Od.sluiceMap (natBE 2 9 ++ natBE 1 1 ++ natBE 1 0 ++ natBE 2 4) with net := { up.net with sluices := up.net.sluices.set 0 { level := 0, since := since, pending := pending } } }
theorem test_sluice :
  (let s := sluiced 1 0
   let t := nx (exec (.sluicePinUpdate 40 0) s)
   u16 (sluiceRec s 0) 4 == 4 && (t.net.sluices.getD 0 {}).level == 1 && (t.net.sluices.getD 0 {}).pending == 0 &&
     ((nx (exec (.sluicePinUpdate 39 0) s)).net.sluices.getD 0 {}).level == 0) = true := by decide +kernel

/-! ### Single writes that act at once -/

theorem test_select :
  (acc (up.served 5) rq (Od.select.numItem 0 1) && (nx (exec (.selectWrite 5 rq 1) up)).tm.selectReq == some 1 &&
     (nx (exec (.selectWrite 5 rq 0) up)).tm.selectReq == none) = true := by decide +kernel
theorem test_switch_at :
  (let w := Od.switchAt.numItem 0 (timeOfNs 4000)
   acc (up.served 5) rq w && (nx (exec (.switchAtWrite 5 rq (timeOfNs 4000)) up)).reg Od.switchAt == timeOfNs 4000 &&
     (nx (exec (.switchAtWrite 5 rq (timeOfNs 90000000000000)) up)).reg Od.switchAt == 0) = true := by decide +kernel
theorem test_dither_reset :
  (acc (up.served 5) rq (Od.ditherReset.numItem 0 0) && (nx (exec (.ditherReset 5 rq) up)).col.ditherReset) = true := by decide +kernel
theorem test_age_ledger :
  (acc (up.served 5) rq (Od.ageLedger.item 0 []) true && (nx (exec (.ageLedgerWrite 5 rq []) up)).od.pend.map (·.1) == [Od.ageLedger.key]) = true := by decide +kernel
theorem test_cell_retire :
  (let t := nx (exec (.cellRetire 5 rq 2) up)
   acc (up.served 5) rq (Od.cellRetire.numItem 0 2) && (t.cell 2).state == 2 && acc (up.served 5) rq (Od.cellRestore.numItem 0 2) &&
     ((nx (exec (.cellRestore 5 { rq with seq := 8 } 2) t)).cell 2).restore) = true := by decide +kernel
theorem test_trim_t_run :
  (let t := nx (exec (.trimTRun 5 rq) up)
   acc (up.served 5) rq (Od.trimTRun.numItem 0 0) && t.trim.running && !t.trim.again && (nx (exec (.trimTRun 5 { rq with seq := 8 }) t)).trim.again) = true := by decide +kernel
/-- Whether a run can begin rests on the silicon (a free value); one under way makes the next BUSY. -/
theorem test_trim_a_run :
  (let s := { up with trim := { up.trim with aRun := some (66, 0, rq) } }
   let t := nx (exec (.trimARun 5 { rq with seq := 8 } 67) s)
   acc (up.served 5) rq (Od.trimARun.numItem 0 66) && s.trimABusy && t.od.spiReplies.map (·.status) == [stBusy]) = true := by decide +kernel
theorem test_restart : (acc (up.served 5) rq (Od.restart.numItem 0 0) && up.pwr.state == 2) = true := by decide +kernel
theorem test_seal_roll_unknown :
  (let t := nx (exec (.sealRollNow 5 rq 12) up)
   acc (up.served 5) rq (Od.sealRollNow.numItem 0 12) && (up.sealOf 12).isNone && t.od.spiReplies.map (·.status) == [stRange]) = true := by decide +kernel
def rolling : State := { up with zl := { up.zl with seals := [{ secNo := 12, rolling := true }] } }
theorem test_seal_roll_under_way :
  (rolling.sealOf 12 == some { secNo := 12, rolling := true } && (nx (exec (.sealRollNow 5 rq 12) rolling)).od.spiReplies.map (·.status) == [stOk]) = true := by decide +kernel
/-- An RDM record: TAG, destination UID, GET of DEVICE_INFO. -/
def rdmRec : Bytes := natBE 2 0x0A01 ++ natBE 6 0x123400000001 ++ natBE 1 0x20 ++ natBE 2 0x60 ++ natBE 2 0 ++ natBE 1 0
theorem test_rdm_queue :
  (let t := nx (exec (.rdmQueueWrite 5 rq 4 rdmRec) up)
   acc (up.served 5) rq (Od.rdmQueue.item 4 rdmRec) && (t.lp 4).rdmQ.map (·.bytes) == [rdmRec] &&
     (nx (exec (.rdmQueueWrite 5 rq 4 (rdmRec ++ [0#8])) up)).od.spiReplies.map (·.status) == [stRange]) = true := by decide +kernel
theorem test_sense_capture :
  (acc (up.served 5) rq (Od.senseCapture.numItem 0 3) && ((nx (exec (.senseCapture 5 rq 3) up)).strGroup 3).capture == [true, true, true, true]) = true := by decide +kernel
theorem test_rs_shadow :
  (let t := up.rsShadow.1
   let c := up.rsShadow.2
   t.length == 20 && c.length == 16 && acc (up.served 5) rq (Od.rsTiming.item 0 t) && acc (up.served 5) rq (Od.rsScan.item 0 c) &&
     (nx (exec (.rsShadowWrite 5 rq 0 t) up)).od.journalQ.map (·.1) == [Od.rsTiming.key] && (nx (exec (.rsShadowWrite 5 rq 1 c) up)).od.journalQ.map (·.1) == [Od.rsScan.key]) = true := by decide +kernel
theorem test_rs_commit :
  (acc (up.served 5) rq (Od.rsCommit.numItem 0 1) && rsCommitOk up.rsShadow.1 up.rsShadow.2 up.tl.rate (up.cfg Od.stillArea * 1048576) &&
     (nx (exec (.rsCommit 5 rq 1) up)).reg Od.rsCommit == 1 && (nx (exec (.rsCommit 5 rq 0) up)).reg Od.rsCommit == 0) = true := by decide +kernel
theorem test_rs_commit_refused :
  (let s := up.setRegTab Od.rsTiming (List.replicate 20 0#8)
   !rsCommitOk s.rsShadow.1 s.rsShadow.2 s.tl.rate (s.cfg Od.stillArea * 1048576) && (s.writeRsCommit 1).2.1 == stRange) = true := by decide +kernel

theorem test_acquire :
  (let t := nx (exec (.acquire 5 rq) up)
   acc (up.served 5) rq (Od.towCommand.numItem 0 1) && t.tow.state == 2 && t.tow.hold && (nx (exec (.acquire 5 rq) act)).od.spiReplies.map (·.status) == [stBusy]) = true := by decide +kernel
theorem test_release :
  (let t := nx (exec (.release 5 rq) act)
   acc (act.served 5) rq (Od.towCommand.numItem 0 2) && t.tow.state == 1 && !t.tow.hold && t.reg Od.releases == 1 && t.od.log.map Event.code == [0xD002] &&
     (nx (exec (.release 5 rq) up)).od.spiReplies.map (·.status) == [stNotOwner]) = true := by decide +kernel
theorem test_handover :
  (acc (act.served 5) rq (Od.towCommand.numItem 0 3) && !act.partnerReady && (nx (exec (.handover 5 rq) act)).od.spiReplies.map (·.status) == [stBusy]) = true := by decide +kernel
theorem test_clear_fault :
  (let s := { up with tow := { up.tow with state := 6 } }
   acc (s.served 5) rq (Od.towCommand.numItem 0 4) && (nx (exec (.clearFault 5 rq) s)).tow.state == 1 && (nx (exec (.clearFault 5 rq) up)).od.spiReplies.map (·.status) == [stRange]) = true := by decide +kernel
theorem test_peer_beacon_refused :
  (let b := List.replicate 24 0#8
   acc (up.served 5) rq (Od.peerBeacon.item 0 b) && !(up.served 5).fromPartner spi (some (u16 b 0)) && (nx (exec (.peerBeaconWrite 5 rq b) up)).reg Od.mirrorRefused == 1) = true := by decide +kernel
theorem test_mirror_small_refused :
  (let b := List.replicate 32 0#8
   acc (up.served 5) rq (Od.mirrorSmall.item 0 b) && (nx (exec (.mirrorSmallWrite 5 rq b) up)).reg Od.mirrorRefused == 1) = true := by decide +kernel
theorem test_mirror_table :
  (acc (up.served 5) rq (Od.mirrorTable.item 0 (List.replicate 24 0#8)) true && (nx (exec (.mirrorTableWrite 5 rq (List.replicate 24 0#8)) up)).reg Od.mirrorRefused == 1) = true := by decide +kernel
/-- The partner's own writes: pair mode, its address on MGMT0. -/
def pairUp : State :=
  { ((((up.setReg Od.straps 1).setReg Od.mirrorPort 24).setReg Od.pairPartner 9).setRegTab Od.mirrorPeerAddr (natBE 16 55 ++ natBE 2 66)) with tm := { up.tm with now := 1000 } }
def prq : Req := { src := { port := 24, addr := 55, udp := 66 }, seq := 7 }
theorem test_partner_writes :
  (let b := natBE 2 9 ++ natBE 1 1 ++ natBE 1 0 ++ natBE 4 3 ++ natBE 8 900 ++ natBE 8 0
   let m := natBE 2 9 ++ natBE 2 0 ++ natBE 4 30 ++ natBE 4 40 ++ List.replicate 20 0#8
   (pairUp.served 5).fromPartner prq.src (some 9) && acc (pairUp.served 5) prq (Od.peerBeacon.item 0 b) && ((nx (exec (.peerBeaconWrite 5 prq b) pairUp)).tow.lastBeacon.map (·.1)) == some b &&
     (nx (exec (.mirrorSmallWrite 5 prq m) pairUp)).nv.mirrored == 40) = true := by decide +kernel

/-! ### Keys -/

theorem test_key_register :
  (let k : Bytes := List.replicate 32 5#8
   let t := nx (exec (.keyRegisterWrite 5 rq 1 k) up)
   acc (up.served 5) rq (Od.attest.item 0 k) && (up.keyReg 1).writing.isNone && (t.keyReg 1).writing.isSome && t.od.spiReplies == [] && t.od.owed.length == 1 &&
     (nx (exec (.keyRegisterWrite 5 { rq with seq := 8 } 1 k) t)).od.spiReplies.map (·.status) == [stBusy]) = true := by decide +kernel
theorem test_key_register_done :
  (let t := nx (exec (.keyRegisterWrite 5 rq 1 (List.replicate 32 5#8)) up)
   let u := nx (exec (.keyRegisterWriteDone 5) t)
   ([0, 1, 2] : List Nat).find? (fun i => (t.keyReg i).writing.isSome) == some 1 && (u.keyReg 1).writing.isNone && u.od.owed == [] && u.od.spiReplies.length == 1) = true := by decide +kernel
theorem test_key_load :
  (let v : Bytes := List.replicate 48 0#8
   acc (up.served 5) rq (Od.keyLoad.item 0 v) && (nx (exec (.keyLoad 5 rq v) up)).od.spiReplies.length == 1) = true := by decide +kernel
theorem test_key_invalidate :
  (let s := { up with keys := { up.keys with slots := up.keys.slots.set 4 { state := 1, key := [1#8] } } }
   let t := nx (exec (.keyInvalidate 5 rq 4) s)
   acc (s.served 5) rq (Od.keyInvalidate.numItem 0 4) && t.keys.graces.map Invalidation.slot == [4] &&
     (nx (exec (.orphanGraceExpire 4) t)).keys.graces == []) = true := by decide +kernel
theorem test_drbg :
  (let s := { up with keys := { up.keys with drbg := 1 } }
   let t := nx (exec (.drbgStartupTestDone 5) s)
   let u := nx (exec (.drbgHealthFail 5 2) t)
   s.domOn 12 && t.keys.drbg == 2 && (nx (exec (.drbgReseed 600000000000) t)).keys.seededAt == 600000000005 && u.keys.drbg == 3 && u.keys.retryAt == some 1000000010 &&
     u.od.log.map Event.code == [0x9005] && (nx (exec .drbgRetry u)).keys.drbg == 1) = true := by decide +kernel
theorem test_challenge_no_key :
  (let m := msg (List.replicate 16 1#8)
   up.takesMsg 0xA m && ((up.keyReg 1).key?).isNone && (nx (exec (.challenge 5 m) up)).od.spiReplies.map (·.status) == [stKeyAbsent] &&
     (up.challenge []).2.1 == stRange) = true := by decide +kernel
theorem test_challenge_key :
  (let s := { up with keys := { up.keys with regs := up.keys.regs.set 1 { a := { key := List.replicate 32 1#8, gen := 1, valid := true } } } }
   ((s.keyReg 1).key?).isSome && (s.keys.challenges.filter fun t => decide (s.now < t + 1000000000)) == []) = true := by decide +kernel

/-! ### Intake -/

/-- Lane 0 of class O, video flow to part 0 of stream 0, path 0; universe 5 in SACN_IN; stream 0 receiving. -/
def inUp : State :=
  let s := ((((up.setReg Od.laneEn 1).setReg Od.role 1).setReg Od.sacnLanes 1).setReg Od.timelineState 1)
  let cur := ((({} : Store).setTab Od.videoFlows (natBE 1 0 ++ natBE 1 0 ++ natBE 1 0 ++ natBE 1 0 ++ natBE 16 77 ++ natBE 2 5004 ++ natBE 16 0)).setTab Od.sacnIn
    (natBE 2 5 ++ natBE 1 0 ++ natBE 1 0)).setNum (Od.strEnable.inst 0) 1
  { s with tl := { s.tl with cur := cur.setNum Od.sacnLanes 1 }, intake := { s.intake with streams := [{ state := 1 }, {}] }, tm := { s.tm with now := 1000000000 } }
def vp : VideoPkt := { dst := 77, dstPort := 5004, srcAddr := 3, pt := 96, seq16 := 4, extSeq := 0, timestamp := 90000, srds := [], carried := 0 }

theorem test_video_flow :
  (inUp.domOn 9 && inUp.portRuns 0 && ((inUp.advance 5).flowOf 0 vp).isSome && ((inUp.advance 5).flowOf 0 { vp with dstPort := 5 }).isNone &&
     (nx (exec (.videoPacket 5 0 { vp with dstPort := 5 }) inUp)).now == 1000000005) = true := by decide +kernel
/-- The frame whose window holds media count 90,000 at 1 s: frame 60 at 60 Hz. -/
theorem test_video_bad_format :
  (let f : Frame := { k := 60, rate := 9, cfg := ({} : Store).setNum (Od.strEnable.inst 0) 1 }
   let s := { inUp with tl := { inUp.tl with frames := [f] } }
   let r := natBE 4 0
   s.reg Od.timelineState != 0 && (s.stream 0).state != 0 && s.windowFrame 0 (mediaCount s.now vp.timestamp) == some f && f.cfg.bool (Od.strEnable.inst 0) &&
     !videoOk f.cfg 0 0 { vp with pt := 95 } && (s.takeVideo r { vp with pt := 95 }).reg (Od.strFormatErr.inst 0) == 1) = true := by decide +kernel
theorem test_merge_first_copy :
  (decide (0 < (inUp.stream 0).parts.length) && (inUp.merge 0 0 0 9 true).2 && !((inUp.merge 0 0 0 9 true).1.merge 0 0 1 9 true).2 &&
     ((inUp.merge 0 0 0 9 true).1.merge 0 0 1 10 true).2) = true := by decide +kernel
def rxd : State :=
  { inUp with intake := { inUp.intake with streams := [{ state := 2, lastAccept := some 100, parts := [{ paths := [{ lastRx := some 100, active := true }, {}] }] }, {}] } }
theorem test_path_timeout :
  (let t := nx (exec (.pathTimeout 0 0 0) rxd)
   ((rxd.part 0 0).paths.getD 0 {}).active && !((t.part 0 0).paths.getD 0 {}).active && t.od.log.map Event.code == [0x3003]) = true := by decide +kernel
theorem test_stream_timeout :
  (let t := nx (exec (.streamTimeout 0) rxd)
   (rxd.stream 0).state == 2 && (rxd.stream 0).lastAccept == some 100 && (t.stream 0).state == 3 && t.od.log.map Event.code == [0x3001]) = true := by decide +kernel

/-- The IPv4 group of a universe. -/
def grp (u : Nat) : Nat := (sacnGroups u).headD 0
def sp : SacnPkt := { univ := 5, dst := grp 5, cid := 44, priority := 100, seq := 3, sync := 0, count := 4, slots := [1#8, 2#8, 3#8] }
theorem test_sacn :
  (let t := nx (exec (.sacnDataPacket 5 0 sp) inUp)
   inUp.sacnTakes 0 sp.dst 5 && !inUp.sacnTakes 1 (grp 5) 5 && inUp.sacnTakes 0 (grp 6) 6 && inUp.sacnTakes 0 (grp 9) 9 && (inUp.sacnInRec 5).isSome && (t.univ 5).sources.map (·.cid) == [44] && (t.univ 5).slots.take 3 == [1#8, 2#8, 3#8] &&
     (nx (exec (.sacnDataPacket 5 0 { sp with priority := 201 }) inUp)).reg Od.sacnFormatErr == 1 && (inUp.sacnInRec 6).isNone &&
     (nx (exec (.sacnDataPacket 5 0 { sp with univ := 6, dst := grp 6 }) inUp)).reg Od.unknownUniv == 1) = true := by decide +kernel
theorem test_sacn_drops :
  ((inUp.sacnData 5 { sp with preview := true }).reg Od.previewDrops == 1 && (inUp.sacnData 5 { sp with startCode := 0xDD }).reg Od.startCodeDrops == 1) = true := by decide +kernel
theorem test_sacn_sync :
  (let t := nx (exec (.sacnSyncPacket 5 ⟨0, grp 9⟩ 9 3 44) inUp)
   ((inUp.intake.syncSeq.find? fun e => e.1 == 9 && e.2.1 == 44)).isNone && t.intake.syncSeq == [(9, 44, 3)] &&
     (nx (exec (.sacnSyncPacket 5 ⟨0, grp 9⟩ 9 3 44) t)).reg Od.seqDrops == 1 && (nx (exec (.sacnSyncPacket 5 ⟨0, grp 9⟩ 9 4 44) t)).intake.syncSeq == [(9, 44, 4)]) = true := by decide +kernel
def src1 : SacnSource := { cid := 44, priority := 100, seq := 3, slots := [1#8, 9#8], live := true, syncAddr := 8, lastRx := 50, stamp := 1 }
def src2 : SacnSource := { cid := 45, priority := 100, seq := 3, slots := [7#8, 2#8], live := true, lastRx := 60, stamp := 2 }
def srcs : State := { inUp with intake := { inUp.intake with univs := [(5, { sources := [src1, src2] })] } }
theorem test_source_timeout :
  (let t := nx (exec (.sacnSourceTimeout 5 44) srcs)
   (srcs.univ 5).sources.find? (fun a => a.cid == 44) == some src1 && t.reg Od.sourceLosses == 1 && (t.univ 5).sources.map (·.cid) == [45]) = true := by decide +kernel
theorem test_sync_timeout_frees :
  (let t := nx (exec (.sacnSyncTimeout 5 44) srcs)
   src1.syncAddr != 0 && !src1.freeRun && (t.univ 5).sources.map (·.freeRun) == [true, false] && t.reg Od.syncTimeouts == 1 && t.od.log.map Event.code == [0x3012]) = true := by decide +kernel
theorem test_merge_htp_ltp :
  (let x : UnivSt := { sources := [src1, src2, { src2 with cid := 46, priority := 50, slots := [99#8, 99#8] }] }
   (mergeUniv false x).slots.take 2 == [7#8, 9#8] && (mergeUniv true x).slots == [7#8, 2#8] && (x.sources.filter SacnSource.live) != []) = true := by decide +kernel

/-! ### The lock-keeper, cells, colour and the weir -/

/-- A firmware barge of type 0x10: no flight, no counters, priority 3, energy 0. -/
def bg (ty cls : Nat) (seq : Nat := 0) (flight : Nat := 0) : Bytes := natBE 32 (ty * 2 ^ 248 + flight * 2 ^ 236 + seq * 2 ^ 216 + 3 * 2 ^ 165 + cls * 2 ^ 163)
theorem test_barge_refused :
  (let r (b : Bytes) := ((nx (exec (.bargeSubmit 5 ⟨[], b⟩) up)).od.log.map fun e => (e.code, u8 e.arg 0))
   !typeDefined (bType (bg 9 0)) && r (bg 9 0) == [(0x4002, 1)] && typeDefined (bType (bg 0x10 0)) && r (bg 0x10 2) == [(0x4002, 2)] &&
     r (bg 0x10 0 (2 ^ 19) 3600) == [(0x4002, 3)]) = true := by decide +kernel
/-- The store holds 16,384 firmware barges. -/
theorem test_barge_full :
  (let s := { up with lk := { up.lk with barges := List.replicate 16384 { id := 1, bytes := [], firmware := true } } }
   decide (16384 ≤ (s.lk.barges.filter Barge.firmware).length) && (nx (exec (.bargeSubmit 5 ⟨[], bg 0x10 0⟩) s)).od.log.map (fun e => u8 e.arg 0) == [4]) = true := by decide +kernel
def bargeIn : State := nx (exec (.bargeSubmit 5 ⟨[], bg 0x10 0⟩) up)
theorem test_barge_stored :
  (bargeIn.lk.barges.map (·.place) == [0] && bargeIn.lk.ready.getD 3 [] == [0]) = true := by decide +kernel
def asked : State := nx (exec (.ask 5 7 2) bargeIn)
theorem test_ask : (bargeIn.cellIdle 7 && (bargeIn.cell 7).asking.isNone && (asked.cell 7).asking == some 0 && asked.lk.askOrder == 1 && asked.reg Od.cellEccCorr == 2) = true := by decide +kernel
def masked : State := { asked with weir := { asked.weir with mask := List.range 32, allowance := 5000000, remaining := 5000000 } }
def ran : State := nx (exec (.bargeDispatch 5) masked)
theorem test_dispatch :
  ((ran.cell 7).running == some 0 && ran.lk.ready.getD 3 [] == [] && decide (ran.weir.remaining ≤ masked.weir.remaining) &&
     ran.lk.spent + ran.weir.remaining == masked.lk.spent + masked.weir.remaining) = true := by decide +kernel
theorem test_firmware_done :
  (let t := nx (exec (.firmwareBargeComplete 900 7 0 []) ran)
   (ran.runs 7 (decide <| 0x10 ≤ ·)).isSome && (t.cell 7).running.isNone && t.lk.barges == [] && (t.cell 7).busyNs != 0) = true := by decide +kernel
/-- A cell runs a barge of a type. -/
def runs (ty : Nat) (place : Nat := 3) : State :=
  { up with lk := { up.lk with cells := up.lk.cells.set 7 { running := some 1 }, barges := [{ id := 1, bytes := bg ty 0, place := place, frame := 61 }] } }
theorem test_frame_barges_done :
  ((runs 1).runs 7 (· == 1) == some { id := 1, bytes := bg 1 0, place := 3, frame := 61 } && (nx (exec (.sampleComplete 5 7) (runs 1))).lk.barges == [] &&
     (nx (exec (.tallyComplete 5 7) (runs 2))).lk.barges == [] && (nx (exec (.weirComplete 5 7) (runs 3))).lk.barges == []) = true := by decide +kernel
theorem test_retired_barge_counts : ((nx (exec (.sampleComplete 5 7) (runs 1 4))).reg Od.staleCompletions == 1) = true := by decide +kernel
theorem test_pack_done :
  (let f : Frame := { k := 61, rate := 9, cfg := {} }
   let s := { runs 4 with tl := { up.tl with frames := [f] }, lk := { (runs 4).lk with graphs := [(61, { outCtr := [(.str 2, 0)] })] } }
   let t := nx (exec (.packComplete 5 7) s)
   s.packOut f { id := 1, bytes := bg 4 0, place := 3, frame := 61 } == some (.str 2) && s.frameOf { id := 1, bytes := bg 4 0, place := 3, frame := 61 } == some f && (t.cell 7).running.isNone) = true := by decide +kernel
theorem test_yield_write :
  (let h : HeldYield := { entries := [[1#8]], target := 9, prio := 0, ctr0 := 0, ctr1 := 0, frame := 0 }
   let s := { up with lk := { up.lk with held := [h] }, net := { up.net with pounds := [(9, { credits := [0, 1, 0, 0, 0, 0, 0, 0] })] } }
   let t := nx (exec (.yieldWrite 5) s)
   s.domOn 1 && t.lk.held == [] && (t.pound 9).entries.length == 1) = true := by decide +kernel
theorem test_flight_release : ((nx (exec (.flightRelease 5 3600) up)).now == 5) = true := by decide +kernel

theorem test_barge_timeout :
  (let t := nx (exec (.bargeTimeout 7) ran)
   ran.domOn (cellDomain 7) && (ran.cell 7).running == some 0 && t.now == (ran.cell 7).startedAt + ran.reg Od.bargeLimit * 1000 && (t.cell 7).resetting && t.reg Od.cellFaults == 1 &&
     !((nx (exec (.cellResetDone 5 7) t)).cell 7).resetting) = true := by decide +kernel
theorem test_cell_illegal : ((nx (exec (.cellIllegalOp 5 7) ran)).od.log.map Event.code == [0x4007]) = true := by decide +kernel
theorem test_cell_sram : (decide ((up.cell 7).state ≤ 1) && decide (2 ≤ ((nx (exec (.cellSramError 5 7) up)).cell 7).state)) = true := by decide +kernel
/-- A cell that fails a start's self-test goes to FAILED_TEST, and the next start's tests are the next ones listed (R235, R237). -/
theorem test_self_test :
  (let s := { up with pwr := { up.pwr with selfTest := { cells := [7] } } }
   let t := s.testCells
   let u := ({ up with pwr := { up.pwr with selfTests := [{ lost := 2 }] } } : State).beginStart 2
   s.domOn (cellDomain 7) && decide ((s.cell 7).state ≤ 1 ∧ 7 < s.lk.cells.length) && (t.cell 7).state == 3 && decide ((t.cell 8).state ≤ 1) &&
     t.od.raised.map Event.code == [0x4003] && u.trim.sramCause && u.pwr.selfTests == [] && u.pwr.cause == 2) = true := by decide +kernel
theorem test_fault_retries :
  (let b : Barge := { id := 1, bytes := bg 0x10 0, place := 3 }
   bFlight b.bytes == 0 && b.place != 4 && (ran.faultBarge b).reg Od.bargeRetries == 1 && (ran.faultBarge { b with faults := 1 }).reg Od.bargesAbandoned == 1) = true := by decide +kernel
theorem test_delay_list :
  (let e := natBE 8 3000 ++ natBE 8 0
   let s := { up with lk := { up.lk with delays := [[(1, e), (2, natBE 8 900000000 ++ natBE 8 0)], [], [], []] } }
   let t := nx (exec (.delayEntryAct 0) s)
   !s.listByFrame 0 && t.now == ceilDiv 3000 (s.reg Od.delayTick * 1000) * (s.reg Od.delayTick * 1000) && (t.lk.delays.getD 0 []).length == 1) = true := by decide +kernel
theorem test_delay_insert :
  (let s := { up with lk := { up.lk with delays := [List.replicate 4096 (0, []), [], [], []] } }
   ((nx (exec (.delayInsert 5 1 [1#8]) s)).lk.delays.getD 1 []).length == 1 && (nx (exec (.delayInsert 5 0 [1#8]) s)).reg Od.delayFull == 1) = true := by decide +kernel

theorem test_ledger_journal :
  (let t := nx (exec .ledgerJournal up)
   t.col.nextJournal == t.now + 600000000000) = true := by decide +kernel
theorem test_age_recompute :
  (let t := nx (exec .ageRecompute up)
   up.domOn 1 && t.col.nextAge == up.reg Od.agePeriod * 1000000000) = true := by decide +kernel
theorem test_cal_cache :
  (let s := { up with col := { up.col with calQueue := [(5, [1#8])] } }
   let t := nx (exec (.calCacheWriteDone 5) s)
   s.domOn 4 && decide (1 ≤ s.calFree) && t.col.calQueue == [] && t.col.calCache.map (·.1) == [5]) = true := by decide +kernel
theorem test_die_temps :
  (let t := nx (exec (.dieTempSample (List.replicate 12 800)) up)
   t.now == up.pwr.nextDie && t.pwr.nextDie == t.now + 1000000 && (t.pwr.dieTemps.getD 3 (0, false)).1 == 800 && t.weir.tjHottest == 800) = true := by decide +kernel
theorem test_governor :
  (let hot (tj : Int) (last : Option Nat) : State := { up with weir := { up.weir with tjHottest := tj, lastDrop := last } }
   let th : Int := (up.reg Od.tjThrottle : Nat) * 16
   decide (th < (up.reg Od.tjCrit : Nat) * 16) && (hot th none).govern.weir.level == 1 && (hot th (some 0)).govern.weir.level == 0 &&
     (hot ((up.reg Od.tjCrit : Nat) * 16) none).govern.weir.level == 3 && (hot ((up.reg Od.tjCrit : Nat) * 16) none).govern.weir.crit) = true := by decide +kernel

/-! ### The tile link and the aqueduct -/

def am : AqMsg := { src := spi, reqSeq := 3, posted := false, cmd := 1, route := 0, items := [], payload := [1#8] }

/-- Tile 7 on lane 3. -/
def linkCfg1 : Store := ({} : Store).setTab Od.tileLink (natBE 2 7 ++ natBE 1 3 ++ natBE 1 0 ++ natBE 8 99 ++ natBE 4 0)
def tl7 (t : Tile) : State := { lane3 with tl := { lane3.tl with newest := linkCfg1 }, zl := { lane3.zl with tiles := [(7, t)] } }

theorem test_echo_send :
  (let s := tl7 { state := 2, nextEcho := 500 }
   let t := nx (exec (.echoSend 7) s)
   (tileLinkRec s.linkCfg 7).isSome && s.tileLane 3 && (t.tile 7).echoes == [(0, 500, none)] && t.zl.echoNext == 1 && t.now == 500) = true := by decide +kernel
/-- An echo reply that matches nothing moves nothing. -/
theorem test_echo_reply_unmatched :
  (let s := tl7 { state := 2, delta := 60 }
   ((nx (exec (.echoReplyRx 5 3 { bytes := natBE 1 0x14 ++ natBE 15 0 ++ natBE 16 0 }) s)).tile 7).delta == 60) = true := by decide +kernel
theorem test_hello_unmatched : ((nx (exec (.helloRx 5 3 { bytes := natBE 1 (16 * lane3.gen 3 + 5) ++ natBE 63 0 }) lane3)).reg Od.helloUnmatched == 1) = true := by decide +kernel
theorem test_ret_ignored :
  (let s := tl7 { state := 2 }
   let f : ZhFrame := { bytes := natBE 32 0 }
   ((s.advance 5).retFrame 3 f).2 == none && (nx (exec (.retRx 5 3 f) s)).now == 5) = true := by decide +kernel
/-- A RET of tile 7 on a first-generation lane, which acknowledges PARAM 1 (R302, R303). -/
def ret7 : ZhFrame := { bytes := natBE 1 0x13 ++ natBE 1 0 ++ natBE 2 7 ++ natBE 12 0 ++ natBE 20 0 ++ natBE 2 1 ++ natBE 10 0 }
def ret7Up : State := (tl7 { state := 2, param := some (1, 2, [3#8], 0) }).setReg Od.rate 0 3
theorem test_ret_acknowledges :
  (let w : AqWait := { msg := am, dst := 7, tag := 2 }
   let s := { ret7Up with aq := { ret7Up.aq with params := [{ w with msg := { am with payload := [3#8] } }] } }
   ((s.advance 5).retFrame 3 ret7).2 == some (7, 1) && (s.tile 7).param == some (1, 2, [3#8], 0) && ((nx (exec (.retRx 5 3 ret7) s)).tile 7).param == none &&
     (nx (exec (.retRx 5 3 ret7) s)).aq.params == [] && (nx (exec (.retRx 5 3 ret7) ret7Up)).aq.params == []) = true := by decide +kernel
theorem test_measure :
  (let t : Tile := { delta := 100, window := [100, 100] }
   (t.measure 5000 50).delta == 100 && (t.measure 5000 50).jumps == [5000] && meanNs t.window == 100 && (({} : Tile).measure 77 50).delta == 0 && (({} : Tile).measure 77 50).accepted == 1 &&
     (({ t with accepted := 3 } : Tile).measure 104 50).delta == 101) = true := by decide +kernel
theorem test_echo_timeout :
  (let s := tl7 { state := 2, echoes := [(4, 100, none)] }
   let t := nx (exec (.echoTimeout 7) s)
   (t.tile 7).echoes == [] && t.reg Od.echoDiscarded == 1 && t.now == 10000100) = true := by decide +kernel
theorem test_tile_timeout :
  (let s := tl7 { state := 2, lastHeard := 100 }
   let t := nx (exec (.tileTimeout 7) s)
   (t.tile 7).state == 3 && t.reg Od.tileLosses == 1 && t.od.log.map Event.code == [0x5003]) = true := by decide +kernel
theorem test_param_resend :
  (let s (last : Nat) := (tl7 { state := 2, param := some (1, 2, [3#8], last) }).setReg Od.currentFrame 10
   ((nx (exec (.paramResend 7) (s 6))).tile 7).param == some (1, 2, [3#8], 10) && ((nx (exec (.paramResend 7) (s 7))).tile 7).param == some (1, 2, [3#8], 7)) = true := by decide +kernel
def plan1 : LanePlan :=
  { frame := 61, ord := 1, lane := 3, present := 2000000, aLane := 9660, sLane := 1000000, tau := 10, tiles := [{ tile := 7, sec := 0, a := 0, q := 0, sigma := 0, wait := 0, lam := 5, pix := 0 }] }
theorem test_latch_fixup :
  (let s := { tl7 { state := 2 } with zl := { (tl7 { state := 2 }).zl with plans := [plan1] } }
   let t := nx (exec (.latchFixup 3) s)
   s.zl.plans.find? (fun l => l.lane == 3 && !l.fixed) == some plan1 && t.zl.plans.map (·.fixed) == [true]) = true := by decide +kernel

def far : Src := { port := 24, addr := 8, udp := 9 }
/-- Far device 40 behind MGMT0. -/
def aqUp (x : AqPeer) : State :=
  { up with tl := { up.tl with cur := ({} : Store).setTab Od.aqPeers (natBE 2 40 ++ natBE 16 8 ++ natBE 2 9 ++ natBE 1 24 ++ natBE 1 0) }, aq := { up.aq with peers := [(40, x)] } }
theorem test_aq_forward :
  (let s := aqUp { queue := [am] }
   let t := nx (exec (.aqForwardSend 5 40) s)
   (s.aqPeer 40).inFlight == none && (s.aqPeer 40).queue == [am] && (t.aqPeer 40).inFlight == some am && t.reg Od.aqForwarded == 1 && t.od.sent.map (·.dst) == [far]) = true := by decide +kernel
theorem test_aq_reply :
  (let s := aqUp { inFlight := some am, seq := 6 }
   let b (seq : Nat) := natBE 2 0x4F44 ++ natBE 1 1 ++ natBE 1 129 ++ natBE 2 seq ++ natBE 2 0 ++ natBE 2 0 ++ natBE 2 0 ++ natBE 4 0
   ((s.aq.peers.find? fun p => match s.farDst p.1 with | some d => d.addr == far.addr && d.udp == far.udp && d.port == 24 | none => false).map (·.1)) == some 40 &&
     u16 (b 6) 10 == ((b 6).drop 16).length && ((nx (exec (.aqReplyRx 5 24 far (b 6)) s)).aqPeer 40).inFlight == none &&
     ((nx (exec (.aqReplyRx 5 24 far (b 7)) s)).aqPeer 40).inFlight == some am) = true := by decide +kernel
theorem test_aq_timeout :
  (let s := aqUp { inFlight := some am, deadline := 700 }
   let t := nx (exec (.aqTimeout 40) s)
   let u := nx (exec (.aqTimeout 40) (aqUp { inFlight := some am, deadline := 700, resends := s.reg Od.aqRetries }))
   decide (0 < s.reg Od.aqRetries) && (t.aqPeer 40).resends == 1 && t.now == 700 && (u.aqPeer 40).unreachable && (u.aqPeer 40).inFlight == none && u.reg Od.aqTimeouts == 1) = true := by decide +kernel
theorem test_aq_param_timeout :
  (let s := { up with aq := { up.aq with params := [{ msg := am, dst := 7, tag := 2, deadline := 60 }] } }
   let t := nx (exec (.aqParamTimeout 7) s)
   t.aq.params == [] && t.now == 1000000000) = true := by decide +kernel
/-! ### Lamp ports -/

/-- Port 20 in a mode, the gate open. -/
def lampUp (mode : Nat) (x : LampPort) (cfg : Store := {}) : State :=
  { (act.setReg Od.portEn 1 20).setReg Od.portMode mode 20 with lamp := { act.lamp with ports := act.lamp.ports.set 20 x }, tl := { act.tl with pres := cfg } }
theorem test_chain_window :
  (let s := lampUp 1 { window := some 900, badRun := 2 }
   let t := nx (exec (.chainReturnWindowClose 20 markerBits 400) s)
   let u := nx (exec (.chainReturnWindowClose 20 [] 0) s)
   s.lampRuns 20 1 && (s.lp 20).window == some 900 && (t.lp 20).lastResult == 0 && (t.lp 20).goodRun == 1 && (u.lp 20).lastResult == 3 && (u.lp 20).badRun == 3 &&
     u.reg Od.chainCheckFails 20 == 1 && u.now == 900) = true := by decide +kernel
theorem test_chain_results :
  (chainResult markerBits == 0 && chainResult [] == 3 && chainResult [true] == 2 && chainResult (true :: markerBits) == 1 && chainResult (List.replicate 16 true) == 4) = true := by decide +kernel
theorem test_dmx_packet :
  (let s := lampUp 2 { launched := some (60, [9#8]) }
   let t := nx (exec (.dmxPacketStart 20) s)
   s.lampRuns 20 2 && s.gate && (s.lp 20).rdmNow == none && (t.lp 20).packet.take 2 == [9#8, 0#8] && t.reg Od.dmxPackets 20 == 1 && (t.lp 20).busy == 2) = true := by decide +kernel
/-- DMX with RDM and discovery, a transaction after every packet. -/
def rdmCfg : Store := ({} : Store).setTab { Od.dmxCfg with key := Od.dmxCfg.key + 20 } ((Od.dmxCfg.dtab.bytes.set 12 3#8).set 13 1#8)
def rdmUp (x : LampPort) : State := lampUp 2 x rdmCfg
theorem test_rdm_transaction :
  (let s := rdmUp { rdmQ := [{ bytes := rdmRec }], sinceRdm := 1, busyEnd := 700 }
   let t := nx (exec (.rdmTransaction 5 20) s)
   bit (u8 (dmxRec s.tl.pres 20) 12) 0 && u8 (dmxRec s.tl.pres 20) 13 == 1 && (t.lp 20).rdmQ == [] && (t.lp 20).rdmNow.map (·.tries) == some 1 && t.fresh == 1 && t.now == 700) = true := by decide +kernel
theorem test_rdm_bad_response :
  (let q : RdmReq := { bytes := rdmRec, tries := 1 }
   let s := rdmUp { rdmNow := some q }
   let t := nx (exec (.rdmResponseRx 5 20 [1#8]) s)
   !rdmGood [1#8] && decide (q.tries ≤ s.reg Od.rdmRetries) && (t.lp 20).rdmNow == none && (t.lp 20).rdmQ == [q] && t.reg Od.rdmBad 20 == 1) = true := by decide +kernel
theorem test_rdm_gives_up :
  (let q : RdmReq := { bytes := rdmRec, tries := 9 }
   let s := rdmUp { rdmNow := some q }
   decide (s.reg Od.rdmRetries < q.tries) && (s.rdmTakes 20 [1#8]).2 == some (rdmResult (rdmTag rdmRec) 5 0 [])) = true := by decide +kernel
/-- A GET_COMMAND_RESPONSE of type ACK with no data. -/
def rdmAck : Bytes :=
  let b : Bytes := natBE 1 0xCC ++ natBE 1 1 ++ natBE 1 24 ++ natBE 12 5 ++ natBE 1 0 ++ natBE 1 0 ++ natBE 1 0 ++ natBE 2 0 ++ natBE 1 0x21 ++ natBE 2 0x60 ++ natBE 1 0
  b ++ natBE 2 (rdmSum b)
theorem test_rdm_good_response :
  (let q : RdmReq := { bytes := rdmRec, tries := 1 }
   let s := rdmUp { rdmNow := some q }
   rdmGood rdmAck && (s.rdmTakes 20 rdmAck).2 == some (rdmResult 0x0A01 0 0 []) && ((nx (exec (.rdmResponseRx 5 20 rdmAck) s)).lp 20).rdmNow == none) = true := by decide +kernel
theorem test_rdm_timeout :
  (let s := rdmUp { rdmNow := some { bytes := rdmRec, tries := 1 }, busyEnd := 700 }
   let t := nx (exec (.rdmTimeout 20) s)
   (s.lp 20).rdmNow.isSome && t.reg Od.rdmTimeouts 20 == 1 && t.now == 2800700) = true := by decide +kernel
/-- A UID not found in two discoveries in a row is gone; new ones come in. -/
theorem test_rdm_discovery :
  (let s := rdmUp { uids := [(3, 1), (4, 0)] }
   let t := nx (exec (.rdmDiscovery 20 [4, 5, 5]) s)
   bit (u8 (dmxRec s.tl.pres 20) 12) 1 && (t.lp 20).uids == [(4, 0), (5, 0)]) = true := by decide +kernel
theorem test_matrix_scan :
  (let cfg := ({} : Store).setTab { Od.matrixCfg with key := Od.matrixCfg.key + 2 } (Od.matrixCfg.dtab.bytes.set 0 1#8)
   let s := { act with tl := { act.tl with pres := cfg }, lamp := { act.lamp with groups := act.lamp.groups.set 2 { next := some [(0, [5])] } } }
   let t := nx (exec (.matrixScanStart 2 []) s)
   s.domOn 10 && s.gate && u8 (matrixRec s.tl.pres 2) 0 == 1 && (t.mg 2).shown == some [(0, [5])] && (t.mg 2).next == none) = true := by decide +kernel

/-! ### Strings and the raster -/

/-- Controller 2 enabled, the gate open. -/
def strCfg2 : Store := ({} : Store).setTab { Od.stringCfg with key := Od.stringCfg.key + 2 } ((stringCfg {} 2).set 0 1#8)
def strUp (c : StringSt) (now : Nat := 0) : State :=
  { act with tl := { act.tl with pres := strCfg2 }, strs := { act.strs with ctl := act.strs.ctl.set 2 c }, tm := { act.tm with now := now } }
theorem test_dim_period :
  (let s := strUp {}
   let t := nx (exec (.dimPeriodStart 2) s)
   u8 (stringCfg s.tl.pres 2) 0 == 1 && s.domOn 10 && s.gate && (t.str 2).enabled && (t.str 2).pinA == 1) = true := by decide +kernel
theorem test_current_sample :
  (let s := strUp { rise := 1000, steps := 8000, iRef := 5000 } 5000
   let t := nx (exec (.currentSample 10 2 4000 3000) s)
   let u := nx (exec (.currentSample 50000 2 4000 3000) s)
   (s.str 2).state == 0 && (t.str 2).iMeas == 4000 && (t.str 2).vMeas == 3000 && (u.str 2).iMeas == 0) = true := by decide +kernel
/-- R346: samples of 2,000 at 500 ns and 3,000 at 625 ns after the edge cross i_ref ÷ 2 = 2,500 at 562.5 ns. -/
theorem test_don_crossing :
  (let c : StringSt := { iRef := 5000, measure := some { edge := 1000 } }
   ((c.sampleDon 2 1500 2000).sampleDon 2 1625 3000).dons == [563]) = true := by decide +kernel
theorem test_converter_taken :
  (let s := strUp { rise := 1000, steps := 8000, iRef := 5000 } 5000
   let u := { s with strs := { s.strs with ctl := s.strs.ctl.set 3 { measure := some { edge := 4000 } } } }
   !(s.advance 10).converterTaken 2 && (u.advance 10).converterTaken 2 && ((nx (exec (.currentSample 10 2 4000 3000) u)).str 2).iMeas == 0) = true := by decide +kernel
/-- The last sample of a pulse also tests the string: here the test reads it. -/
theorem test_current_sample_last :
  (let s := strUp { rise := 1000, steps := 8000, iRef := 5000, gives := true } 10900
   let t := nx (exec (.currentSample 10 2 4000 3000) s)
   decide (1000 + 1000 ≤ 10910 ∧ 4 * 10910 < 4 * 1000 + 5 * 8000 ∧ 4 * 1000 + 5 * 8000 ≤ 4 * (10910 + 1000)) && (t.str 2).iMeas == 4000) = true := by decide +kernel
/-- Two pulses (R349, R352): a sample within the second, and the last of a first pulse long enough to be tested. -/
theorem test_current_sample_burst :
  (let s := strUp { rise := 1000, steps := 8000, rise2 := 21000, steps2 := 8000, iRef := 5000 } 25000
   let t := nx (exec (.currentSample 10 2 4000 3000) s)
   let u := nx (exec (.currentSample 10 2 4000 3000) { s with tm := { s.tm with now := 10900 } })
   decide (21000 + 1000 ≤ 25010 ∧ 4 * 25010 < 4 * 21000 + 5 * 8000 ∧ 1600 ≤ 8000) && (t.str 2).iMeas == 4000 && (u.str 2).iMeas == 4000) = true := by decide +kernel
theorem test_loop_stays_within_limits :
  (let cfg := stringCfg {} 2
   let c : StringSt := { iRef := 8192 }
   decide (u16 cfg 12 ≤ u16 cfg 14) && decide ((c.loop cfg 0).duty ≤ u16 cfg 14) && (c.loop cfg 77).iMeas == 77) = true := by decide +kernel
theorem test_stage_fault :
  (let t := nx (exec (.stageFault 5 2) (strUp { pinA := 1, pinB := 1 }))
   let u := nx (exec (.stageFault 5 2) (strUp { state := 1, pinA := 1, pinB := 1 }))
   (t.str 2).state == 3 && (t.str 2).pinA == 0 && t.reg Od.stageFaults == 1 && t.od.log.map Event.code == [0x6401] && (u.str 2).state == 1 && (u.str 2).pinA == 0) = true := by decide +kernel
theorem test_string_retry :
  (let cfg := stringCfg strCfg2 2
   let c := (({ iRef := u16 cfg 4 } : StringSt).softStart cfg).loop cfg (u16 cfg 4)
   let s := strUp { state := 3, retryAt := 900 }
   let t := nx (exec (.stringRetry 2 0 0) s)
   ({ c with vMeas := 8000 } : StringSt).test cfg == 0 && ((nx (exec (.stringRetry 2 (u16 cfg 4) 8000) s)).str 2).state == 0 && (t.str 2).state == 3 && t.reg Od.retryFails == 1 && t.now + (s.str 2).don == ((s.goTo 900).periodAt ((s.goTo 900).nextPeriod 2)).1 && decide (900 < t.now)) = true := by decide +kernel
theorem test_burst_done :
  (let s := { strUp {} with strs := { act.strs with groups := act.strs.groups.set 3 { burst := some [10, 0, 0, 0], burstEnd := 800 } } }
   let t := nx (exec (.senseBurstDone 3 (5, 5) [(9, 9), (9, 9), (9, 9), (9, 9)]) s)
   (s.strGroup 3).burst == some [10, 0, 0, 0] && (t.strGroup 3).burst == none && t.now == 800) = true := by decide +kernel
theorem test_gain_step : (gainNext 1000 5000 100 == 1100 && gainNext 1000 1050 100 == 1050 && gainNext 1000 0 100 == 900) = true := by decide +kernel
theorem test_ntc :
  (let t := nx (exec (.ntcSample 5 1 8000) act)
   (t.ntc 1).samples == [8000] && t.now == 5) = true := by decide +kernel
theorem test_derate :
  (let r : Bytes := natBE 2 1360 ++ natBE 2 1680 ++ natBE 2 8192 ++ natBE 2 0
   decide (s16 r 0 < s16 r 2) && derateOf r 1360 == 32768 && derateOf r 1680 == 8192 && derateOf r 1520 == 20480) = true := by decide +kernel

def rasUp : State := { (act.setReg Od.rasterEn 1) with ras := { act.ras with timing := act.rsShadow.1, scan := act.rsShadow.2 } }
theorem test_raster_start :
  (let t := nx (exec .rasterFrameStart rasUp)
   rasUp.rasterOn && rasUp.ras.relock == none && t.ras.inFrame && t.reg Od.framesOut == 1 && t.ras.pins.head? == some 1) = true := by decide +kernel
theorem test_raster_latch :
  (let s := { (rasUp.setReg Od.rsCommit 1) with ras := { rasUp.ras with inFrame := true } }
   let t := nx (exec .rasterLatchLine s)
   s.rasterOn && t.reg Od.rsCommit == 0 && t.reg Od.commitsLatched == 1 && !t.ras.inFrame && (nx (exec .rasterLatchLine (s.setReg Od.rsCommit 0))).reg Od.commitsLatched == 0) = true := by decide +kernel
theorem test_mode_change : ((rasUp.latchRaster [1#8] rasUp.ras.scan 9).reg Od.modeChanges == 1 && (rasUp.latchRaster [1#8] rasUp.ras.scan 9).ras.black) = true := by decide +kernel
theorem test_pll : ((nx (exec (.rasterPllLocked 5) { rasUp with ras := { rasUp.ras with relock := some 3 } })).ras.relock == none) = true := by decide +kernel
theorem test_relock_ends :
  (let s := { rasUp with ras := { rasUp.ras with relock := some 3 } }
   let t := nx (exec .rasterFrameStart s)
   s.rasterScans && t.ras.relock == none && decide (2000003 ≤ t.now) && t.ras.inFrame) = true := by decide +kernel
theorem test_underrun :
  (let t := nx (exec (.rasterUnderrun 5 0 12) rasUp)
   let u := nx (exec (.rasterUnderrun 5 0 12) t)
   rasUp.ras.eventTick != some rasUp.tl.nextTick && t.reg Od.underrunPx == 12 && t.od.log.map Event.code == [0xC001] && u.reg Od.underrunPx == 24 && u.od.log.length == 1 &&
     u.ras.lines == 1) = true := by decide +kernel

/-! ### The towpath and the mirror -/

def claimable : State := { (up.setReg Od.timelineState 1).setReg Od.autoAcquire 1 with tow := { up.tow with backoffUntil := some 700 } }
theorem test_claim_start :
  (let t := nx (exec .towClaimStart claimable)
   !claimable.peerOn && !claimable.holdoff && claimable.alive && t.tow.state == 2 && t.tow.hold && t.now == 700) = true := by decide +kernel
def claiming : State := { pairUp with tow := { pairUp.tow with state := 2, hold := true, claimAt := 100 } }
/-- A beacon sent at an instant, with its gate bit. -/
def bcn (sent gate : Nat) : Bytes := natBE 2 9 ++ natBE 1 3 ++ natBE 1 gate ++ natBE 4 3 ++ natBE 8 sent ++ natBE 8 0
theorem test_recheck_peer :
  (let s := { claiming with tow := { claiming.tow with peer := true } }
   let t := nx (exec .towClaimRecheck s)
   s.peerOn && t.tow.state == 1 && !t.tow.hold && t.tow.attempts == 1) = true := by decide +kernel
theorem test_recheck_no_beacon :
  (let t := nx (exec .towClaimRecheck claiming)
   !claiming.peerOn && claiming.pair && claiming.tow.lastBeacon == none && t.tow.rechecked && t.tow.epochWrite == some 1 && claiming.newEpoch == 1) = true := by decide +kernel
theorem test_recheck_beacons :
  (let s (sent gate : Nat) (recent : Bool) : State := { claiming with tow := { claiming.tow with lastBeacon := some (bcn sent gate, 0), peerSince := 500, beaconRecent := recent } }
   let t (sent gate : Nat) (recent : Bool) : State := nx (exec .towClaimRecheck (s sent gate recent))
   beaconGate (bcn 600 1) && !beaconGate (bcn 600 0) && beaconSent (bcn 600 1) == 600 && (t 600 1 false).tow.state == 6 && (t 600 1 false).reg Od.wireFaults == 1 &&
     (t 600 0 false).tow.epochWrite == some 1 && (t 500 1 true).tow.beaconWait && (t 500 1 false).tow.epochWrite == some 1) = true := by decide +kernel
theorem test_beacon_wait :
  (let s := { claiming with tow := { claiming.tow with beaconWait := true, rechecked := true, peerSince := 500 } }
   let t := nx (exec .beaconWaitTimeout s)
   !t.tow.beaconWait && t.tow.epochWrite == some 1 && t.now == 500 + 3 * s.reg Od.beaconPeriod * 1000000) = true := by decide +kernel
theorem test_epoch_written :
  (let s := { claiming with tow := { claiming.tow with epochWrite := some 8 } }
   let t := nx (exec (.epochWriteDone 5) s)
   let u := nx (exec (.epochWriteDone 5) { s with tow := { s.tow with state := 3 } })
   t.tow.state == 3 && t.nv.epoch == 8 && t.reg Od.takeovers == 1 && t.gate && u.reg Od.epochAdvances == 1 && u.nv.epoch == 8) = true := by decide +kernel
theorem test_backoff_holdoff :
  (let s := { up with tow := { up.tow with backoffUntil := some 400, holdoffUntil := some 900 } }
   let t := nx (exec .claimBackoffExpire s)
   let u := nx (exec .holdoffExpire t)
   t.tow.backoffUntil == none && t.now == 400 && u.tow.holdoffUntil == none && u.now == 900) = true := by decide +kernel
theorem test_peer_asserts :
  (let s := { pairUp.setReg Od.straps 3 with tow := { pairUp.tow with state := 3, hold := true } }
   let t := nx (exec (.peerAssert 5) s)
   let u := nx (exec (.peerAssert 5) { s with tow := { s.tow with hold := false, state := 1 } })
   s.pair && s.strap 1 && t.tow.peer && !t.tow.hold && t.reg Od.claimConflicts == 1 && u.tow.peer && u.tow.peerSince == 1005 &&
     !(nx (exec (.peerDeassert 5) u)).tow.peer) = true := by decide +kernel

theorem test_beacon_send :
  (let t := nx (exec .beaconSend pairUp)
   t.od.sent.map (fun m => (m.cmd, m.dst.port)) == [(3, 24)] && t.tow.nextBeacon == t.now + pairUp.reg Od.beaconPeriod * 1000000) = true := by decide +kernel
def pairAct : State := { pairUp with tow := { pairUp.tow with state := 3, hold := true } }
theorem test_mirror_small : ((nx (exec .mirrorSmallSend pairAct)).od.sent.map (·.cmd) == [2] && pairAct.pair) = true := by decide +kernel
theorem test_ledger_mirror : ((nx (exec .ageLedgerMirrorSend pairAct)).tow.nextLedger == 1000 + 600000000000) = true := by decide +kernel
theorem test_peer_link_lost :
  (let s := { pairUp with tow := { pairUp.tow with lastBeacon := some (bcn 600 1, 900) } }
   let t := nx (exec .peerLinkLost s)
   !s.tow.linkLost && t.tow.linkLost && t.reg Od.mirrorStale == 1 && t.od.log.map Event.code == [0xD006]) = true := by decide +kernel
theorem test_parts_expire :
  (let p : MirrorPart := { tag := 4, part := 0, parts := 2, key := 0, boundFrame := 0, presentAt := 0, value := [], first := 900 }
   let t := nx (exec .mirrorPartsExpire { pairUp with tow := { pairUp.tow with parts := [p, { p with tag := 5 }] } })
   t.tow.parts.map MirrorPart.tag == [5] && t.reg Od.mirrorIncomplete == 1 && t.now == 10000000900) = true := by decide +kernel
theorem test_part_not_answered :
  (let m (n : Nat) : MirrorOut := { tag := 4, part := 0, key := Od.mirrorTable.key, bytes := [1#8], resends := n }
   let s (n : Nat) : State := { pairAct with tow := { pairAct.tow with unanswered := [m n] } }
   (nx (exec (.mirrorPartNotAnswered 5) (s 2))).tow.unanswered == [m 3] && (nx (exec (.mirrorPartNotAnswered 5) (s 3))).tow.unanswered == [] &&
     (nx (exec (.mirrorPartNotAnswered 5) (s 3))).reg Od.mirrorStale == 1) = true := by decide +kernel

/-! ### Updates -/

theorem test_update_messages :
  (let m := msg []
   let st (t : State) : List Nat := t.od.spiReplies.map (·.status)
   up.takesMsg 0x10 m && up.takesMsg 0x11 m && up.takesMsg 0x12 m && up.takesMsg 0x13 m && up.takesMsg 0x14 m && up.takesMsg 0x15 m &&
     (up.updateOpen []).2.1 == stType && (up.updateOpen (List.replicate 516 0#8)).2.1 == stKeyAbsent &&
     (nx (exec (.updateOpen 5 (msg (List.replicate 516 0#8))) up)).reg Od.headersRefused == 1 && (nx (exec (.updateOpen 5 m) up)).reg Od.headersRefused == 0 && (st (nx (exec (.updatePiece 5 m) up))).length == 1 &&
     (st (nx (exec (.updateFinish 5 m) up))).length == 1 && (st (nx (exec (.updateActivate 5 m) up))).length == 1 && st (nx (exec (.updateConfirm 5 m) up)) == [stOk] &&
     st (nx (exec (.updateConfirm 5 (msg [1#8])) up)) == [stType] && (st (nx (exec (.updateAbort 5 m) up))).length == 1) = true := by decide +kernel
theorem test_activate_nothing : (up.staged? == none && (up.updateActivate []).2 == stType && (up.updateActivate (List.replicate 16 0#8)).2 == stNotStaged) = true := by decide +kernel
theorem test_session_expire :
  (let s := { up.setReg Od.timeSet 1 with upd := { up.upd with session := some { number := 1, header := [], contentSlot := 0, slot := 1, opened := 100, held := [0, 1], parts := [] } } }
   let t := nx (exec .updateSessionExpire s)
   t.upd.session == none && t.now == 100 + s.reg Od.sessionLife * 86400000000000 && t.od.log.map Event.code == [0xA005]) = true := by decide +kernel
/-- Slot 1 holds a staged image; the activation is due. -/
def stagedUp : State :=
  { up with upd := { up.upd with slots := [{ state := 4 }, { state := 2, version := 9, rollback := 3 }], activation := some { flags := 0, at_ := 5000 } } }
theorem test_update_activation : (stagedUp.staged?.isSome && stagedUp.alive) = true := by decide +kernel
/-- With HANDOVER on a unit that is not ACTIVE (R437): cancelled, the image stays staged. -/
theorem test_activation_refused :
  (let s := { stagedUp with upd := { stagedUp.upd with activation := some { flags := 1, at_ := 5000 } } }
   let t := nx (exec .updateActivation s)
   s.cmdHandover.2.1 == stNotOwner && t.upd.activation == none && t.staged? == s.staged? && t.od.log.map Event.code == [0xA006]) = true := by decide +kernel
/-- A start whose image fails its checks (R441, R444): the previous slot, or recovery. -/
theorem test_choose_image :
  (let s (l : List (Nat × Nat)) : State := { up with
     upd := { up.upd with slots := [{ state := 4 }, { state := 5, version := 9 }] }, pwr := { up.pwr with selfTests := [{ slots := l }] } }
   let t := (s [(0, 3)]).beginStart 2
   let u := (s [(0, 3), (1, 3)]).beginStart 2
   decide ((s [(0, 3)]).upd.running = 0 ∧ 64 ≤ up.pwr.flashMiB ∧ (s []).upd.floor ≤ ((s []).image 1).rollback) && (s []).chooseImage.2 == 0 &&
     t.upd.running == 1 && t.pwr.cause == 5 && t.pwr.state == 1 && u.pwr.state == 7 && u.upd.running == 0 &&
     ({ up with pwr := { up.pwr with flashMiB := 32 } } : State).chooseImage.2 == 2) = true := by decide +kernel
def trialUp : State :=
  { (up.setReg Od.autoConfirm 1).setReg Od.timelineState 1 with
    upd := { up.upd with slots := [{ state := 5 }, { state := 3, rollback := 3, tries := 1 }], running := 1, trial := true, calmSince := some 100, tryStart := some 100 } }
theorem test_auto_confirm :
  (let t := nx (exec .autoConfirm trialUp)
   !t.upd.trial && t.upd.floor == 3 && t.upd.running == 1 && t.now == 30000000100) = true := by decide +kernel
theorem test_confirm_window :
  (let t := nx (exec .confirmWindowExpire trialUp)
   let u := ({ trialUp with upd := { trialUp.upd with slots := [{ state := 5 }, { state := 3, tries := 3 }] } } : State).failedTry
   t.now == 100 + trialUp.reg Od.confirmWindow * 1000000000 && t.upd.trial && t.upd.running == 1 && u.upd.running == 0 && !u.upd.trial) = true := by decide +kernel

/-! ### Trim, the lengthsman, power and reset -/

theorem test_trim_t_done :
  (let s := { up with trim := { up.trim with running := true, again := true } }
   s.domOn 1 && s.trim.running && s.trim.again && up.alive && !up.trim.running) = true := by decide +kernel
theorem test_trim_a_done :
  (let s := { up with trim := { up.trim with aRun := some (66, 0, rq) } }
   s.domOn 1 && s.trim.aRun == some (66, 0, rq) && up.trim.aRun == none) = true := by decide +kernel
theorem test_lengthsman : (up.alive && { up with weir := { up.weir with tjHottest := 800 } }.alive) = true := by decide +kernel
theorem test_life_ledger :
  (let t := nx (exec .lifeLedgerWrite { up with trim := { up.trim with seconds := 50 } })
   t.trim.secondsSaved == 50 && t.now == 600000000000) = true := by decide +kernel
theorem test_ddr_ce :
  (let s := { up.setReg Od.ddrCeLimit 6 with trim := { up.trim with ddr := [3] } }
   let t := nx (exec (.ddrCeStep 4) s)
   s.domOn 4 && t.reg Od.ddrCeHour == 7 && t.trim.ddrCause && t.now == 60000000000) = true := by decide +kernel

theorem test_porst :
  (let t := nx (exec (.porst 5) (act.setReg Od.deviceNumber 7))
   let u := nx (exec (.powerOnReset 5) act)
   t.pwr.state == 0 && t.pwr.cause == 1 && !t.gate && t.now == 0 && t.device == 0 && u.pwr.cause == 0) = true := by decide +kernel
/-- Two copies of a record in eNVM: a write goes to the older, and one that is torn leaves the newer. -/
theorem test_copies :
  (let c : Copies := (Copies.first [1#8]).write [2#8]
   c.read.1 == [2#8] && c.a != none && c.b != none && (c.tear true).read == c.read && ((c.write [3#8]).tear true).read.1 == [3#8]) = true := by decide +kernel
theorem test_porst_release :
  (let t := nx (exec (.porstRelease 5 9 true) State.reset)
   State.reset.pwr.state == 0 && State.reset.pwr.cause == 1 && State.reset.pwr.railsOk && t.pwr.state == 1 && t.reg Od.straps == 9 &&
     (nx (exec (.porstRelease 5 0 true) { State.reset with pwr := { State.reset.pwr with railsOk := false } })).pwr.state == 6) = true := by decide +kernel
theorem test_power_on_end :
  (let s := { State.reset with pwr := { State.reset.pwr with cause := 0, strapLive := 2 } }
   (nx (exec (.powerOnResetEnd 5) s)).reg Od.straps == 2) = true := by decide +kernel
theorem test_warm : (act.pwr.state == 2 && !act.pwr.warmLow && up.alive) = true := by decide +kernel
theorem test_brown_out :
  (act.pwr.state == 2 && act.gate && act.pwr.railsOk &&
     (nx (exec (.brownOutRecovery 5) { up with pwr := { up.pwr with railsOk := false } })).pwr.railsOk) = true := by decide +kernel
theorem test_brown_out_off :
  (let t := nx (exec (.brownOut 5 2) State.reset)
   t.pwr.state == 0 && !t.pwr.railsOk && t.pwr.brownRail == 2) = true := by decide +kernel
theorem test_shutdown_cool :
  (let s := { up.setReg Od.shutAutoRestart 0 with pwr := { up.pwr with state := 5, shutLatched := true, coolSince := some 100 } }
   let t := nx (exec .shutdownCool s)
   !t.pwr.shutLatched && t.pwr.state == 5 && t.now == 10000000100) = true := by decide +kernel
theorem test_domain_good_fault :
  (let s := { up with pwr := { up.pwr with doms := up.pwr.doms.set 3 2 } }
   s.pwr.doms.getD 3 0 == 2 && !s.domOn 3 && !s.pwr.warmLow && up.domOn 3) = true := by decide +kernel
theorem test_cp_watchdog :
  (up.domOn 1 && !up.upd.trial && decide ((up.pwr.wdStarts.filter fun t => decide (up.now < t + 600000000000)).length + 1 < up.reg Od.wdStormLimit)) = true := by decide +kernel
theorem test_supervisor_watchdog : ((nx (exec (.supervisorWatchdog 5) up)).od.log.map Event.code == [0xE004]) = true := by decide +kernel
theorem test_strap_changed :
  (let t := nx (exec (.strapChanged 5 2 true) up)
   let u := nx (exec (.strapChanged 5 2 true) t)
   !up.strap 2 && t.od.log.map Event.code == [0xE005] && t.pwr.strapRaised == [2] && u.od.log.length == 1 && (nx (exec (.strapChanged 5 2 false) u)).pwr.strapRaised == []) = true := by decide +kernel

/-! ### Worked examples of the manual -/

/-- spec/02, a tick at Eastlock Arena. -/
theorem test_tick_grid :
  (tickTime 9 105000000000 == 1750000000000000000 && frameNo 105000000000 == 1920784896 && tickTime 9 105000000001 == 1750000000016666666 &&
     tickTime 9 105000000003 == 1750000000050000000) = true := by decide +kernel
/-- spec/02, commits around one cut-off: D = 2, COMMIT_CUTOFF 250 µs. -/
theorem test_commits_around_cutoff :
  (let k := 105000000000
   let t (us : Nat) : State := { up.setReg Od.commitCutoff 250 with tm := { up.tm with now := tickTime 9 k - us * 1000 } }
   (t 300).bindAt none (fun _ => 2) == (k, false) && (t 250).bindAt none (fun _ => 2) == (k + 1, false) && (t 200).bindAt none (fun _ => 2) == (k + 1, false) &&
     (t 100).bindAt (some (tickTime 9 (k + 2))) (fun _ => 2) == (k + 1, true) && (t 100).bindAt (some (tickTime 9 (k + 2) + 1)) (fun _ => 2) == (k + 1, false)) = true := by decide +kernel
/-- spec/07, decoding one pixel. -/
theorem test_decode_pixel : (toRgb 1 0 0 (32768, 25600, 38400) == (43653, 32038, 18316)) = true := by decide +kernel
/-- spec/07, a tilted tile: the position of pixel (100, 200). -/
def tilted : Bytes :=
  natBE 8 0 ++ natBE 4 16252928 ++ natBE 4 0 ++ natBE 4 0 ++ natBE 4 16777216 ++ natBE 8 19335741440 ++ natBE 8 6442450944 ++ natBE 4 67108864 ++ natBE 12 0
theorem test_tilted_tile : (tilePos tilted 100 200 == (1106222514176, 81382322, 38040841)) = true := by decide +kernel
/-- spec/08, one pixel from L24 to the wire: steps 2, 3, 4, 7 and 9. -/
theorem test_one_pixel :
  (let r := natBE 2 3900 ++ natBE 2 120 ++ natBE 2 65516 ++ natBE 2 60 ++ natBE 2 3950 ++ natBE 2 40 ++ natBE 2 0 ++ natBE 2 65506 ++ natBE 2 4010 ++ natBE 2 0
   pixelMatrix r [417235, 351762, 220000] == [406501, 347484, 212804] && [applyGain 406501 33423, applyGain 347484 33096, applyGain 212804 32768] == [414627, 350962, 212804] &&
     [applyGain 414627 24576, applyGain 350962 24576, applyGain 212804 24576] == [310970, 263222, 159603] &&
     [applyGain 310970 31130, applyGain 263222 31130, applyGain 159603 31130] == [295425, 250064, 151625] &&
     [quantise 16 295425 200, quantise 16 250064 17, quantise 16 151625 128] == [(18464, 143), (15628, 211), (9476, 234)] &&
     packBits 16 [18464, 15628, 9476] == [0x48#8, 0x20#8, 0x3D#8, 0x0C#8, 0x25#8, 0x04#8]) = true := by decide +kernel
/-- spec/08, white extraction on a string fixture. -/
theorem test_white_extraction :
  (let e := natBE 2 13107 ++ natBE 2 16384 ++ natBE 2 9830 ++ natBE 2 32768
   whiteExtract e [600000, 500000, 400000] == [200006, 0, 100012, 1000000] && ([200006, 0, 100012, 1000000].map fun v => (quantise 16 v 128).1) == [12500, 0, 6251, 62499]) = true := by decide +kernel
/-- spec/09, feed 3 at Eastlock Arena. -/
theorem test_feed_three :
  (let r := natBE 2 3 ++ natBE 4 4000000 ++ natBE 2 30147
   let us : List FeedUnit := List.replicate 6 { n := some 553500000, h := 73800000 } ++ List.replicate 4 { n := some 73800000, h := 73800000 }
   feedBudget r == 3680053710 && feedFit true us 3230053710 == some 28957 && feedFit false us 3230053710 == some 29268 && driveAt 28957 73800000 == 65216876) = true := by decide +kernel
/-- spec/12, one lane of device 6: tiles 20 to 24 on LANE4. -/
def lane4 : State × Store :=
  let maps := [20, 21, 22, 23, 24].flatMap fun n => natBE 2 n ++ natBE 2 0 ++ natBE 2 384 ++ natBE 2 384 ++ natBE 48 0
  let cols := [20, 21, 22, 23, 24].flatMap fun n => natBE 2 n ++ natBE 2 0x30 ++ natBE 36 0
  let links := [0, 1, 2, 3, 4].flatMap fun i => natBE 2 (20 + i) ++ natBE 1 4 ++ natBE 1 i ++ natBE 12 0
  let cfg := ((((({} : Store).setTab Od.tileMap maps).setTab Od.tileColour cols).setTab Od.tileLink links).setTab Od.sectionList (natBE 2 4 ++ natBE 2 0 ++ natBE 2 100)).setVal
    (Od.zhLane.key + 4) (.tab (natBE 1 0 ++ natBE 1 1 ++ natBE 1 1 ++ natBE 2 9216 ++ natBE 4 0))
  let tile (d : Int) : Tile := { state := 2, delta := d, presentLat := 8000 }
  ({ (up.setReg Od.maxFrame 9600 4).setReg Od.rate 2 4 with zl := { up.zl with tiles := [(20, tile 1020), (21, tile 1180), (22, tile 1340), (23, tile 1500), (24, tile 1660)] } }, cfg)
theorem test_lane_plan :
  (let p := lane4.1.planLane lane4.2 9 100 2 4
   p.aLane == 9660 && p.tiles.map PlanTile.wait == [160, 120, 80, 40, 0] && p.tiles.map PlanTile.sigma == [285512, 285512, 285512, 285512, 285512] &&
     p.tiles.map PlanTile.lam == [1439220, 1153708, 868196, 582684, 297172]) = true := by decide +kernel
/-- spec/13: 960 LEDs of 3 bytes with the marker take 9,591,296 ns; 128 DMX slots take 5,864 µs. -/
theorem test_line_times :
  (let c := natBE 2 960 ++ natBE 1 3 ++ natBE 1 128 ++ (Od.chainCfg.dtab.bytes.drop 4)
   (chainTimes c).1 == 416 && chainLine c == 9591296 && dmxTime (natBE 2 128 ++ natBE 2 176 ++ natBE 1 12 ++ natBE 1 0 ++ natBE 10 0) 128 == 5864000) = true := by decide +kernel
/-- spec/13, a stage panel. -/
theorem test_stage_panel :
  (let r := natBE 1 1 ++ natBE 1 16 ++ natBE 2 64 ++ natBE 1 3 ++ natBE 1 12 ++ natBE 1 17 ++ natBE 1 0 ++ natBE 2 40 ++ natBE 2 40 ++ natBE 2 10 ++ natBE 2 1000 ++ natBE 8 0
   mxLoad r == 2600 && mxOn r 11 == 20480 && mxRow r == 60240 && mxPixels r == 2048) = true := by decide +kernel
/-- spec/14, a fascia string group: sp after g, and on-times in steps. -/
theorem test_fascia_string :
  (periodSteps 4166666 == 3333332 && scaledSp 12500 32900 32768 == 12550 && ([12550, 6251, 62499].map fun x => onSteps 3333332 x 65535) == [638335, 317947, 3178911]) = true := by decide +kernel

/-! ### Ill-formed commands -/

/-! An ill-formed term for each check of `Instr.wf`. -/

def srcBad : Src := { port := 27 }
def rqBad : Req := { src := spi, seq := 65536 }
def msgBad : Msg := { src := spi, seq := 65536, device := 0, length := 0, payload := [] }

def bad1 : List Instr :=
  [.holdDecision (.tile 1024), .holdDecision (.chain 48), .holdDecision (.dmx 48), .holdDecision (.matrix 8), .holdDecision (.str 16),
   .outputLaunch (.raster 2), .outputLaunch (.sacn 0), .outputLaunch (.sacn 64000), .commit 0 rqBad, .commit 0 { src := srcBad, seq := 0 },
   .commit 0 { src := { spi with addr := 2 ^ 128 }, seq := 0 }, .commit 0 { src := { spi with udp := 65536 }, seq := 0 }, .read 0 msgBad,
   .read 0 { msg [] with magic := 65536 }, .read 0 { msg [] with ver := 256 }, .read 0 { msg [] with device := 65536 },
   .read 0 { msg [] with length := 65536 }, .groupCommit 0 (msg []), .commitAt 0 rq (2 ^ 80), .switchAtWrite 0 rq (2 ^ 80),
   .deviceNumberWrite 0 rq 65536, .irqPendingWrite 0 rq 65536, .mgmt1ClassWrite 0 rq 256, .selectWrite 0 rq 256]
def bad2 : List Instr :=
  [.rsCommit 0 rq 256, .standbyModeWrite 0 rq 256, .domainEnWrite 0 rq 256, .registerWrite 0 rq 65536 0 0 [], .registerWrite 0 rq 0 256 0 [],
   .registerWrite 0 rq 0 0 256 [], .registerWrite 0 rq 0 0 0 (List.replicate 1413 0#8), .bulkExpire 65536, .subscriptionLapse 16, .notify 0 16,
   .putMsg 0 (List.replicate 1453 0#8), .ptpAnnounceRx 0 26 ann, .ptpAnnounceRx 0 0 { ann with domainNumber := 256 },
   .ptpAnnounceRx 0 0 { ann with gm := 2 ^ 64 }, .ptpAnnounceRx 0 0 { ann with priority1 := 256 }, .ptpAnnounceRx 0 0 { ann with clockClass := 256 },
   .ptpAnnounceRx 0 0 { ann with accuracy := 256 }, .ptpAnnounceRx 0 0 { ann with variance := 65536 },
   .ptpAnnounceRx 0 0 { ann with priority2 := 256 }, .ptpAnnounceRx 0 0 { ann with stepsRemoved := 65536 },
   .ptpAnnounceRx 0 0 { ann with sender := 2 ^ 64 }, .ptpAnnounceRx 0 0 { ann with senderPort := 65536 }, .ptpSyncRx 0 26 sy,
   .ptpSyncRx 0 0 { sy with domainNumber := 256 }]
def bad3 : List Instr :=
  [.ptpSyncRx 0 0 { sy with sender := 2 ^ 64 }, .ptpSyncRx 0 0 { sy with senderPort := 65536 }, .ptpDelayRespRx 0 26 dr,
   .ptpPdelayRespRx 0 0 { dr with seq := 65536 }, .ptpPdelayReqRx 0 0 256 0 0, .ptpPdelayReqRx 0 0 0 (2 ^ 80) 0, .ptpPdelayReqRx 0 0 0 0 65536,
   .delayReqSend 0 2, .announceReceiptTimeout 2, .syncTimeout 2, .holdoverExpired 2, .domainEnableWrite 0 rq 2 0, .domainEnableWrite 0 rq 0 256,
   .tsqEntryDeliver 0 26, .linkUp 0 ⟨26, false⟩, .linkDown 0 26, .txSelect 0 26, .txFrameDone 0 26, .pauseIgnoreEnd 26, .mgmtInbandStatus 0 23 true 1 true,
   .mgmtInbandStatus 0 24 true 4 true, .laneEnWrite 0 rq 26 0, .laneEnWrite 0 rq 0 256, .rxFrame 0 26 { bytes := [] }]
def bad4 : List Instr :=
  [.pauseExpire 0 8, .pauseOverride 26 0, .videoPacket 0 24 vp, .videoPacket 0 0 { vp with dst := 2 ^ 128 },
   .videoPacket 0 0 { vp with dstPort := 65536 }, .videoPacket 0 0 { vp with srcAddr := 2 ^ 128 }, .videoPacket 0 0 { vp with rtpVersion := 4 },
   .videoPacket 0 0 { vp with pt := 128 }, .videoPacket 0 0 { vp with seq16 := 65536 }, .videoPacket 0 0 { vp with extSeq := 65536 },
   .videoPacket 0 0 { vp with timestamp := 2 ^ 32 },
   .videoPacket 0 0 { vp with srds := [{ row := 32768, offset := 0, fbit := false, length := 0, data := [] }] },
   .videoPacket 0 0 { vp with srds := [{ row := 0, offset := 32768, fbit := false, length := 0, data := [] }] },
   .videoPacket 0 0 { vp with srds := [{ row := 0, offset := 0, fbit := false, length := 65536, data := [] }] },
   .videoPacket 0 0 { vp with srds := [{ row := 0, offset := 0, fbit := false, length := 0, data := [1#8] }] }, .pathTimeout 2 0 0,
   .pathTimeout 0 8 0, .pathTimeout 0 0 2, .streamTimeout 2, .sacnDataPacket 0 24 sp, .sacnDataPacket 0 0 { sp with univ := 65536 },
   .sacnDataPacket 0 0 { sp with cid := 2 ^ 128 }, .sacnDataPacket 0 0 { sp with priority := 256 }, .sacnDataPacket 0 0 { sp with seq := 256 }]
def bad5 : List Instr :=
  [.sacnDataPacket 0 0 { sp with sync := 65536 }, .sacnDataPacket 0 0 { sp with startCode := 256 },
   .sacnDataPacket 0 0 { sp with slots := List.replicate 513 0#8 }, .sacnSyncPacket 0 ⟨0, 0⟩ 65536 0 0, .sacnSyncPacket 0 ⟨0, 0⟩ 0 256 0,
   .sacnSyncPacket 0 ⟨0, 0⟩ 0 0 (2 ^ 128), .sacnSourceTimeout 65536 0, .sacnSyncTimeout 0 (2 ^ 128), .ageLedgerWrite 0 rqBad [], .dieTempSample [0],
   .bargeSubmit 0 ⟨[], []⟩, .ask 0 136 0, .bargeTimeout 136, .firmwareBargeComplete 0 0 4096 [], .firmwareBargeComplete 0 0 0 [[]],
   .firmwareBargeComplete 0 0 0 (List.replicate 17 (List.replicate 32 0#8)), .flightRelease 0 4096, .cellRetire 0 rq (2 ^ 64),
   .cellRestore 0 rqBad 0, .delayEntryAct 4, .delayInsert 0 4 (List.replicate 32 0#8), .delayInsert 0 0 [],
   .poundWrite 0 4096 0 0 (List.replicate 32 0#8), .poundWrite 0 0 8 0 (List.replicate 32 0#8)]
def bad6 : List Instr :=
  [.poundWrite 0 0 0 8 (List.replicate 32 0#8), .poundWrite 0 0 0 0 [], .poundRead 0 4096 true, .spillFetchDone 0 4096 0, .sluicePinUpdate 0 8,
   .latchFixup 24, .echoSend 1024, .aqParamTimeout 1024, .echoReplyRx 0 24 { bytes := [] }, .sealRollNow 0 rq (2 ^ 64), .dmxPacketStart 48,
   .rdmResponseRx 0 0 (List.replicate 258 0#8), .rdmDiscovery 0 [2 ^ 48], .rdmQueueWrite 0 rq 48 [], .rdmQueueWrite 0 rq 0 (List.replicate 1025 0#8),
   .portEnWrite 0 rq 48 0, .portEnWrite 0 rq 0 256, .matrixScanStart 8 [], .dimPeriodStart 16, .currentSample 0 0 16384 0,
   .currentSample 0 0 0 16384, .stringRetry 16 0 0, .senseBurstDone 16 (0, 0) [], .senseCapture 0 rq (2 ^ 64)]
def bad7 : List Instr :=
  [.ntcSample 0 4 0, .ntcSample 0 0 16384, .rsShadowWrite 0 rq 2 [], .rsShadowWrite 0 rq 0 (List.replicate 1025 0#8), .rasterUnderrun 0 2 0,
   .aqForwardSend 0 4096, .aqReplyRx 0 26 spi [], .aqReplyRx 0 0 srcBad [], .peerBeaconWrite 0 rq (List.replicate 1025 0#8),
   .mirrorTableWrite 0 rqBad [], .keyRegisterWrite 0 rq 3 [], .keyRegisterWrite 0 rq 0 (List.replicate 1025 0#8), .keyInvalidate 0 rq (2 ^ 64),
   .orphanGraceExpire 64, .drbgHealthFail 0 256, .trimARun 0 rq (2 ^ 64), .porstRelease 0 16 true, .brownOut 0 8, .domainPowerGood 0 0, .domainFault 13,
   .strapChanged 0 4 true]
theorem test_ill_formed_1 : (bad1.all fun c => !c.wf) = true := by decide +kernel
theorem test_ill_formed_2 : (bad2.all fun c => !c.wf) = true := by decide +kernel
theorem test_ill_formed_3 : (bad3.all fun c => !c.wf) = true := by decide +kernel
theorem test_ill_formed_4 : (bad4.all fun c => !c.wf) = true := by decide +kernel
theorem test_ill_formed_5 : (bad5.all fun c => !c.wf) = true := by decide +kernel
theorem test_ill_formed_6 : (bad6.all fun c => !c.wf) = true := by decide +kernel
theorem test_ill_formed_7 : (bad7.all fun c => !c.wf) = true := by decide +kernel
theorem test_well_formed :
  (([.commit 0 rq, .holdDecision (.tile 1023), .read 0 (msg []), .groupCommit 0 (gm 0), .ptpAnnounceRx 0 25 ann, .videoPacket 0 23 vp, .sacnDataPacket 0 0 sp, .bargeSubmit 0 ⟨[], bg 0x10 0⟩, .brownOut 0 7,
    .domainFault 12, .tick (some 0)] : List Instr).all Instr.wf) = true := by decide +kernel

/-! ### The table gives no bits -/

theorem test_no_word : (decodeTableWord 32 0x12345678 == none && ((up.withFetchWord 32 7).pending == [])) = true := by decide +kernel

end Sys2Proof.Tests
end

/-!
PROOFS. Binding an untimed commit (R26, R35): ticks and times answer one another, so the first frame ahead is the least one whose
cut-off is still to come; an accepted commit is bound to it, and BOUND_FRAME tells it.
-/
namespace Sys2Proof.Machine

/-! ## The tick grid (R25, R26) -/

/-- A listed rate, and the one that stands for a code not listed, is positive and at most one tick a nanosecond. -/
theorem rateOf_bounds (code : Nat) : 0 < (rateOf code).1 ∧ 0 < (rateOf code).2 ∧ (rateOf code).1 ≤ (rateOf code).2 * 1000000000 := by
  unfold rateOf rateNM
  split <;> decide

/-- The first tick at or after `t` is adjoint to the time of a tick. -/
theorem tickFrom_le_iff (code t k : Nat) : tickFrom code t ≤ k ↔ t ≤ tickTime code k := by
  obtain ⟨hN, hM, -⟩ := rateOf_bounds code
  calc tickFrom code t ≤ k
      ↔ t * (rateOf code).1 ⌈/⌉ ((rateOf code).2 * 1000000000) ≤ k := by rw [Nat.ceilDiv_eq_add_pred_div]; rfl
    _ ↔ t * (rateOf code).1 ≤ (rateOf code).2 * 1000000000 * k := ceilDiv_le_iff_le_mul (by omega)
    _ ↔ t * (rateOf code).1 ≤ k * (rateOf code).2 * 1000000000 := by rw [Nat.mul_comm _ k, Nat.mul_assoc]
    _ ↔ t ≤ tickTime code k := (Nat.le_div_iff_mul_le hN).symm

/-- No two ticks fall on one nanosecond. -/
theorem tickTime_lt_succ (code k : Nat) : tickTime code k < tickTime code (k + 1) := by
  obtain ⟨hN, -, hMN⟩ := rateOf_bounds code
  have floor : tickTime code k * (rateOf code).1 ≤ k * (rateOf code).2 * 1000000000 := Nat.div_mul_le_self ..
  refine (Nat.le_div_iff_mul_le hN).mpr ?_
  calc (tickTime code k + 1) * (rateOf code).1
      = tickTime code k * (rateOf code).1 + (rateOf code).1 := Nat.succ_mul ..
    _ ≤ k * (rateOf code).2 * 1000000000 + (rateOf code).2 * 1000000000 := Nat.add_le_add floor hMN
    _ = (k + 1) * (rateOf code).2 * 1000000000 := by rw [Nat.succ_mul, Nat.add_mul]

/-! ## The first frame ahead (R35) -/

/-- The first frame ahead is the least that is not yet fixed and whose cut-off lies strictly after now. -/
theorem State.firstFrame_le_iff (s : State) (k : Nat) :
    s.firstFrame ≤ k ↔ s.now + s.reg Od.commitCutoff * 1000 < tickTime s.tl.rate k ∧ s.tl.nextCut ≤ k := by
  rw [State.firstFrame, Nat.max_le, tickFrom_le_iff, Nat.succ_le_iff]

/-- The cut-off of frame `k` itself is not strictly after it, and that of the next frame is. -/
theorem State.firstFrame_at_cutoff {s : State} {k : Nat} (hk : s.now + s.reg Od.commitCutoff * 1000 = tickTime s.tl.rate k)
    (hc : s.tl.nextCut ≤ k + 1) : s.firstFrame = k + 1 := by
  have reached : s.firstFrame ≤ k + 1 := (s.firstFrame_le_iff _).mpr ⟨hk.trans_lt (tickTime_lt_succ ..), hc⟩
  have past : ¬ s.firstFrame ≤ k := fun h => ((s.firstFrame_le_iff k).mp h).1.ne hk
  omega

@[simp] theorem State.bindAt_none (s : State) (d : Nat → Nat) : s.bindAt none d = (s.firstFrame, false) := rfl

/-! ## What accepting a commit leaves in the registers -/

/-- Two states whose entry holds the same number read the same there. -/
theorem State.reg_eq_of_num?_eq {s t : State} {r : OdRow} {i : Nat} (h : t.num? (r.key + i) = s.num? (r.key + i)) : t.reg r i = s.reg r i := by
  simp only [State.num?] at h
  simp only [State.reg, Store.num, kvGetD, h]

theorem num?_noteJournal (s : State) (k : Nat) (v : OdVal) (key : Nat) : (s.noteJournal k v).num? key = s.num? key := by
  simp only [State.num?, State.noteJournal, State.noteMirror_od]

theorem num?_queueCal (s : State) (target : Nat) (b : Bytes) (key : Nat) : (s.queueCal target b).num? key = s.num? key := rfl

theorem num?_raise (s : State) (code : Nat) (arg : Bytes) (key : Nat) : (s.raise code arg).num? key = s.num? key := rfl

theorem num?_keepCommit (s : State) (cfg : Store) (vals : List (Nat × OdVal)) (key : Nat) : (s.keepCommit cfg vals).num? key = s.num? key := by
  unfold State.keepCommit
  exact (num?_foldl key _ _ (fun s v _ => num?_queueCal s _ _ key) _).trans (num?_foldl key _ _ (fun s v _ => num?_noteJournal s _ _ key) s)

theorem num?_mirrorSend (s : State) (vals : List (Nat × Bytes)) (bound at_ key : Nat) : (s.mirrorSend vals bound at_).num? key = s.num? key := by
  unfold State.mirrorSend
  split
  · rfl
  · exact num?_foldl key State.sendPart _ (fun s _ _ => num?_send s _ key) s

theorem num?_mirrorCommit (s : State) (cfg : Store) (w : Commit) (vals : List (Nat × OdVal)) (key : Nat) :
    (s.mirrorCommit cfg w vals).num? key = s.num? key := by
  unfold State.mirrorCommit
  simp only []
  split
  · rfl
  · split
    · rfl
    · rw [num?_mirrorSend]; rfl

/-- That a commit is late is counted and raised, and leaves BOUND_FRAME. -/
theorem State.boundFrame_of_late (s : State) (late : Bool) (code : Nat) (arg : Bytes) :
    (if late then (if s.running then s.count Od.lateBoundCount else s).raise code arg else s).reg Od.boundFrame = s.reg Od.boundFrame := by
  split
  · rw [State.raise_reg]
    split
    · exact State.reg_count_ne _ _ (by decide)
    · rfl
  · rfl

/-- BOUND_FRAME tells the frame an accepted commit is bound to: nothing the acceptance does after setting it writes it again. -/
theorem State.acceptCommit_boundFrame (s : State) (w : Commit) (late : Bool) : (s.acceptCommit w late).reg Od.boundFrame = frameNo w.bound := by
  unfold State.acceptCommit
  refine (State.reg_eq_of_num?_eq (num?_mirrorCommit ..)).trans ?_
  refine (State.reg_eq_of_num?_eq (num?_foldl _ _ _ (fun s a _ => num?_raise s _ a _) _)).trans ?_
  refine (State.boundFrame_of_late ..).trans ?_
  refine (State.reg_eq_of_num?_eq (num?_keepCommit ..)).trans ?_
  exact State.reg_setReg ..

/-! ## Commits that are taken (R34–R37) -/

theorem refuses_eq_false_iff (st : Nat) : refuses st = false ↔ st = stOk ∨ st = stLateBound := by
  simp only [refuses, Bool.and_eq_false_iff, bne_eq_false_iff_eq]

/-- A commit that is not refused is accepted at the frame its binding gives, and its status tells whether it is late. -/
theorem State.commitVals_taken {s t : State} {time : Option Nat} {vals : List (Nat × OdVal)} {mirror : Bool} {st k : Nat}
    (h : s.commitVals time vals mirror = (t, st, k)) (hst : refuses st = false) :
    k = (s.bindAt time (s.delayOf vals)).1 ∧ st = (if (s.bindAt time (s.delayOf vals)).2 then stLateBound else stOk) ∧
      t = s.acceptCommit { bound := k, vals := vals, mirror := mirror } (s.bindAt time (s.delayOf vals)).2 := by
  unfold State.commitVals at h
  simp only [] at h
  split_ifs at h with busy outOfRange late
  · cases h
    exact absurd hst (by decide)
  · cases h
    exact absurd hst (by decide)
  · cases h
    exact ⟨rfl, (if_pos late).symm, rfl⟩
  · cases h
    exact ⟨rfl, (if_neg late).symm, rfl⟩

/-- A host's commit that is not refused commits the dirty set. -/
theorem State.commitDirty_taken {s t : State} {cls : Nat} {time : Option Nat} {st k : Nat} (h : s.commitDirty cls time = (t, st, k))
    (hst : refuses st = false) : s.commitVals time s.tl.dirty false = (t, st, k) := by
  unfold State.commitDirty at h
  split at h
  · cases h
    exact absurd hst (by decide)
  · exact h

/-- An untimed commit that is taken is on time, binds to the first frame ahead, and BOUND_FRAME tells that frame. -/
theorem State.commitDirty_untimed {s t : State} {cls st k : Nat} (h : s.commitDirty cls none = (t, st, k)) (hst : refuses st = false) :
    st = stOk ∧ k = s.firstFrame ∧ t.reg Od.boundFrame = frameNo k := by
  obtain ⟨hk, hs, rfl⟩ := State.commitVals_taken (State.commitDirty_taken h hst) hst
  exact ⟨hs, hk, State.acceptCommit_boundFrame ..⟩

/-! ## The write to COMMIT (R34, R72) -/

/-- An item of a row's own entry carries that entry's key. -/
theorem OdRow.numItem_key {r : OdRow} {i : Nat} (h : i < r.n) (n : Nat) : (r.numItem i n).key = r.key + i := by
  simp only [OdRow.numItem, OdRow.item, if_pos h, WriteItem.key, entryKey, Nat.div_add_mod']

/-- Outside recovery, an item written to COMMIT commits the dirty set, whatever value it carries. -/
theorem State.runItem_commit {s : State} (hs : s.pwr.state ≠ 7) (cls n : Nat) (req : Req) :
    s.runItem cls req (Od.commit.numItem 0 n) = s.commitEff cls none := by
  have found : s.entryRow Od.commit.key = some (Od.commit, 0) := by
    unfold State.entryRow
    rw [if_neg fun h => hs h.1]
    decide
  have key : (Od.commit.numItem 0 n).key = Od.commit.key := OdRow.numItem_key (by decide) n
  unfold State.runItem
  rw [key, found]
  rfl

@[simp] theorem State.served_pwr (s : State) (dt : Nat) : (s.served dt).pwr = s.pwr := by
  rw [State.served, State.count_pwr, State.advance_pwr]

/-- An accepted write to COMMIT is answered with the commit of the dirty set. -/
theorem exec_commit_accepted {s : State} {dt : Nat} {r : Req} (h : s.takes r.src r.seq = true)
    (ha : (s.served dt).accepts r (Od.commit.numItem 0 0)) :
    exec (.commit dt r) s = .next (State.ended s
      (answered r (Od.commit.numItem 0 0) ((s.served dt).commitEff (s.portClass r.src.port) none))) := by
  obtain ⟨-, -, -, -, running, -⟩ := (s.takes_iff ..).mp h
  rw [← State.runItem_commit (by rwa [State.served_pwr]) _ 0 r, ← State.request_accepted h ha]
  rfl

/-- Settles O19. The first frame ahead is the least frame whose cut-off is strictly ahead, by the adjunction of ticks and times; an
accepted untimed commit is bound there, and a write to COMMIT makes that commit. -/
theorem untimedCommitsBindToTheFirstFrameAhead : Obligations.UntimedCommitsBindToTheFirstFrameAhead := by
  unfold Obligations.UntimedCommitsBindToTheFirstFrameAhead
  refine ⟨fun s => ?least, fun s t cls st k h hst => ?bound, fun s k hk hc => State.firstFrame_at_cutoff hk hc, fun s dt r h ha => ?written⟩
  case least =>
    obtain ⟨ahead, free⟩ := (s.firstFrame_le_iff _).mp le_rfl
    exact ⟨s.bindAt_none 0, ahead, free, fun k hfree hahead => (s.firstFrame_le_iff k).mpr ⟨hahead, hfree⟩⟩
  case bound => exact State.commitDirty_untimed h ((refuses_eq_false_iff st).mpr hst)
  case written => exact exec_commit_accepted h ha

end Sys2Proof.Machine

/-!
PROOFS. How every command ends: with `finish`, but for a start that is undefined (R463); and what a step is (log entry 4).
-/
namespace Sys2Proof.Machine

/-- PORST_N's release is the one command that can fault: every other branch of it ends as the others do. -/
theorem exec_porstRelease_finishes (dt straps : Nat) (good : Bool) (s : State) :
    (∃ u, exec (.porstRelease dt straps good) s = finish s u) ∨ exec (.porstRelease dt straps good) s = .fault .undefinedStart := by
  show (∃ u, execPorstRelease dt straps good s = _) ∨ execPorstRelease dt straps good s = _
  unfold execPorstRelease
  simp only []
  split_ifs with notHeld railsLow conditions
  · exact .inl ⟨_, rfl⟩
  · exact .inl ⟨_, rfl⟩
  · exact .inl ⟨_, rfl⟩
  · exact .inr rfl

/-- Every command ends with `finish`, or is an undefined start. -/
theorem exec_finishes (c : Instr) (s : State) : (∃ u, exec c s = finish s u) ∨ exec c s = .fault .undefinedStart := by
  cases c with
  | porstRelease dt straps good => exact exec_porstRelease_finishes dt straps good s
  | _ => exact .inl ⟨_, rfl⟩

/-- What a command leaves is the end of some meaning. -/
theorem exec_next_ended {c : Instr} {s t : State} (h : exec c s = .next t) : ∃ u, t = State.ended s u := by
  rcases exec_finishes c s with ⟨u, hu⟩ | hf
  · exact ⟨u, Host.Outcome.next.inj (h.symm.trans hu)⟩
  · cases h.symm.trans hf

/-- A step idles, or runs the command at the front of the queue on the rest. -/
theorem step_next_cases {s t : State} (h : step s = .next t) :
    (s.pending = [] ∧ t = s) ∨ ∃ c rest, s.pending = c :: rest ∧ exec c { s with pending := rest } = .next t := by
  unfold step at h
  split at h
  next hq => exact .inl ⟨hq, (Host.Outcome.next.inj h).symm⟩
  next c rest hq => exact .inr ⟨c, rest, hq, h⟩

end Sys2Proof.Machine

/-!
PROOFS. Bits of a word: setting one (R84) and clearing the ones written 1.
-/
namespace Sys2Proof.Machine

theorem bit_zero (v : Nat) : bit v 0 = (v % 2 == 1) := by simp only [bit, Nat.pow_zero, Nat.div_one]

theorem bit_succ (v i : Nat) : bit v (i + 1) = bit (v / 2) i := by
  simp only [bit, Nat.pow_succ', Nat.div_div_eq_div_mul]

/-- Adding 2^i where bit i is 0 carries nothing. -/
theorem bit_add_two_pow {v i : Nat} (hv : bit v i = false) (j : Nat) : bit (v + 2 ^ i) j = (bit v j || i == j) := by
  induction i generalizing v j with
  | zero =>
    rw [Nat.pow_zero]
    have even : v % 2 = 0 := by simpa [bit_zero] using hv
    have odd : (v + 1) % 2 = 1 := by omega
    have half : (v + 1) / 2 = v / 2 := by omega
    cases j with
    | zero => simp [bit_zero, odd]
    | succ j => simp [bit_succ, half]
  | succ i ih =>
    have half : (v + 2 ^ (i + 1)) / 2 = v / 2 + 2 ^ i := by omega
    have parity : (v + 2 ^ (i + 1)) % 2 = v % 2 := by omega
    cases j with
    | zero => simp [bit_zero, parity]
    | succ j => simp [bit_succ, half, ih (bit_succ v i ▸ hv)]

/-- Setting a bit leaves every other. -/
theorem bit_setBit (v i j : Nat) : bit (setBit v i) j = (bit v j || i == j) := by
  unfold setBit
  split_ifs with hv
  · by_cases h : i = j
    · subst h; simp [hv]
    · simp [h]
  · exact bit_add_two_pow (Bool.eq_false_iff.mpr hv) j

/-- A bit written 1 clears and a bit written 0 stays: taking away bits that are set borrows nothing. -/
theorem bit_w1c (old written i : Nat) : bit (w1c old written) i = (bit old i && !bit written i) := by
  unfold w1c
  have high : (old &&& written) / 2 = old / 2 &&& written / 2 := Nat.and_div_two
  have le : old / 2 &&& written / 2 ≤ old / 2 := Nat.and_le_left
  have low : (old &&& written) % 2 = 1 ↔ old % 2 = 1 ∧ written % 2 = 1 := Nat.and_mod_two_eq_one
  induction i generalizing old written with
  | zero =>
    rw [Bool.eq_iff_iff]
    simp only [bit_zero, Bool.and_eq_true, Bool.not_eq_true', beq_iff_eq, beq_eq_false_iff_ne]
    omega
  | succ i ih =>
    have half : (old - (old &&& written)) / 2 = old / 2 - (old / 2 &&& written / 2) := by omega
    rw [bit_succ, half, ih _ _ Nat.and_div_two Nat.and_le_left Nat.and_mod_two_eq_one, ← bit_succ, ← bit_succ]

/-- Setting the bits of a list in turn sets those and leaves every other. -/
theorem bit_foldl_setBit {α : Type} (f : α → Nat) (l : List α) (v i : Nat) :
    bit (l.foldl (fun a x => setBit a (f x)) v) i = (bit v i || l.any fun x => f x == i) := by
  induction l generalizing v with
  | nil => simp
  | cons x l ih => rw [List.foldl_cons, ih, bit_setBit, List.any_cons, Bool.or_assoc]

end Sys2Proof.Machine

/-!
PROOFS. What the end of a command logs (R82–R84): the events raised, each followed by the NOTIFY_LOST events of the full queues it
met, go one by one into EVENT_LOG and set their bits of IRQ_PENDING.
-/
namespace Sys2Proof.Machine

/-- The bit of IRQ_PENDING an event sets: the high nibble of its code (R84). -/
def Event.irqBit (e : Event) : Nat := e.code / 4096 % 16

/-- `o'` is `o` with the events of `all` logged in turn, as far as EVENT_LOG and IRQ_PENDING show it. -/
structure OdState.Logs (o o' : OdState) (all : List Event) : Prop where
  log : o'.log = all.foldl (pushLast 256) o.log
  irq : o'.regs.num Od.irqPending = all.foldl (fun v e => setBit v e.irqBit) (o.regs.num Od.irqPending)

theorem OdState.Logs.refl (o : OdState) : o.Logs o [] := ⟨rfl, rfl⟩

theorem OdState.Logs.trans {o o' o'' : OdState} {l l' : List Event} (h : o.Logs o' l) (h' : o'.Logs o'' l') : o.Logs o'' (l ++ l') where
  log := by rw [h'.log, h.log, List.foldl_append]
  irq := by rw [h'.irq, h.irq, List.foldl_append]

/-! ## Logging one event (R83, R84) -/

theorem Store.num_setNum (st : Store) (r : OdRow) (v i : Nat) : (st.setNum r v i).num r i = v := by
  simp only [Store.num, Store.setNum, kvGetD, kvGet_kvSet, Option.getD_some]

theorem Store.num_setNum_ne (st : Store) {r q : OdRow} {i j : Nat} (v : Nat) (h : r.key + i ≠ q.key + j) :
    (st.setNum q v j).num r i = st.num r i := by
  simp only [Store.num, Store.setNum, kvGetD, kvGet_kvSet_ne _ _ h]

/-- Logging an event after anything that leaves EVENT_LOG and IRQ_PENDING. -/
theorem OdState.logs_logEvent_of {o q : OdState} (hlog : q.log = o.log) (hirq : q.regs.num Od.irqPending = o.regs.num Od.irqPending)
    (e : Event) : o.Logs (q.logEvent e) [e] where
  log := by simp only [OdState.logEvent, hlog, List.foldl_cons, List.foldl_nil]
  irq := by simp only [OdState.logEvent, Store.num_setNum, hirq, List.foldl_cons, List.foldl_nil, Event.irqBit]

theorem OdState.logs_logEvent (o : OdState) (e : Event) : o.Logs (o.logEvent e) [e] := OdState.logs_logEvent_of rfl rfl e

/-- What one subscription makes of an event: its queue, and where the queue is full NOTIFY_LOST (R82). -/
def OdState.offer (e : Event) (o : OdState) (p : Nat × Sub) : OdState :=
  let b := p.2
  if decide (b.lo ≤ e.code) && decide (e.code ≤ b.hi) && eventAllowed b.cls e.code then
    let b' := b.take e
    let o := { o with subs := kvSet p.1 b' o.subs }
    if b'.dropped = b.dropped then o
    else
      let o := { o with regs := o.regs.setNum Od.notifyLost (Od.notifyLost.counted (o.regs.num Od.notifyLost) 1) }
      o.logEvent { e with code := 0x1002, arg := padTo 8 (natBE 2 p.1 ++ natBE 2 b'.dropped) }
  else o

/-- An event is logged, then offered to every subscription. -/
theorem OdState.dispatch_eq (o : OdState) (e : Event) : o.dispatch e = o.subs.foldl (OdState.offer e) (o.logEvent e) := rfl

/-- Events that tell of a full queue (R82). -/
def NotifyLosts (l : List Event) : Prop := ∀ e ∈ l, e.code = 0x1002

theorem NotifyLosts.append {l l' : List Event} (h : NotifyLosts l) (h' : NotifyLosts l') : NotifyLosts (l ++ l') :=
  List.forall_mem_append.mpr ⟨h, h'⟩

/-- A subscription logs nothing of its own but the NOTIFY_LOST of its full queue. -/
theorem OdState.logs_offer (e : Event) (o : OdState) (p : Nat × Sub) : ∃ lost, NotifyLosts lost ∧ o.Logs (o.offer e p) lost := by
  unfold OdState.offer
  simp only []
  split
  · split
    · exact ⟨[], List.forall_mem_nil _, rfl, rfl⟩
    · refine ⟨_, ?code, OdState.logs_logEvent_of ?log ?irq _⟩
      case code => exact List.forall_mem_singleton.mpr rfl
      case log => rfl
      case irq => exact Store.num_setNum_ne o.regs _ (by decide)
  · exact ⟨[], List.forall_mem_nil _, .refl o⟩

theorem OdState.logs_offers (e : Event) (l : List (Nat × Sub)) (o : OdState) :
    ∃ lost, NotifyLosts lost ∧ o.Logs (l.foldl (OdState.offer e) o) lost := by
  induction l generalizing o with
  | nil => exact ⟨[], List.forall_mem_nil _, .refl o⟩
  | cons p l ih =>
    obtain ⟨first, hf, logsFirst⟩ := OdState.logs_offer e o p
    obtain ⟨others, ho, logsOthers⟩ := ih (o.offer e p)
    exact ⟨first ++ others, hf.append ho, logsFirst.trans logsOthers⟩

/-- An event is logged, and after it the NOTIFY_LOST events of the full queues it met. -/
theorem OdState.logs_dispatch (o : OdState) (e : Event) : ∃ lost, NotifyLosts lost ∧ o.Logs (o.dispatch e) (e :: lost) := by
  obtain ⟨lost, hl, logs⟩ := OdState.logs_offers e o.subs (o.logEvent e)
  exact ⟨lost, hl, (o.logs_logEvent e).trans logs⟩

theorem OdState.dispatch_of_no_subs {o : OdState} (h : o.subs = []) (e : Event) : o.dispatch e = o.logEvent e := by
  rw [OdState.dispatch_eq, h, List.foldl_nil]

/-! ## Logging what a command raised -/

/-- The events logged are those raised, in their order, with NOTIFY_LOST events among them. -/
theorem OdState.logs_raised (l : List Event) (o : OdState) : ∃ all, l.Sublist all ∧ (∀ e ∈ all, e ∈ l ∨ e.code = 0x1002) ∧
    o.Logs (l.foldl OdState.dispatch o) all := by
  induction l generalizing o with
  | nil => exact ⟨[], .refl _, List.forall_mem_nil _, .refl o⟩
  | cons e l ih =>
    obtain ⟨lost, hl, logsFirst⟩ := o.logs_dispatch e
    obtain ⟨all, hsub, hall, logsRest⟩ := ih (o.dispatch e)
    refine ⟨(e :: lost) ++ all, ?_, ?_, logsFirst.trans logsRest⟩
    · exact (hsub.trans (List.sublist_append_right lost all)).cons_cons e
    · intro x hx
      rcases List.mem_append.mp hx with hx | hx
      · rcases List.mem_cons.mp hx with rfl | hx
        · exact .inl (List.mem_cons_self ..)
        · exact .inr (hl x hx)
      · exact (hall x hx).imp_left (List.mem_cons_of_mem e)

/-- Where nobody subscribes, the events logged are those raised and no other. -/
theorem OdState.logs_raised_of_no_subs (l : List Event) {o : OdState} (h : o.subs = []) : o.Logs (l.foldl OdState.dispatch o) l := by
  induction l generalizing o with
  | nil => exact .refl o
  | cons e l ih =>
    rw [List.foldl_cons, OdState.dispatch_of_no_subs h]
    exact (o.logs_logEvent e).trans (ih h)

/-- What the server holds once the events a command raised are logged and queued, before the log is cut to its 256. -/
def State.dispatched (s : State) : OdState := s.od.raised.foldl OdState.dispatch { s.od with raised := [] }

theorem State.flush_log (s : State) : s.flush.od.log = s.dispatched.log.drop (s.dispatched.log.length - 256) := by
  rw [State.flush, State.dispatched]

theorem State.flush_irqPending (s : State) : s.flush.reg Od.irqPending = s.dispatched.regs.num Od.irqPending := by
  rw [State.reg, State.flush, State.dispatched]

/-- Every event raised is logged in its order; NOTIFY_LOST events stand among them, and none does where nobody subscribes. -/
theorem State.logs_dispatched (s : State) : ∃ all, s.od.raised.Sublist all ∧ (∀ e ∈ all, e ∈ s.od.raised ∨ e.code = 0x1002) ∧
    (s.od.subs = [] → all = s.od.raised) ∧ s.od.Logs s.dispatched all := by
  by_cases h : s.od.subs = []
  · obtain ⟨hlog, hirq⟩ := OdState.logs_raised_of_no_subs s.od.raised (o := { s.od with raised := [] }) h
    exact ⟨s.od.raised, .refl _, fun e he => .inl he, fun _ => rfl, hlog, hirq⟩
  · obtain ⟨all, hsub, hall, hlog, hirq⟩ := OdState.logs_raised s.od.raised { s.od with raised := [] }
    exact ⟨all, hsub, hall, fun h' => absurd h' h, hlog, hirq⟩

/-! ## EVENT_LOG (R82, R83) -/

/-- A bounded log that takes events in turn ends with the last of them all. -/
theorem foldl_pushLast {α : Type} (n : Nat) (l all : List α) (h : l.length ≤ n) :
    all.foldl (pushLast n) l = (l ++ all).drop (l.length + all.length - n) := by
  induction all generalizing l with
  | nil => simp [Nat.sub_eq_zero_of_le h]
  | cons x all ih =>
    have kept : (pushLast n l x).length = l.length + 1 - (l.length + 1 - n) := by simp [pushLast]
    rw [List.foldl_cons, ih _ (by omega), kept]
    unfold pushLast
    rw [← List.drop_append_of_le_length (by simp), List.drop_drop, List.append_assoc, List.singleton_append, List.length_cons]
    congr 1
    omega

/-- The log after a command: the last 256 of what it held and of the events logged. -/
theorem State.flush_log_of_logs {s : State} {all : List Event} (hlen : s.od.log.length ≤ 256) (h : s.od.Logs s.dispatched all) :
    s.flush.od.log = (s.od.log ++ all).drop (s.od.log.length + all.length - 256) := by
  have last : s.dispatched.log = (s.od.log ++ all).drop (s.od.log.length + all.length - 256) := h.log.trans (foldl_pushLast 256 _ _ hlen)
  have short : s.dispatched.log.length - 256 = 0 := by rw [last, List.length_drop, List.length_append]; omega
  rw [State.flush_log, short, List.drop_zero, last]

theorem State.flush_eventsLogged (s : State) : s.flush.EventsLogged := by
  refine ⟨rfl, ?_⟩
  rw [State.flush_log, List.length_drop]
  omega

theorem State.ended_eventsLogged (s0 s : State) : (State.ended s0 s).EventsLogged := State.flush_eventsLogged _

theorem exec_eventsLogged {c : Instr} {s t : State} (h : exec c s = .next t) : t.EventsLogged := by
  obtain ⟨u, rfl⟩ := exec_next_ended h
  exact State.ended_eventsLogged s u

theorem step_eventsLogged {s t : State} (hs : s.EventsLogged) (h : step s = .next t) : t.EventsLogged := by
  rcases step_next_cases h with ⟨-, rfl⟩ | ⟨c, rest, -, hc⟩
  · exact hs
  · exact exec_eventsLogged hc

theorem State.entry_eventLog (s : State) : s.entry Od.eventLog 0 = .tab (s.od.log.flatMap Event.bytes) := rfl

@[simp] theorem length_natBE (n v : Nat) : (natBE n v).length = n := by
  induction n with
  | zero => rfl
  | succ n ih => rw [natBE, List.length_cons, ih]

@[simp] theorem length_padTo (n : Nat) (b : Bytes) : (padTo n b).length = n := by
  rw [padTo, List.length_append, List.length_take, List.length_replicate]
  omega

theorem Event.length_bytes (e : Event) : e.bytes.length = 28 := by simp [Event.bytes]

/-- Settles O6. Every command ends by logging what it raised; the log takes the raised events in their order, with the NOTIFY_LOST
events of full queues among them, and keeps the last 256. -/
theorem everyEventIsLogged : Obligations.EveryEventIsLogged := by
  unfold Obligations.EveryEventIsLogged
  refine ⟨fun c s t => exec_eventsLogged, fun s t => step_eventsLogged, fun s hlen => ?logged, State.entry_eventLog,
    fun e => ⟨rfl, e.length_bytes⟩⟩
  case logged =>
    obtain ⟨all, hsub, hall, hnone, logs⟩ := s.logs_dispatched
    exact ⟨all, hsub, hall, hnone, State.flush_log_of_logs hlen logs⟩

/-! ## IRQ_PENDING (R84) -/

theorem State.flush_irqPending_bit {s : State} {all : List Event} (h : s.od.Logs s.dispatched all) (i : Nat) :
    bit (s.flush.reg Od.irqPending) i = (bit (s.reg Od.irqPending) i || all.any fun e => e.irqBit == i) := by
  rw [State.flush_irqPending, h.irq]
  exact bit_foldl_setBit Event.irqBit all _ i

/-- Events added to a list that all set bit 1 change nothing for another bit. -/
theorem any_irqBit_of_notifyLosts {raised all : List Event} (hsub : raised.Sublist all) (hall : ∀ e ∈ all, e ∈ raised ∨ e.code = 0x1002)
    {i : Nat} (hi : i ≠ 1) : (all.any fun e => e.irqBit == i) = raised.any fun e => e.irqBit == i := by
  rw [Bool.eq_iff_iff, List.any_eq_true, List.any_eq_true]
  constructor
  · rintro ⟨e, he, hbit⟩
    rcases hall e he with hr | hcode
    · exact ⟨e, hr, hbit⟩
    · rw [beq_iff_eq, Event.irqBit, hcode] at hbit
      exact absurd hbit.symm hi
  · rintro ⟨e, he, hbit⟩
    exact ⟨e, hsub.subset he, hbit⟩

/-- A bit set before the end of a command, or by an event raised, is set after it. -/
theorem State.flush_irqPending_sets {s : State} {i : Nat}
    (h : bit (s.reg Od.irqPending) i = true ∨ (s.od.raised.any fun e => e.irqBit == i) = true) : bit (s.flush.reg Od.irqPending) i = true := by
  obtain ⟨all, hsub, -, -, logs⟩ := s.logs_dispatched
  rw [State.flush_irqPending_bit logs, Bool.or_eq_true]
  refine h.imp_right fun hraised => ?_
  obtain ⟨e, he, hbit⟩ := List.any_eq_true.mp hraised
  exact List.any_eq_true.mpr ⟨e, hsub.subset he, hbit⟩

/-- But for bit 1, which the NOTIFY_LOST of a full queue sets too, the bits set are those of the events raised. -/
theorem State.flush_irqPending_eq {s : State} {i : Nat} (h : i ≠ 1 ∨ s.od.subs = []) :
    bit (s.flush.reg Od.irqPending) i = (bit (s.reg Od.irqPending) i || s.od.raised.any fun e => e.irqBit == i) := by
  obtain ⟨all, hsub, hall, hnone, logs⟩ := s.logs_dispatched
  rw [State.flush_irqPending_bit logs]
  rcases h with hi | hs
  · rw [any_irqBit_of_notifyLosts hsub hall hi]
  · rw [hnone hs]

/-! ## The write to IRQ_PENDING (R84) -/

/-- The bits an event has set at this very instant. -/
theorem State.bit_irqNow (s : State) (i : Nat) : bit s.irqNow i = s.od.irqAt.any fun p => p.1 == i && p.2 == s.now := by
  have only : s.irqNow = (s.od.irqAt.filter fun p => p.2 == s.now).foldl (fun a p => setBit a p.1) 0 := by
    rw [List.foldl_filter]
    simp only [beq_iff_eq]
    rfl
  have zero : bit 0 i = false := by simp [bit]
  rw [only, bit_foldl_setBit, zero, Bool.false_or, List.any_filter]
  simp only [Bool.and_comm]

/-- A bit is left where it was set and either was written 0 or was set by an event at this very instant. -/
theorem State.bit_clearIrq (s : State) (v i : Nat) : bit ((s.clearIrq v).reg Od.irqPending) i =
    (bit (s.reg Od.irqPending) i && (!bit v i || s.od.irqAt.any fun p => p.1 == i && p.2 == s.now)) := by
  rw [State.clearIrq, State.reg_setReg, bit_w1c, bit_w1c, State.bit_irqNow, Bool.not_and, Bool.not_not]

theorem foldl_natBE (n v a : Nat) : (natBE n v).foldl (fun a x => a * 256 + x.toNat) a = a * 256 ^ n + v % 256 ^ n := by
  induction n generalizing a with
  | zero => simp [natBE, Nat.mod_one]
  | succ n ih =>
    rw [natBE, List.foldl_cons, ih, BitVec.toNat_ofNat, Nat.mod_pow_succ (b := 256)]
    ring

/-- The bytes of a number spell it, modulo what they can hold (R8). -/
theorem beNat_natBE (n v : Nat) : beNat (natBE n v) = v % 256 ^ n := by
  rw [beNat, foldl_natBE, Nat.zero_mul, Nat.zero_add]

/-- Outside recovery, an item written to IRQ_PENDING clears the bits its value has. -/
theorem State.runItem_irqPending {s : State} (hs : s.pwr.state ≠ 7) (cls : Nat) (req : Req) {v : Nat} (hv : v < 65536) :
    s.runItem cls req (Od.irqPending.numItem 0 v) = effOk (s.clearIrq v) := by
  have found : s.entryRow Od.irqPending.key = some (Od.irqPending, 0) := by
    unfold State.entryRow
    rw [if_neg fun h => hs h.1]
    decide
  have key : (Od.irqPending.numItem 0 v).key = Od.irqPending.key := OdRow.numItem_key (by decide) v
  have value : beNat (Od.irqPending.numItem 0 v).value = v := (beNat_natBE 2 v).trans (Nat.mod_eq_of_lt hv)
  unfold State.runItem
  rw [key, found]
  show effOk (s.clearIrq (beNat (Od.irqPending.numItem 0 v).value)) = _
  rw [value]

/-- An accepted write to IRQ_PENDING is answered with its bits cleared. -/
theorem exec_irqPendingWrite_accepted {s : State} {dt v : Nat} {r : Req} (hv : v < 65536) (h : s.takes r.src r.seq = true)
    (ha : (s.served dt).accepts r (Od.irqPending.numItem 0 v)) :
    exec (.irqPendingWrite dt r v) s = .next (State.ended s
      (answered r (Od.irqPending.numItem 0 v) (effOk ((s.served dt).clearIrq v)))) := by
  obtain ⟨-, -, -, -, running, -⟩ := (s.takes_iff ..).mp h
  rw [← State.runItem_irqPending (by rwa [State.served_pwr]) (s.portClass r.src.port) r hv, ← State.request_accepted h ha]
  rfl

/-- Settles O7. The bits that set are those of the events logged, which are the events raised and NOTIFY_LOST events, of bit 1; a
write clears the bits it has, but for those an event set at its instant. -/
theorem irqPendingFollowsTheEvents : Obligations.IrqPendingFollowsTheEvents := by
  unfold Obligations.IrqPendingFollowsTheEvents
  exact ⟨fun s i _ => State.flush_irqPending_sets, fun s i _ => State.flush_irqPending_eq, fun s => Bool.and_comm ..,
    fun s dt r v hv => exec_irqPendingWrite_accepted hv, fun s v i _ _ => s.bit_clearIrq v i⟩

end Sys2Proof.Machine

/-!
PROOFS. The gate (R388, R389): what the end of a command releases stays released as the command's events are logged and its beacon
goes out, and neither of these opens or shuts the gate.
-/
namespace Sys2Proof.Machine

/-- The gate is open exactly under R388's conditions; outside pair operation TOW_PEER_N is ignored. -/
theorem State.gate_eq_true_iff (s : State) :
    s.gate = true ↔ s.tow.state = 3 ∧ s.tow.hold = true ∧ (s.pair = true → s.tow.peer = false) := by
  rw [State.gate, Bool.and_eq_true, Bool.and_eq_true, beq_iff_eq, and_assoc]
  cases s.pair <;> simp

/-! ## What a shut gate leaves (R389) -/

/-- Nothing the gate governs is driven. -/
def State.AllReleased (s : State) : Prop :=
  s.noGatedFrame = true ∧ s.lampReleased = true ∧ s.stringsReleased = true ∧ s.ras.pins = [0, 0]

theorem State.gateHolds_iff (s : State) : s.GateHolds ↔ (s.gate = false → s.AllReleased) := Iff.rfl

/-- A list built place by place has at each place what was built for it. -/
theorem all_zipIdx_map_zipIdx {α β : Type} {f : α × Nat → β} {q : β × Nat → Bool} (h : ∀ a i, q (f (a, i), i) = true) (l : List α) :
    (l.zipIdx.map f).zipIdx.all q = true := by
  refine List.all_eq_true.mpr fun ⟨b, i⟩ hb => ?_
  rw [List.mk_mem_zipIdx_iff_getElem?, List.getElem?_map, List.getElem?_zipIdx, Nat.zero_add, Option.map_map, Option.map_eq_some_iff] at hb
  obtain ⟨a, -, rfl⟩ := hb
  exact h a i

/-- A port whose gated frame is cut has none on its wire. -/
theorem Port.wire_cut_not_gated {p : Port} {w : TxFrame} (h : p.cut.wire = some w) : w.gated = false := by
  unfold Port.cut at h
  split at h
  next v hv =>
    split_ifs at h with hg
    rw [hv, Option.some.injEq] at h
    exact h ▸ Bool.eq_false_iff.mpr hg
  next hv => cases hv.symm.trans h

/-- A released lamp port drives its ungated pins alone. -/
theorem LampPort.released_pins (p : LampPort) (ungated : Nat → Bool) :
    ((p.released ungated).pins.zipIdx.all fun (v, j) => v == 2 || ungated j) = true := by
  refine all_zipIdx_map_zipIdx (fun v j => ?_) p.pins
  cases h : ungated j <;> simp [h]

theorem State.releaseOutputs_allReleased (s : State) : s.releaseOutputs.AllReleased := by
  refine ⟨?frames, ?lamps, ?strings, rfl⟩
  case frames =>
    show (s.net.ports.map Port.cut).all _ = true
    rw [List.all_map]
    refine List.all_eq_true.mpr fun p _ => ?_
    show (match p.cut.wire with | some w => !w.gated | none => true) = true
    split
    next w hw => rw [Port.wire_cut_not_gated hw, Bool.not_false]
    next => rfl
  case lamps => exact all_zipIdx_map_zipIdx (fun p i => p.released_pins (s.ungated i)) s.lamp.ports
  case strings =>
    show (s.strs.ctl.map fun c => { c with pinA := 2, pinB := 2 }).all _ = true
    rw [List.all_map]
    exact List.all_eq_true.mpr fun c _ => rfl

/-- The guard of a shut gate ends with everything it governs released. -/
theorem State.guardGate_allReleased {s : State} (h : s.gate = false) : s.guardGate.AllReleased := by
  rw [State.guardGate, if_neg (Bool.eq_false_iff.mp h)]
  exact State.releaseOutputs_allReleased _

/-! ## Outputs after the guard of the gate -/

/-- The parts of the state that hold what the gate governs. -/
def State.outputs (s : State) := (s.net, s.lamp, s.strs, s.ras)

theorem outputs_send (s : State) (m : Sent) : (s.send m).outputs = s.outputs := by
  unfold State.send
  split_ifs <;> rfl

theorem outputs_sendBeacon (s : State) : s.sendBeacon.outputs = s.outputs := by
  unfold State.sendBeacon
  split_ifs
  · exact outputs_send s _
  · rfl

theorem outputs_beaconOnChange (s0 s : State) : (State.beaconOnChange s0 s).outputs = s.outputs := by
  unfold State.beaconOnChange
  split_ifs
  · rfl
  · exact outputs_sendBeacon s

theorem outputs_ended (s0 s : State) : (State.ended s0 s).outputs = s.guardGate.outputs := outputs_beaconOnChange s0 s.guardGate

/-- What is released depends on the outputs and on which pins are ungated. -/
theorem State.AllReleased.of_outputs {s t : State} (h : s.AllReleased) (ho : t.outputs = s.outputs) (hu : t.ungated = s.ungated) :
    t.AllReleased := by
  simp only [State.outputs, Prod.mk.injEq] at ho
  obtain ⟨hnet, hlamp, hstrs, hras⟩ := ho
  simpa only [State.AllReleased, State.noGatedFrame, State.lampReleased, State.stringsReleased, hnet, hlamp, hstrs, hras, hu] using h

/-! ## Registers that logging leaves: all but IRQ_PENDING and NOTIFY_LOST (R82, R84) -/

section
variable {r : OdRow} {i : Nat} (hirq : r.key + i ≠ Od.irqPending.key) (hlost : r.key + i ≠ Od.notifyLost.key)
include hirq

theorem OdState.num_logEvent (o : OdState) (e : Event) : (o.logEvent e).regs.num r i = o.regs.num r i := Store.num_setNum_ne _ _ hirq

include hlost

theorem OdState.num_offer (e : Event) (o : OdState) (p : Nat × Sub) : (o.offer e p).regs.num r i = o.regs.num r i := by
  unfold OdState.offer
  simp only []
  split
  · split
    · rfl
    · exact (OdState.num_logEvent hirq _ _).trans (Store.num_setNum_ne _ _ hlost)
  · rfl

theorem OdState.num_dispatch (o : OdState) (e : Event) : (o.dispatch e).regs.num r i = o.regs.num r i := by
  rw [OdState.dispatch_eq]
  exact List.foldlRecOn (motive := fun q => q.regs.num r i = o.regs.num r i) _ _ (OdState.num_logEvent hirq o e)
    fun q hq p _ => (OdState.num_offer hirq hlost e q p).trans hq

theorem State.num_dispatched (s : State) : s.dispatched.regs.num r i = s.reg r i :=
  List.foldlRecOn (motive := fun q => q.regs.num r i = s.od.regs.num r i) s.od.raised OdState.dispatch
    (b := { s.od with raised := [] }) rfl fun q hq e _ => (OdState.num_dispatch hirq hlost q e).trans hq

theorem State.reg_flush (s : State) : s.flush.reg r i = s.reg r i := by
  rw [← State.num_dispatched hirq hlost s, State.reg, State.flush, State.dispatched]

/-- After the guard of the gate only those two registers change. -/
theorem State.reg_ended_guardGate (s0 s : State) : (State.ended s0 s).reg r i = s.guardGate.reg r i :=
  (State.reg_flush hirq hlost (State.beaconOnChange s0 s.guardGate)).trans (State.reg_eq_of_num?_eq (num?_beaconOnChange ..))

end

/-! ## The gate and the ungated pins after the end of a command -/

/-- The gate follows the towpath's state and the straps. -/
theorem State.gate_eq_of_core {s t : State} (hc : t.core = s.core) (hs : t.reg Od.straps = s.reg Od.straps) : t.gate = s.gate := by
  simp only [State.core, Prod.mk.injEq, TowState.mk.injEq] at hc
  simp only [State.gate, State.pair, State.strap, hs, hc]

/-- Which pins are ungated follows the ports' settings and the domain's power. -/
theorem State.ungated_eq_of_core {s t : State} (hc : t.core = s.core) (hen : ∀ p, t.reg Od.portEn p = s.reg Od.portEn p)
    (hmode : ∀ p, t.reg Od.portMode p = s.reg Od.portMode p) : t.ungated = s.ungated := by
  simp only [State.core, Prod.mk.injEq] at hc
  funext p j
  simp only [State.ungated, State.regTab, Store.tab, State.domOn, State.alive, hen, hmode, hc]

theorem ended_gate (s0 s : State) : (State.ended s0 s).gate = s.gate :=
  State.gate_eq_of_core (ended_core s0 s) (ended_reg s0 s Od.straps 0 (by decide))

theorem ended_ungated (s0 s : State) : (State.ended s0 s).ungated = s.guardGate.ungated := by
  have kept {r : OdRow} (hr : Od.irqPending.key < r.key) (p : Nat) : (State.ended s0 s).reg r p = s.guardGate.reg r p := by
    have order : Od.notifyLost.key < Od.irqPending.key := by decide
    exact State.reg_ended_guardGate (by omega) (by omega) s0 s
  exact State.ungated_eq_of_core ((ended_core s0 s).trans (core_guardGate s).symm) (kept (by decide)) (kept (by decide))

/-! ## Every command and every step -/

theorem State.ended_gateHolds (s0 s : State) : (State.ended s0 s).GateHolds := by
  rw [State.gateHolds_iff, ended_gate]
  intro hshut
  exact (State.guardGate_allReleased hshut).of_outputs (outputs_ended s0 s) (ended_ungated s0 s)

theorem exec_gateHolds {c : Instr} {s t : State} (h : exec c s = .next t) : t.GateHolds := by
  obtain ⟨u, rfl⟩ := exec_next_ended h
  exact State.ended_gateHolds s u

theorem step_gateHolds {s t : State} (hs : s.GateHolds) (h : step s = .next t) : t.GateHolds := by
  rcases step_next_cases h with ⟨-, rfl⟩ | ⟨c, rest, -, hc⟩
  · exact hs
  · exact exec_gateHolds hc

/-- Settles O5. Every command ends with the guard of the gate, which releases all a shut gate governs; what follows it, the beacon and
the log, drives no output, marks no pin ungated and leaves the gate as it is. -/
theorem shutGateDrivesNothing : Obligations.ShutGateDrivesNothing := by
  unfold Obligations.ShutGateDrivesNothing
  exact ⟨State.gate_eq_true_iff, fun c s t => exec_gateHolds, fun s t => step_gateHolds⟩

end Sys2Proof.Machine

/-!
PROOFS. The queue of commands (log entry 4), the device as PORST_N holds it, the one command that can stop (R463), and the frame that
every command's end keeps.
-/
namespace Sys2Proof.Machine

/-- Settles O1, by the definition of a step. -/
theorem stepRunsFrontCommand : Obligations.StepRunsFrontCommand := by
  unfold Obligations.StepRunsFrontCommand
  intro c rest s hq
  rw [step, hq]

/-- Settles O2. With nothing waiting a step idles; every command ends with `finish`, which puts the queue back as it stood. -/
theorem theQueueIsServedInOrder : Obligations.TheQueueIsServedInOrder := by
  unfold Obligations.TheQueueIsServedInOrder
  refine ⟨fun s hq => ?idle, fun c s t h => ?kept⟩
  case idle => rw [step, hq]
  case kept =>
    obtain ⟨u, rfl⟩ := exec_next_ended h
    exact ended_pending s u

/-- Settles O3, by evaluation of the one state it speaks of. -/
theorem resetHoldsTheDevice : Obligations.ResetHoldsTheDevice := by
  unfold Obligations.ResetHoldsTheDevice State.GateHolds State.EventsLogged
  decide +kernel

/-! ## The one start that is undefined (R463, R464) -/

/-- PORST_N's release stops exactly where it was held, the rails are good and R463's conditions do not hold. -/
theorem exec_porstRelease_fault_iff (dt straps : Nat) (good : Bool) (s : State) :
    exec (.porstRelease dt straps good) s = .fault .undefinedStart ↔
      good = false ∧ s.pwr.state = 0 ∧ s.pwr.cause = 1 ∧ s.pwr.railsOk = true := by
  show execPorstRelease dt straps good s = _ ↔ _
  unfold execPorstRelease
  simp only []
  rw [State.advance_pwr]
  split_ifs with released low conditions
  · refine ⟨nofun, fun ⟨_, h0, h1, _⟩ => ?_⟩
    exact absurd released (not_or.mpr ⟨not_not.mpr h0, not_not.mpr h1⟩)
  · exact ⟨nofun, fun ⟨_, _, _, hr⟩ => nomatch low.symm.trans hr⟩
  · exact ⟨nofun, fun ⟨hgood, _⟩ => nomatch conditions.symm.trans hgood⟩
  · rw [not_or, not_not, not_not] at released
    exact ⟨fun _ => ⟨Bool.eq_false_iff.mpr conditions, released.1, released.2, Bool.eq_true_of_not_eq_false low⟩, fun _ => rfl⟩

/-- Settles O4. Every command ends with `finish`, which answers a next state, but for the release of PORST_N. -/
theorem onlyAnUndefinedStartStops : Obligations.OnlyAnUndefinedStartStops := by
  unfold Obligations.OnlyAnUndefinedStartStops
  refine ⟨fun c s f hf => ?fault, fun c s r hr => ?refused, fun dt straps s h0 h1 hr => ?stops⟩
  case fault =>
    cases c with
    | porstRelease dt straps good =>
      have undefined : f = .undefinedStart := by
        rcases exec_porstRelease_finishes dt straps good s with ⟨u, hu⟩ | hu
        · cases hf.symm.trans hu
        · exact Host.Outcome.fault.inj (hf.symm.trans hu)
      subst undefined
      obtain ⟨rfl, held⟩ := (exec_porstRelease_fault_iff ..).mp hf
      exact ⟨dt, straps, rfl, rfl, held⟩
    | _ => cases hf
  case refused =>
    rcases exec_finishes c s with ⟨u, hu⟩ | hu
    · cases hr.symm.trans hu
    · cases hr.symm.trans hu
  case stops => exact (exec_porstRelease_fault_iff ..).mpr ⟨rfl, h0, h1, hr⟩

/-- Settles O8. What the end of a command leaves of the state and its registers; with nothing to release it only logs. -/
theorem endOfCommandKeepsTheRest : Obligations.EndOfCommandKeepsTheRest := by
  unfold Obligations.EndOfCommandKeepsTheRest
  exact fun s0 s => ⟨ended_core s0 s, ended_pending s0 s, ended_reg s0 s,
    fun hstill hstate hgate hq => Host.Outcome.next.inj (finish_still hstill hstate hgate hq)⟩

end Sys2Proof.Machine

/-!
PROOFS. Lists changed at one place.
-/
namespace Sys2Proof.Machine

@[simp] theorem length_setAt {α : Type} (l : List α) (i : Nat) (v : α) : (setAt l i v).length = l.length := by
  induction l generalizing i with
  | nil => rfl
  | cons x t ih =>
    cases i with
    | zero => rfl
    | succ i => simp only [setAt, List.length_cons, ih]

theorem getD_setAt_self {α : Type} {l : List α} {i : Nat} (h : i < l.length) (v d : α) : (setAt l i v).getD i d = v := by
  induction l generalizing i with
  | nil => exact absurd h (Nat.not_lt_zero i)
  | cons x t ih =>
    cases i with
    | zero => rfl
    | succ i => exact ih (Nat.lt_of_succ_lt_succ h)

theorem getD_setAt_ne {α : Type} (l : List α) {i j : Nat} (h : j ≠ i) (v d : α) : (setAt l i v).getD j d = l.getD j d := by
  induction l generalizing i j with
  | nil => rfl
  | cons x t ih =>
    cases i with
    | zero =>
      cases j with
      | zero => exact absurd rfl h
      | succ j => rfl
    | succ i =>
      cases j with
      | zero => rfl
      | succ j => exact ih fun e => h (congrArg Nat.succ e)

end Sys2Proof.Machine

/-!
PROOFS. The two PTP domains (R94): what changing a domain's record leaves, and the state machine of a domain at each offset.
-/
namespace Sys2Proof.Machine

/-! ## A domain's record -/

@[simp] theorem State.timePins_od (s : State) : s.timePins.od = s.od := rfl
@[simp] theorem State.timePins_doms (s : State) : s.timePins.tm.doms = s.tm.doms := rfl

@[simp] theorem State.setDom_doms (s : State) (d : Nat) (x : PtpDomain) : (s.setDom d x).tm.doms = setAt s.tm.doms d x := by
  unfold State.setDom
  simp only []
  split_ifs <;> rfl

/-- A domain's record reads back. -/
theorem State.dom_setDom {s : State} {d : Nat} (h : d < s.tm.doms.length) (x : PtpDomain) : (s.setDom d x).dom d = x := by
  rw [State.dom, State.setDom_doms, getD_setAt_self h]

theorem State.dom_setDom_ne (s : State) {d e : Nat} (h : e ≠ d) (x : PtpDomain) : (s.setDom d x).dom e = s.dom e := by
  rw [State.dom, State.setDom_doms, getD_setAt_ne _ h, State.dom]

theorem State.dom_lockDom {s : State} {d : Nat} (h : d < s.tm.doms.length) :
    (s.lockDom d).dom d = { s.dom d with state := 3, good := 0, bad := 0, regained := 0 } := State.dom_setDom h _

theorem State.dom_unlockDom {s : State} {d : Nat} (h : d < s.tm.doms.length) (st : Nat) :
    (s.unlockDom d st).dom d = { s.dom d with state := st, good := 0, bad := 0, regained := 0, holdSince := s.now, holdFreq := s.freq d } :=
  State.dom_setDom h _

/-! ## The state after an offset (R94) -/

/-- Settles O13, state by state. -/
theorem offsetsMoveTheDomainState : Obligations.OffsetsMoveTheDomainState := by
  unfold Obligations.OffsetsMoveTheDomainState
  intro s d off hd
  have once (x : PtpDomain) : ((s.setDom d x).dom d).state = x.state := by rw [State.dom_setDom hd]
  have twice (x y : PtpDomain) : (((s.setDom d x).setDom d y).dom d).state = y.state := by rw [State.dom_setDom (by simpa using hd)]
  have locks (x : PtpDomain) : (((s.setDom d x).lockDom d).dom d).state = 3 := by rw [State.dom_lockDom (by simpa using hd)]
  have unlocks (x : PtpDomain) : (((s.setDom d x).unlockDom d 2).dom d).state = 2 := by rw [State.dom_unlockDom (by simpa using hd)]
  simp only [State.syncState, decide_eq_true_eq]
  refine ⟨fun h => ?off, fun h => ?listening, fun h => ?acquiring, fun h => ?locked, fun h => ?holdover⟩
  case off => simp only [h, Nat.reduceEqDiff, reduceIte, once]
  case listening =>
    have few (p : Prop) [Decidable p] : ¬ (if p then 0 + 1 else 0) = 16 := by split_ifs <;> decide
    simp only [h, reduceIte, few, twice]
  case acquiring =>
    simp only [h, Nat.reduceEqDiff, reduceIte]
    by_cases hw : off.natAbs ≤ s.reg (Od.ptpLockThreshold.inst d) <;> by_cases hg : (s.dom d).good = 15 <;>
      simp [hw, hg, locks, twice]
  case locked =>
    simp only [h, Nat.reduceEqDiff, reduceIte]
    by_cases hf : s.reg (Od.ptpUnlockThreshold.inst d) < off.natAbs <;> by_cases hb : (s.dom d).bad = 3 <;>
      simp [hf, hb, unlocks, twice]
  case holdover =>
    simp only [h, Nat.reduceEqDiff, reduceIte]
    by_cases hf : s.reg (Od.ptpUnlockThreshold.inst d) < off.natAbs <;> by_cases hr : (s.dom d).regained = 3 <;>
      simp [hf, hr, locks, twice]

end Sys2Proof.Machine

/-!
PROOFS. Binding a timed commit (R22, R36): the frame asked for is the first whose presentation tick is at or after the time.
-/
namespace Sys2Proof.Machine

/-! ## The frame asked for -/

/-- A search that must end within its fuel finds the first frame that is presented late enough. -/
theorem firstShown_spec (d : Nat → Nat) (t fuel k : Nat) (before : ∀ j < k, j + d j < t) (ends : t ≤ k + fuel + d (k + fuel)) :
    k ≤ firstShown d t fuel k ∧ t ≤ firstShown d t fuel k + d (firstShown d t fuel k) ∧ ∀ j < firstShown d t fuel k, j + d j < t := by
  induction fuel generalizing k with
  | zero => exact ⟨le_rfl, ends, before⟩
  | succ fuel ih =>
    rw [firstShown]
    split_ifs with found
    · exact ⟨le_rfl, found, before⟩
    · have next : k + 1 + fuel = k + (fuel + 1) := by omega
      have passed : ∀ j < k + 1, j + d j < t := fun j hj => by
        rcases Nat.lt_succ_iff_lt_or_eq.mp hj with h | rfl
        · exact before j h
        · exact Nat.lt_of_not_le found
      obtain ⟨le, shown, first⟩ := ih (k + 1) passed (by rwa [next])
      exact ⟨by omega, shown, first⟩

/-- The frame asked for is presented at tick `t` or later, and none before it is. -/
theorem frameAsked_spec {d : Nat → Nat} (hd : ∀ j, 2 ≤ d j ∧ d j ≤ 8) (t : Nat) :
    t ≤ frameAsked d t + d (frameAsked d t) ∧ ∀ j < frameAsked d t, j + d j < t :=
  (firstShown_spec d t 8 (t - 8) (fun j hj => by have := hd j; omega) (by omega)).2

/-! ## The frame bound to -/

/-- A timed commit is late exactly where the frame asked for is out of reach, and binds to the later of it and the first reachable. -/
theorem State.bindAt_some (s : State) (t : Nat) (d : Nat → Nat) :
    s.bindAt (some t) d = (max (frameAsked d (tickFrom s.tl.rate t)) s.firstFrame,
      decide (frameAsked d (tickFrom s.tl.rate t) < s.firstFrame)) := by
  simp only [State.bindAt]
  split_ifs with late
  · rw [Nat.max_eq_right (Nat.le_of_lt late), decide_eq_true late]
  · rw [Nat.max_eq_left (Nat.le_of_not_lt late), decide_eq_false late]

/-- Settles O20, by the adjunction of ticks and times at the first frame presented late enough. -/
theorem timedCommitsBindByPresentation : Obligations.TimedCommitsBindByPresentation := by
  unfold Obligations.TimedCommitsBindByPresentation
  intro s t d hd
  obtain ⟨shown, first⟩ := frameAsked_spec hd (tickFrom s.tl.rate t)
  rw [s.bindAt_some]
  generalize frameAsked d (tickFrom s.tl.rate t) = k at shown first
  simp only [decide_eq_true_eq, decide_eq_false_iff_not]
  refine ⟨Nat.le_max_right .., fun late => Nat.max_eq_right (Nat.le_of_lt late), fun onTime => ?asked, fun late => ?_, ?_⟩
  case asked =>
    rw [Nat.max_eq_left (Nat.le_of_not_lt onTime)]
    exact ⟨(tickFrom_le_iff ..).mp shown, fun j hj => Nat.lt_of_not_le fun h => (first j hj).not_ge ((tickFrom_le_iff ..).mpr h)⟩
  · exact ⟨k, late, (tickFrom_le_iff ..).mp shown⟩
  · rintro ⟨j, reachable, hj⟩
    refine Nat.lt_of_le_of_lt (Nat.le_of_not_lt fun h => ?_) reachable
    exact (first j h).not_ge ((tickFrom_le_iff ..).mpr hj)

end Sys2Proof.Machine

/-!
PROOFS. What sending a frame leaves: the MAC's queues, the tile link's records and the OD server's counters and events change, and
nothing else does.
-/
namespace Sys2Proof.Machine

/-- `t` is `s` but for lanes and pounds, the tile link and the OD server, where every register but those of `endTouches` stands. -/
structure State.Sends (s t : State) : Prop where
  rest : ∃ n z o, t = { s with net := n, zl := z, od := o }
  num : ∀ key, endTouches key = false → t.num? key = s.num? key

namespace State.Sends
variable {s t u : State}

theorem refl (s : State) : s.Sends s := ⟨⟨_, _, _, rfl⟩, fun _ _ => rfl⟩

theorem trans (h : s.Sends t) (h' : t.Sends u) : s.Sends u where
  rest := by
    obtain ⟨_, _, _, rfl⟩ := h.rest
    obtain ⟨_, _, _, rfl⟩ := h'.rest
    exact ⟨_, _, _, rfl⟩
  num key hk := (h'.num key hk).trans (h.num key hk)

theorem after (h : t.Sends u) (h' : s.Sends t) : s.Sends u := h'.trans h

theorem foldl {α : Type} {f : State → α → State} (h : ∀ s a, State.Sends s (f s a)) (l : List α) (s : State) : s.Sends (l.foldl f s) :=
  List.foldlRecOn (motive := s.Sends) l f (refl s) fun t ht a _ => ht.trans (h t a)

theorem tl (h : s.Sends t) : t.tl = s.tl := by obtain ⟨_, _, _, rfl⟩ := h.rest; rfl
theorem tm (h : s.Sends t) : t.tm = s.tm := by obtain ⟨_, _, _, rfl⟩ := h.rest; rfl
theorem pwr (h : s.Sends t) : t.pwr = s.pwr := by obtain ⟨_, _, _, rfl⟩ := h.rest; rfl
theorem tow (h : s.Sends t) : t.tow = s.tow := by obtain ⟨_, _, _, rfl⟩ := h.rest; rfl

theorem reg (h : s.Sends t) {r : OdRow} {i : Nat} (hk : endTouches (r.key + i) = false) : t.reg r i = s.reg r i :=
  State.reg_eq_of_num?_eq (h.num _ hk)

end State.Sends

/-! ## The MAC's queues (R127, R265) -/

/-- Changing lanes, pounds and the link's records alone. -/
theorem State.sends_net (s : State) (n : NetState) : s.Sends { s with net := n } := ⟨⟨_, _, _, rfl⟩, fun _ _ => rfl⟩
theorem State.sends_zl (s : State) (z : LinkState) : s.Sends { s with zl := z } := ⟨⟨_, _, _, rfl⟩, fun _ _ => rfl⟩
theorem State.sends_setTile (s : State) (n : Nat) (t : Tile) : s.Sends (s.setTile n t) := State.sends_zl ..
theorem State.sends_raise (s : State) (c : Nat) (a : Bytes) : s.Sends (s.raise c a) := ⟨⟨_, _, _, rfl⟩, fun _ _ => rfl⟩

theorem State.sends_raiseOnce (s : State) (c u : Nat) (a : Bytes) : s.Sends (s.raiseOnce c u a) := by
  refine ⟨?_, fun key _ => num?_raiseOnce s c u a key⟩
  unfold State.raiseOnce
  simp only []
  split_ifs
  · exact ⟨_, _, _, rfl⟩
  · exact ⟨_, _, _, rfl⟩

theorem State.sends_sluiceEdge (s : State) (p : Nat) : s.Sends (s.sluiceEdge p) := by
  refine State.Sends.foldl (fun s pin => ?_) _ s
  simp only []
  split_ifs
  · refine (State.sends_net s _).trans (.trans ⟨⟨_, _, _, rfl⟩, fun key hk => ?_⟩ (State.sends_raiseOnce ..))
    exact num?_setReg _ _ _ _ _ (endTouches_ne hk).2.2
  · exact State.sends_net ..
  · exact .refl s

theorem State.sends_setPound (s : State) (p : Nat) (x : Pound) : s.Sends (s.setPound p x) := State.sends_net ..

theorem State.sends_watermark (s : State) (p : Nat) : s.Sends (s.watermark p) := by
  unfold State.watermark
  simp only []
  split_ifs
  · exact (State.sends_setPound ..).trans (State.sends_sluiceEdge ..)
  · exact (State.sends_setPound ..).trans ((State.sends_raise ..).trans (State.sends_sluiceEdge ..))
  · exact (State.sends_setPound ..).trans (State.sends_sluiceEdge ..)
  · exact State.sends_setPound ..

theorem State.sends_writePound (s : State) (p slot prio : Nat) (d : Bytes) : s.Sends (s.writePound p slot prio d).1 := by
  unfold State.writePound
  simp only []
  split_ifs
  · exact (State.sends_setPound ..).trans (State.sends_watermark ..)
  · exact State.sends_setPound ..

theorem State.sends_submitTx (s : State) (p : Nat) (a : TxAsk) : s.Sends (s.submitTx p a) :=
  (State.sends_net s _).trans ((State.sends_net _ _).trans (State.sends_writePound ..))

theorem State.sends_sendPtp (s : State) (d : Nat) (event : Bool) (tag : Nat) (m : Bytes) : s.Sends (s.sendPtp d event tag m) :=
  State.sends_submitTx ..

/-! ## Frames to tiles (R286–R303) -/

theorem State.sends_sendZh (s : State) (cfg : Store) (z : ZhOut) : s.Sends (s.sendZh cfg z) := by
  unfold State.sendZh
  extract_lets okSeal gen zh car
  split
  · exact .refl s
  · exact State.sends_submitTx ..

theorem State.sends_toTile (s : State) (cfg : Store) (n segs : Nat) (plain : Bool) (f : ZhOut → ZhOut) :
    s.Sends (s.toTile cfg n segs plain f) := by
  unfold State.toTile
  split
  · exact .refl s
  · exact (State.sends_setTile ..).trans (State.sends_sendZh ..)

theorem State.sends_helloAll (s : State) (cfg : Store) (lane sec mac ip : Nat) : s.Sends (s.helloAll cfg lane sec mac ip) := by
  unfold State.helloAll
  exact .after (State.sends_sendZh ..) (State.sends_zl ..)

theorem State.sends_askTile (s : State) (cfg : Store) (n : Nat) (t : Tile) : s.Sends (s.askTile cfg n t) := by
  unfold State.askTile
  split
  · split_ifs
    · exact State.sends_helloAll ..
    · exact .refl s
  · exact .refl s

theorem State.sends_absentTile (s : State) (cfg : Store) (n : Nat) (hello : Bool) : s.Sends (s.absentTile cfg n hello) := by
  unfold State.absentTile
  simp only []
  split_ifs
  · exact (State.sends_setTile ..).trans (State.sends_askTile ..)
  · exact State.sends_setTile ..

theorem State.sends_pumpParam (s : State) (n : Nat) : s.Sends (s.pumpParam n) := by
  unfold State.pumpParam
  simp only []
  split
  · exact (State.sends_setTile ..).trans (State.sends_toTile ..)
  · exact .refl s

theorem State.sends_paramTiles (s : State) (old new : Store) (k : Nat) : s.Sends (s.paramTiles old new k) := by
  unfold State.paramTiles
  simp only []
  split_ifs
  · exact .refl s
  · exact State.Sends.foldl (fun s n => (State.sends_setTile ..).trans (State.sends_pumpParam ..)) _ s

/-- Binding the tiles to a frame's settings sends to them alone. -/
theorem State.sends_bindTiles (s : State) (old new : Store) (k : Nat) : s.Sends (s.bindTiles old new k) := by
  unfold State.bindTiles
  refine .after (State.Sends.foldl (fun s r => ?_) _ _)
    (.after (State.sends_paramTiles ..) (.after (State.sends_zl ..) (State.Sends.foldl (fun s _ => State.sends_askTile ..) _ s)))
  simp only []
  split
  · exact State.sends_setTile ..
  · split_ifs
    · exact State.sends_absentTile ..
    · exact .refl s

end Sys2Proof.Machine

/-!
PROOFS. Cut-offs (R38): the settings of a frame are those of the last one with the commits bound by then on top, in their order.
-/
namespace Sys2Proof.Machine

/-! ## Lists in an order -/

theorem mem_insertBy {α : Type} {le : α → α → Bool} {x y : α} {l : List α} : y ∈ insertBy le x l ↔ y = x ∨ y ∈ l := by
  induction l with
  | nil => simp [insertBy]
  | cons z t ih =>
    rw [insertBy]
    split_ifs
    · rw [List.mem_cons]
    · rw [List.mem_cons, ih, List.mem_cons, or_left_comm]

theorem mem_sortBy {α : Type} {le : α → α → Bool} {y : α} {l : List α} : y ∈ sortBy le l ↔ y ∈ l := by
  induction l with
  | nil => rfl
  | cons z t ih => rw [sortBy, List.foldr_cons, ← sortBy, mem_insertBy, ih, List.mem_cons]

/-! ## What values in turn leave of one number (R38) -/

/-- The number a value sets the entry `x` to, if it does. -/
def setsTo (x : Nat) (v : Nat × OdVal) : Option Nat :=
  match v with
  | (key, .num n) => if key = x then some n else none
  | _ => none

/-- An entry's number, after values set in turn: the last that was set. -/
def numAfter (x a : Nat) (vs : List (Nat × OdVal)) : Nat := ((vs.filterMap (setsTo x)).getLast?).getD a

theorem numAfter_nil (x a : Nat) : numAfter x a [] = a := rfl

theorem numAfter_append (x a : Nat) (vs ws : List (Nat × OdVal)) : numAfter x a (vs ++ ws) = numAfter x (numAfter x a vs) ws := by
  simp only [numAfter, List.filterMap_append, List.getLast?_append]
  cases (ws.filterMap (setsTo x)).getLast? <;> rfl

theorem numAfter_singleton (x a : Nat) (v : Nat × OdVal) : numAfter x a [v] = (setsTo x v).getD a := by
  cases h : setsTo x v <;> simp [numAfter, h]

/-- Values written out as a fold. -/
theorem foldl_eq_numAfter (x a : Nat) (vs : List (Nat × OdVal)) :
    vs.foldl (fun a v => match v with | (key, .num n) => if key = x then n else a | _ => a) a = numAfter x a vs := by
  induction vs generalizing a with
  | nil => rfl
  | cons v vs ih =>
    rw [List.foldl_cons, ih, ← List.singleton_append, numAfter_append, numAfter_singleton]
    congr 1
    obtain ⟨key, n | b⟩ := v
    · simp only [setsTo]
      split_ifs <;> rfl
    · rfl

/-- Once some value sets the entry, what it held before does not matter. -/
theorem numAfter_of_set {x n a b : Nat} {v : Nat × OdVal} {vs : List (Nat × OdVal)} (hv : v ∈ vs) (hn : setsTo x v = some n) :
    numAfter x a vs = numAfter x b vs := by
  have set : n ∈ vs.filterMap (setsTo x) := List.mem_filterMap.mpr ⟨v, hv, hn⟩
  obtain ⟨m, hm⟩ := List.getLast?_isSome.mpr (List.ne_nil_of_mem set) |> Option.isSome_iff_exists.mp
  rw [numAfter, numAfter, hm]
  rfl

/-- Values of other entries do not matter. -/
theorem numAfter_filter {x a : Nat} {p : Nat × OdVal → Bool} {vs : List (Nat × OdVal)} (h : ∀ v ∈ vs, v.1 = x → p v = true) :
    numAfter x a (vs.filter p) = numAfter x a vs := by
  have same : (vs.filter p).filterMap (setsTo x) = vs.filterMap (setsTo x) := by
    rw [List.filterMap_filter]
    refine List.filterMap_congr fun v hv => ?_
    by_cases hx : v.1 = x
    · rw [if_pos (h v hv hx)]
    · obtain ⟨key, n | b⟩ := v
      · simp [setsTo, show ¬ key = x from hx]
      · simp [setsTo]
  rw [numAfter, same, numAfter]

/-! ## Settings after commits -/

theorem Store.num_setVal (st : Store) (r : OdRow) (i : Nat) (v : Nat × OdVal) :
    (st.setVal v.1 v.2).num r i = numAfter (r.key + i) (st.num r i) [v] := by
  rw [numAfter_singleton]
  obtain ⟨key, n | b⟩ := v
  · by_cases h : key = r.key + i
    · subst h
      simp [setsTo, Store.setVal, Store.num, kvGetD]
    · simp [setsTo, Store.setVal, Store.num, kvGetD, h, kvGet_kvSet_ne n st.nums (Ne.symm h)]
  · simp only [Store.setVal]
    split_ifs <;> rfl

theorem Store.num_setVals (st : Store) (r : OdRow) (i : Nat) (vs : List (Nat × OdVal)) :
    (st.setVals vs).num r i = numAfter (r.key + i) (st.num r i) vs := by
  induction vs generalizing st with
  | nil => rfl
  | cons v vs ih =>
    rw [← List.singleton_append, numAfter_append, ← Store.num_setVal, ← ih]
    rfl

/-- Commits bound to one frame, applied in turn: an entry's number is the last that was set. A value that a later commit replaces
does not stand, which makes no difference to the last. -/
theorem num_applyCommits {r : OdRow} {i k : Nat} (cs : List Commit) (st : Store) (hb : ∀ c ∈ cs, c.bound = k)
    (hn : ∀ c ∈ cs, ∀ v ∈ c.vals, v.1 = r.key + i → ∃ n, v.2 = OdVal.num n) :
    (applyCommits st cs).num r i = numAfter (r.key + i) (st.num r i) (cs.flatMap Commit.vals) := by
  induction cs generalizing st with
  | nil => rfl
  | cons c cs ih =>
    rw [List.forall_mem_cons] at hb hn
    rw [applyCommits, ih _ hb.2 hn.2, Store.num_setVals, List.flatMap_cons, numAfter_append]
    by_cases replaced : ∃ d ∈ cs, ∃ w ∈ d.vals, w.1 = r.key + i
    · obtain ⟨d, hd, w, hw, hx⟩ := replaced
      obtain ⟨n, hnum⟩ := hn.2 d hd w hw hx
      refine numAfter_of_set (List.mem_flatMap.mpr ⟨d, hd, hw⟩) (n := n) ?_
      obtain ⟨key, val⟩ := w
      subst hnum
      exact if_pos hx
    · congr 1
      refine numAfter_filter fun v hv hx => ?_
      simp only [Bool.not_eq_true', List.any_eq_false, Bool.and_eq_true, List.any_eq_true, beq_iff_eq, not_and, not_exists]
      exact fun d hd _ w hw e => replaced ⟨d, hd, w, hw, e.trans hx⟩

theorem State.num_settingsAt {s : State} {r : OdRow} {i k : Nat}
    (hn : ∀ c ∈ s.tl.waiting, ∀ v ∈ c.vals, v.1 = r.key + i → ∃ n, v.2 = OdVal.num n) :
    (s.settingsAt k).num r i = numAfter (r.key + i) (s.tl.newest.num r i) ((s.dueCommits k).flatMap Commit.vals) := by
  have same : ((s.dueCommits k).map fun (c : Commit) => { c with bound := k }).flatMap Commit.vals = (s.dueCommits k).flatMap Commit.vals :=
    List.flatMap_map ..
  rw [State.settingsAt, num_applyCommits (k := k), same]
  · intro c hc
    obtain ⟨c, -, rfl⟩ := List.mem_map.mp hc
    rfl
  · intro c hc
    obtain ⟨d, hd, rfl⟩ := List.mem_map.mp hc
    exact hn d (List.mem_of_mem_filter (mem_sortBy.mp hd))

/-! ## What a cut-off leaves of the timeline -/

/-- What a read clears is no part of the timeline, and TIMELINE_STATE is not among it. -/
theorem State.clearOnRead_keeps (s : State) {r : OdRow} {i : Nat} (h : r.clr = true → Od.timelineState.key ≠ r.key + i) :
    (s.clearOnRead r i).tl = s.tl ∧ (s.clearOnRead r i).reg Od.timelineState = s.reg Od.timelineState := by
  unfold State.clearOnRead
  split_ifs with hclr
  · exact ⟨rfl, rfl⟩
  · exact ⟨rfl, rfl⟩
  · exact ⟨rfl, rfl⟩
  · exact ⟨rfl, rfl⟩
  · exact ⟨rfl, State.reg_setReg_ne _ _ (h (Bool.eq_true_of_not_eq_false hclr))⟩

/-- `t` has the timeline of `s`, running or stopped as it was. -/
def State.SameTimeline (s t : State) : Prop := t.tl = s.tl ∧ t.reg Od.timelineState = s.reg Od.timelineState

theorem State.SameTimeline.refl (s : State) : s.SameTimeline s := ⟨rfl, rfl⟩

theorem State.SameTimeline.trans {s t u : State} (h : s.SameTimeline t) (h' : t.SameTimeline u) : s.SameTimeline u :=
  ⟨h'.1.trans h.1, h'.2.trans h.2⟩

theorem State.SameTimeline.foldl {α : Type} {f : State → α → State} {l : List α} (h : ∀ s, ∀ a ∈ l, State.SameTimeline s (f s a)) (s : State) :
    s.SameTimeline (l.foldl f s) :=
  List.foldlRecOn (motive := s.SameTimeline) l f (.refl s) fun t ht a ha => ht.trans (h t a ha)

theorem Od.timelineState_not_cleared :
    (Od.clears.all fun r => decide (Od.timelineState.key < r.key) || decide (r.key + r.n ≤ Od.timelineState.key)) = true := by decide +kernel

theorem State.clearAll_sameTimeline (s : State) : s.SameTimeline s.clearAll := by
  refine .foldl (fun s r hr => .foldl (fun s i hi => s.clearOnRead_keeps fun _ => ?_) s) s
  have apart := List.all_eq_true.mp Od.timelineState_not_cleared r hr
  rw [Bool.or_eq_true, decide_eq_true_iff, decide_eq_true_iff] at apart
  have := List.mem_range.mp hi
  omega

theorem State.actGroups_sameTimeline (s : State) (k : Nat) : s.SameTimeline (s.actGroups k) := by
  unfold State.actGroups
  refine .trans (t := { s with od := _ }) ⟨rfl, rfl⟩ (.foldl (fun s g _ => ?_) _)
  split_ifs
  · exact ⟨rfl, State.reg_setReg_ne s _ (by decide)⟩
  · exact State.clearAll_sameTimeline s

/-- Fixing the settings of a frame: they are the newest, later commits go on waiting, and the timeline runs or stands as it did. -/
theorem State.fixSettings_keeps (s : State) (k : Nat) :
    (s.fixSettings k).tl = { s.tl with newest := s.settingsAt k, waiting := s.tl.waiting.filter fun c => decide (k < c.bound) } ∧
      (s.fixSettings k).reg Od.timelineState = s.reg Od.timelineState := by
  unfold State.fixSettings
  simp only []
  split_ifs
  · have sends := State.sends_bindTiles { s with tl := { s.tl with newest := s.settingsAt k, waiting := s.tl.waiting.filter fun c => decide (k < c.bound) } }
      s.tl.newest (s.settingsAt k) k
    exact ⟨sends.tl, sends.reg (by decide)⟩
  · exact ⟨rfl, rfl⟩

/-- A frame that enters is the last in flight, undecided. -/
theorem State.openFrame_tl (s : State) (k : Nat) (prev : Store) :
    (s.openFrame k prev).tl.newest = s.tl.newest ∧ (s.openFrame k prev).tl.nextCut = k + 1 ∧
      ((s.openFrame k prev).tl.frames.getLast?.map fun f => (f.k, f.closed)) = some (k, false) := by
  unfold State.openFrame
  simp only []
  split_ifs <;> exact ⟨rfl, rfl, by simp⟩

/-- The cut-off of a frame at an unchanged rate, on a timeline that runs. -/
theorem State.cutOff_opens {s : State} {k : Nat} (hrun : s.running = true) (hrate : (s.settingsAt k).num Od.frameRate = s.tl.rate) :
    (s.cutOff k).tl.newest = s.settingsAt k ∧ (s.cutOff k).tl.nextCut = k + 1 ∧
      ((s.cutOff k).tl.frames.getLast?.map fun f => (f.k, f.closed)) = some (k, false) := by
  obtain ⟨fixedTl, fixedRun⟩ := s.fixSettings_keeps k
  obtain ⟨actTl, actRun⟩ := (s.fixSettings k).actGroups_sameTimeline k
  have runs : ((s.fixSettings k).actGroups k).running = true := by
    rw [State.running] at hrun ⊢
    rw [actRun, fixedRun, hrun]
  have newest : ((s.fixSettings k).actGroups k).tl.newest = s.settingsAt k := by rw [actTl, fixedTl]
  have rate : ((s.fixSettings k).actGroups k).tl.rate = s.tl.rate := by rw [actTl, fixedTl]
  unfold State.cutOff
  simp only []
  rw [runs, newest, rate, if_neg (by decide), if_pos hrate, ← newest]
  exact State.openFrame_tl ..

theorem exec_frameCutoff {s : State} (on : s.domOn 1 = true) : exec .frameCutoff s =
    .next (State.ended s ((s.goTo (tickTime s.tl.rate s.cutIndex - s.reg Od.commitCutoff * 1000)).cutOff s.cutIndex)) := by
  show execFrameCutoff s = _
  rw [execFrameCutoff, if_pos on, finish]

/-- Settles O16. FRAME_CUTOFF fixes the settings of its frame, which then enters; of one entry they hold the last number that the
commits bound by then set, in their order. -/
theorem cutOffFixesTheSettings : Obligations.CutOffFixesTheSettings := by
  unfold Obligations.CutOffFixesTheSettings
  refine ⟨fun s on => exec_frameCutoff on, fun s on hrun hrate => ?enters, fun s k r i _ hn => ?settings⟩
  case enters =>
    have next : s.cutIndex = s.tl.nextCut := if_pos hrun
    refine ⟨_, exec_frameCutoff on, ?_⟩
    rw [ended_tl, next]
    exact State.cutOff_opens (s := s.goTo _) hrun hrate
  case settings =>
    rw [State.num_settingsAt hn, ← foldl_eq_numAfter]
    rfl

end Sys2Proof.Machine

/-!
PROOFS. What the OD server's answers leave: messages sent and replies kept are the server's own, and every register stands.
-/
namespace Sys2Proof.Machine

/-- `t` is `s` but for what the OD server keeps, where every register stands. -/
structure State.Speaks (s t : State) : Prop where
  rest : ∃ o, t = { s with od := o }
  num : ∀ key, t.num? key = s.num? key

namespace State.Speaks
variable {s t u : State}

theorem refl (s : State) : s.Speaks s := ⟨⟨_, rfl⟩, fun _ => rfl⟩

theorem trans (h : s.Speaks t) (h' : t.Speaks u) : s.Speaks u where
  rest := by
    obtain ⟨_, rfl⟩ := h.rest
    obtain ⟨_, rfl⟩ := h'.rest
    exact ⟨_, rfl⟩
  num key := (h'.num key).trans (h.num key)

theorem after (h : t.Speaks u) (h' : s.Speaks t) : s.Speaks u := h'.trans h

theorem foldl {α : Type} {f : State → α → State} (h : ∀ s a, State.Speaks s (f s a)) (l : List α) (s : State) : s.Speaks (l.foldl f s) :=
  List.foldlRecOn (motive := s.Speaks) l f (refl s) fun t ht a _ => ht.trans (h t a)

theorem reg (h : s.Speaks t) (r : OdRow) (i : Nat) : t.reg r i = s.reg r i := State.reg_eq_of_num?_eq (h.num _)

theorem tl (h : s.Speaks t) : t.tl = s.tl := by obtain ⟨_, rfl⟩ := h.rest; rfl
theorem tm (h : s.Speaks t) : t.tm = s.tm := by obtain ⟨_, rfl⟩ := h.rest; rfl
theorem net (h : s.Speaks t) : t.net = s.net := by obtain ⟨_, rfl⟩ := h.rest; rfl
theorem lk (h : s.Speaks t) : t.lk = s.lk := by obtain ⟨_, rfl⟩ := h.rest; rfl
theorem tow (h : s.Speaks t) : t.tow = s.tow := by obtain ⟨_, rfl⟩ := h.rest; rfl
theorem pwr (h : s.Speaks t) : t.pwr = s.pwr := by obtain ⟨_, rfl⟩ := h.rest; rfl
theorem aq (h : s.Speaks t) : t.aq = s.aq := by obtain ⟨_, rfl⟩ := h.rest; rfl
theorem keys (h : s.Speaks t) : t.keys = s.keys := by obtain ⟨_, rfl⟩ := h.rest; rfl
theorem upd (h : s.Speaks t) : t.upd = s.upd := by obtain ⟨_, rfl⟩ := h.rest; rfl
theorem trim (h : s.Speaks t) : t.trim = s.trim := by obtain ⟨_, rfl⟩ := h.rest; rfl
theorem zl (h : s.Speaks t) : t.zl = s.zl := by obtain ⟨_, rfl⟩ := h.rest; rfl
theorem ras (h : s.Speaks t) : t.ras = s.ras := by obtain ⟨_, rfl⟩ := h.rest; rfl
theorem lamp (h : s.Speaks t) : t.lamp = s.lamp := by obtain ⟨_, rfl⟩ := h.rest; rfl
theorem strs (h : s.Speaks t) : t.strs = s.strs := by obtain ⟨_, rfl⟩ := h.rest; rfl

end State.Speaks

theorem State.speaks_raise (s : State) (c : Nat) (a : Bytes) : s.Speaks (s.raise c a) := ⟨⟨_, rfl⟩, fun _ => rfl⟩

theorem State.speaks_raiseOnce (s : State) (c u : Nat) (a : Bytes) : s.Speaks (s.raiseOnce c u a) := by
  refine ⟨?_, num?_raiseOnce s c u a⟩
  unfold State.raiseOnce
  simp only []
  split_ifs <;> exact ⟨_, rfl⟩

theorem State.speaks_send (s : State) (m : Sent) : s.Speaks (s.send m) := by
  refine ⟨?_, num?_send s m⟩
  unfold State.send
  split_ifs <;> exact ⟨_, rfl⟩

theorem State.speaks_reply (s : State) (src : Src) (cmd seq st : Nat) (p : Bytes) (keepIt : Bool) :
    s.Speaks (s.reply src cmd seq st p keepIt) := by
  have freed (m : Sent) : s.Speaks { s.send m with od := { (s.send m).od with replyFrom := none } } :=
    .after ⟨⟨_, rfl⟩, fun _ => rfl⟩ (State.speaks_send ..)
  unfold State.reply
  cases keepIt || cmd == 1
  · exact freed _
  · exact .after ⟨⟨_, rfl⟩, fun _ => rfl⟩ (freed _)

theorem State.speaks_settleOwed (s : State) (kind : Nat) : s.Speaks (s.settleOwed kind) := by
  unfold State.settleOwed
  refine .after (State.Speaks.foldl (fun s w => State.speaks_reply ..) _ _) ⟨⟨_, rfl⟩, fun _ => rfl⟩

/-- The answer of a request leaves what the item's effect made. -/
theorem speaks_answered (r : Req) (w : WriteItem) (e : Eff) : e.1.Speaks (answered r w e) := by
  unfold answered
  split
  · exact State.speaks_reply ..
  · exact ⟨⟨_, rfl⟩, fun _ => rfl⟩

/-! ## One item of a write (R51, R72) -/

/-- What an item of a row's own entry does, outside recovery. -/
theorem State.runItem_item {s : State} (hs : s.pwr.state ≠ 7) {row : OdRow} {i : Nat} (hi : i < row.n)
    (found : Od.find (row.key + i) = some (row, i)) (cls : Nat) (req : Req) (v : Bytes) :
    s.runItem cls req (row.item i v) =
      if row.acc = .x then s.runCommand cls req (row.key + i) (beNat v)
      else if row.acc = .rws then effOk (s.shadowWrite (row.key + i) (itemVal row (row.item i v)))
      else s.runWrite cls req (row.key + i) (itemVal row (row.item i v)) v := by
  have key : (row.item i v).key = row.key + i := by
    simp only [OdRow.item, if_pos hi, WriteItem.key, entryKey, Nat.div_add_mod']
  have entry : s.entryRow (row.key + i) = some (row, i) := by
    rw [State.entryRow, if_neg fun h => hs h.1, found]
  unfold State.runItem
  simp only [key, entry]
  rfl

/-- A request the server takes comes outside recovery. -/
theorem State.takes_running {s : State} {src : Src} {seq : Nat} (h : s.takes src seq = true) (dt : Nat) : (s.served dt).pwr.state ≠ 7 := by
  obtain ⟨-, -, -, -, running, -⟩ := (s.takes_iff ..).mp h
  rwa [State.served_pwr]

/-- An accepted write of an X entry is answered with what its command does. -/
theorem State.request_command {s : State} {dt n : Nat} {r : Req} {row : OdRow} (x : row.acc = .x) (hn : 0 < row.n)
    (found : Od.find row.key = some (row, 0)) (h : s.takes r.src r.seq = true) (ha : (s.served dt).accepts r (row.numItem 0 n)) :
    s.request dt r (row.numItem 0 n) =
      answered r (row.numItem 0 n) ((s.served dt).runCommand (s.portClass r.src.port) r row.key (n % 256 ^ row.len)) := by
  rw [State.request_accepted h ha, OdRow.numItem, State.runItem_item (State.takes_running h dt) hn found, if_pos x, beNat_natBE]
  rfl

/-- An accepted write of a number of access RW or W is answered with what its entry does. -/
theorem State.request_number {s : State} {dt n i : Nat} {r : Req} {row : OdRow} (x : row.acc ≠ .x) (rws : row.acc ≠ .rws) (hi : i < row.n)
    (found : Od.find (row.key + i) = some (row, i)) (h : s.takes r.src r.seq = true) (ha : (s.served dt).accepts r (row.numItem i n)) :
    s.request dt r (row.numItem i n) = answered r (row.numItem i n)
      ((s.served dt).runWrite (s.portClass r.src.port) r (row.key + i) (itemVal row (row.numItem i n)) (natBE row.len n)) := by
  rw [State.request_accepted h ha, OdRow.numItem, State.runItem_item (State.takes_running h dt) hi found, if_neg x, if_neg rws]

end Sys2Proof.Machine

/-!
PROOFS. Commits (R34–R37): what an accepted one leaves of the timeline, and what CANCEL_PENDING returns to the dirty set.
-/
namespace Sys2Proof.Machine

/-! ## Keyed lists built in turn -/

/-- Set pairs in turn; of one key the last stands. -/
def kvSets {α : Type} (l : List (Nat × α)) (vs : List (Nat × α)) : List (Nat × α) := vs.foldl (fun l v => kvSet v.1 v.2 l) l

/-- What a key holds after pairs set in turn: the last of its own, or what it held. -/
theorem kvGet_kvSets {α : Type} (k : Nat) (vs l : List (Nat × α)) :
    kvGet k (kvSets l vs) = (((vs.filter fun v => v.1 == k).getLast?).map (·.2)).or (kvGet k l) := by
  induction vs generalizing l with
  | nil => rfl
  | cons v vs ih =>
    rw [kvSets, List.foldl_cons, ← kvSets, ih, List.filter_cons]
    by_cases h : v.1 = k
    · subst h
      rw [kvGet_kvSet, if_pos (beq_self_eq_true _), List.getLast?_cons]
      cases (vs.filter fun w => w.1 == v.1).getLast? <;> rfl
    · rw [kvGet_kvSet_ne _ _ (Ne.symm h), if_neg (by simpa using h)]

theorem kvGet_kvSets_isSome {α : Type} {v : Nat × α} {vs : List (Nat × α)} (hv : v ∈ vs) (l : List (Nat × α)) :
    ∃ x, kvGet v.1 (kvSets l vs) = some x := by
  have own : v ∈ vs.filter fun w => w.1 == v.1 := List.mem_filter.mpr ⟨hv, beq_self_eq_true _⟩
  obtain ⟨w, hw⟩ := Option.isSome_iff_exists.mp (List.getLast?_isSome.mpr (List.ne_nil_of_mem own))
  exact ⟨w.2, by rw [kvGet_kvSets, hw]; rfl⟩

theorem mem_of_kvGet_kvSets {α : Type} {k : Nat} {x : α} {vs : List (Nat × α)} (h : kvGet k (kvSets [] vs) = some x) : (k, x) ∈ vs := by
  rw [kvGet_kvSets] at h
  cases hv : (vs.filter fun v => v.1 == k).getLast? with
  | none => rw [hv] at h; cases h
  | some v =>
    rw [hv] at h
    cases h
    obtain ⟨hmem, hkey⟩ := List.mem_filter.mp (List.mem_of_getLast? hv)
    exact (beq_iff_eq.mp hkey) ▸ hmem

/-- A pair of a list whose keys differ stands where that list is set last. -/
theorem kvGet_kvSets_append_of_nodup {α : Type} {k : Nat} {x : α} {ws : List (Nat × α)} (hd : (ws.map (·.1)).Nodup) (hx : (k, x) ∈ ws)
    (vs l : List (Nat × α)) : kvGet k (kvSets l (vs ++ ws)) = some x := by
  have only : ∀ w ∈ ws.filter fun v => v.1 == k, w = (k, x) := fun w hw => by
    obtain ⟨hmem, hkey⟩ := List.mem_filter.mp hw
    exact List.inj_on_of_nodup_map hd hmem hx (beq_iff_eq.mp hkey)
  have own : (k, x) ∈ ws.filter fun v => v.1 == k := List.mem_filter.mpr ⟨hx, beq_self_eq_true _⟩
  have last : (ws.filter fun v => v.1 == k).getLast? = some (k, x) := by
    cases h : (ws.filter fun v => v.1 == k).getLast? with
    | none => exact absurd (List.getLast?_eq_none_iff.mp h) (List.ne_nil_of_mem own)
    | some w => rw [only w (List.mem_of_getLast? h)]
  rw [kvGet_kvSets, List.filter_append, List.getLast?_append, last]
  rfl

/-- A key after all others joins the end. -/
theorem kvSet_of_last {α : Type} {k : Nat} {l : List (Nat × α)} (h : ∀ p ∈ l, p.1 < k) (x : α) : kvSet k x l = l ++ [(k, x)] := by
  induction l with
  | nil => rfl
  | cons p l ih =>
    rw [List.forall_mem_cons] at h
    obtain ⟨j, w⟩ := p
    rw [kvSet, if_neg (by have := h.1; omega), if_neg (by have := h.1; omega), ih h.2, List.cons_append]

/-- A list whose keys rise is what setting its pairs in turn makes. -/
theorem kvSets_of_sorted {α : Type} (vs : List (Nat × α)) (l : List (Nat × α)) (h : ((l ++ vs).map (·.1)).Pairwise (· < ·)) :
    kvSets l vs = l ++ vs := by
  induction vs generalizing l with
  | nil => rw [List.append_nil]; rfl
  | cons v vs ih =>
    have before : ∀ p ∈ l, p.1 < v.1 := fun p hp => by
      rw [List.map_append, List.pairwise_append] at h
      exact h.2.2 _ (List.mem_map_of_mem hp) _ (List.mem_map_of_mem (List.mem_cons_self ..))
    rw [kvSets, List.foldl_cons, kvSet_of_last before, ← kvSets, ih _ (by rwa [List.append_assoc, List.singleton_append]), List.append_assoc,
      List.singleton_append]

/-! ## What accepting a commit leaves of the timeline -/

theorem tl_foldl {α : Type} {f : State → α → State} (h : ∀ s a, (f s a).tl = s.tl) (l : List α) (s : State) : (l.foldl f s).tl = s.tl :=
  List.foldlRecOn (motive := fun t => t.tl = s.tl) l f rfl fun t ht a _ => (h t a).trans ht

theorem State.mirrorSend_tl (s : State) (vals : List (Nat × Bytes)) (bound at_ : Nat) : (s.mirrorSend vals bound at_).tl = s.tl := by
  unfold State.mirrorSend
  split_ifs
  · rfl
  · exact tl_foldl (fun s m => (State.speaks_send ..).tl) _ s

theorem State.mirrorCommit_tl (s : State) (cfg : Store) (w : Commit) (vals : List (Nat × OdVal)) : (s.mirrorCommit cfg w vals).tl = s.tl := by
  unfold State.mirrorCommit
  extract_lets
  split
  · rfl
  · split
    · rfl
    · exact State.mirrorSend_tl ..

theorem State.queueCal_tl (s : State) (target : Nat) (b : Bytes) : (s.queueCal target b).tl = s.tl := rfl

theorem State.keepCommit_tl (s : State) (cfg : Store) (vals : List (Nat × OdVal)) : (s.keepCommit cfg vals).tl = s.tl := by
  unfold State.keepCommit
  exact (tl_foldl (fun s v => s.queueCal_tl _ _) _ _).trans (tl_foldl (fun s v => s.noteJournal_tl _ _) _ s)

theorem State.tl_of_late (s : State) (late : Bool) (code : Nat) (arg : Bytes) :
    (if late then (if s.running then s.count Od.lateBoundCount else s).raise code arg else s).tl = s.tl := by
  split
  · split <;> rfl
  · rfl

/-- The commit waits after those before it, with the BARGE_ENERGY in force; a host's takes the dirty set whole. -/
theorem State.acceptCommit_tl (s : State) (w : Commit) (late : Bool) :
    (s.acceptCommit w late).tl = { s.tl with
      waiting := s.tl.waiting ++ [{ w with vals := w.vals ++ [(Od.bargeEnergy.key, .tab (s.regTab Od.bargeEnergy))] }]
      dirty := if w.mirror then s.tl.dirty else []
      startFrame := if s.tl.invalid && s.tl.startFrame.isNone then some w.bound else s.tl.startFrame } := by
  unfold State.acceptCommit
  refine (State.mirrorCommit_tl ..).trans ((tl_foldl (fun s a => s.raise_tl _ a) _ _).trans ?_)
  exact (State.tl_of_late ..).trans (State.keepCommit_tl ..)

/-- A host's commit that may be taken is refused while four wait, and changes nothing. -/
theorem State.commitDirty_busy {s : State} {cls : Nat} (time : Option Nat) (hfour : 4 ≤ s.tl.waiting.length)
    (hcls : ¬(cls = 2 ∧ s.dirtyBeyondO = true)) : s.commitDirty cls time = (s, stBusy, 0) := by
  unfold State.commitDirty State.commitVals
  rw [if_neg hcls]
  exact if_pos (.inl hfour)

/-- A commit adds at most itself to those that wait, and only where fewer than four wait. -/
theorem State.commitDirty_waiting {s t : State} {cls st k : Nat} {time : Option Nat} (h : s.commitDirty cls time = (t, st, k)) :
    t.tl.waiting = s.tl.waiting ∨ (t.tl.waiting.length = s.tl.waiting.length + 1 ∧ s.tl.waiting.length < 4) := by
  unfold State.commitDirty State.commitVals at h
  simp only [] at h
  split_ifs at h with right busy range late
  · cases h; exact .inl rfl
  · cases h; exact .inl rfl
  · cases h; exact .inl rfl
  · cases h; rw [State.acceptCommit_tl]; exact .inr ⟨List.length_append, by omega⟩
  · cases h; rw [State.acceptCommit_tl]; exact .inr ⟨List.length_append, by omega⟩

/-! ## CANCEL_PENDING (R37) -/

theorem State.cancelPending_dirty (s : State) : s.cancelPending.tl.dirty =
    kvSets [] (((s.tl.waiting.filter fun c => !c.mirror).flatMap fun c => c.vals.filter fun v => v.1 != Od.bargeEnergy.key) ++ s.tl.dirty) := rfl

/-- An accepted write of CANCEL_PENDING discards what waits. -/
theorem exec_cancelPending_accepted {s : State} {dt : Nat} {r : Req} (h : s.takes r.src r.seq = true)
    (ha : (s.served dt).accepts r (Od.cancelPending.numItem 0 0)) :
    ∃ t, exec (.cancelPending dt r) s = .next t ∧ t.tl = s.cancelPending.tl := by
  refine ⟨_, rfl, ?_⟩
  rw [State.request_command rfl (by decide) (by decide) h ha, ended_tl, (speaks_answered ..).tl]
  show (s.served dt).cancelPending.tl = _
  have same : (s.served dt).tl = s.tl := by rw [State.served, State.count_tl, State.advance_tl]
  simp only [State.cancelPending, same]

/-- Settles O23. A fifth commit is refused as it came; of the entries that CANCEL_PENDING returns, each keeps the last value set. -/
theorem fourCommitsMayWait : Obligations.FourCommitsMayWait := by
  unfold Obligations.FourCommitsMayWait
  refine ⟨fun s t cls st k time h => ⟨fun hw => ?atMost, fun hfour hcls => ?busy⟩, fun s dt r h ha => ?cancelled⟩
  case atMost =>
    rcases State.commitDirty_waiting h with same | ⟨one, few⟩
    · rwa [same]
    · omega
  case busy =>
    cases h.symm.trans (State.commitDirty_busy time hfour hcls)
    exact ⟨rfl, rfl⟩
  case cancelled =>
    obtain ⟨t, ht, tl⟩ := exec_cancelPending_accepted h ha
    refine ⟨t, ht, by rw [tl]; rfl, fun c hc hm v hv hne => ?back, fun k x hd hx => ?kept, fun k x hx => ?only⟩
    case back =>
      rw [tl, State.cancelPending_dirty]
      refine kvGet_kvSets_isSome (List.mem_append_left _ (List.mem_flatMap.mpr ⟨c, ?_, ?_⟩)) []
      · exact List.mem_filter.mpr ⟨hc, by rw [hm]; rfl⟩
      · exact List.mem_filter.mpr ⟨hv, bne_iff_ne.mpr hne⟩
    case kept =>
      rw [tl, State.cancelPending_dirty]
      exact kvGet_kvSets_append_of_nodup hd hx ..
    case only =>
      rw [tl, State.cancelPending_dirty] at hx
      refine (List.mem_append.mp (mem_of_kvGet_kvSets hx)).symm.imp_right fun hmem => ?_
      obtain ⟨c, hc, hv⟩ := List.mem_flatMap.mp hmem
      exact ⟨c, List.mem_of_mem_filter hc, List.mem_of_mem_filter hv⟩

end Sys2Proof.Machine

/-!
PROOFS. Messages that the server takes (R61–R69, R78): those for this device alone, and group commands.
-/
namespace Sys2Proof.Machine

/-! ## Taking a message -/

/-- A message that waits for no other of its port, is heard, of a class, addressed to this device and no misuse of the group address, is
let in at once. -/
theorem State.letIn_now {s : State} {dt cmd : Nat} {m : Msg} (hh : s.hears m.src.port = true)
    (hr : 24 ≤ m.src.port ∨ s.reg Od.role m.src.port ≠ 2) (hc : s.portClass m.src.port ≠ 0) (hd : s.discards m = false)
    (hg : notGroup cmd m = false) (hw : s.waitsOn m.src.port = false) :
    (s.advance dt).dequeue cmd m = none ∧ (s.advance dt).letIn cmd m = (s.served dt, true) := by
  have first : (s.advance dt).dequeue cmd m = none := State.dequeue_none (by rw [State.advance_waitsOn]; exact hw)
  refine ⟨first, ?_⟩
  unfold State.letIn
  rw [first]
  simp only [State.advance_hears, State.advance_reg, State.advance_portClass, State.advance_discards, State.advance_waitsOn, hh, hd, hw, hg,
    if_neg hc, Bool.true_eq_false, Bool.false_eq_true, Bool.or_false, if_false]
  rw [if_neg (by rintro ⟨h1, h2⟩; rcases hr with h | h <;> omega)]
  rfl

/-- What makes a message one the server takes and executes, by its parts. -/
theorem State.takesMsg_iff (s : State) (cmd : Nat) (m : Msg) : s.takesMsg cmd m = true ↔
    s.takes m.src m.seq = true ∧ s.discards m = false ∧ cmdClasses cmd &&& s.portClass m.src.port ≠ 0 ∧ s.notServed cmd = none := by
  simp only [State.takesMsg, Bool.and_eq_true, Bool.not_eq_true', bne_iff_ne, ne_eq, Option.isNone_iff_eq_none, and_assoc]

theorem State.takesMsg_not_group {s : State} {cmd : Nat} {m : Msg} (h : s.takesMsg cmd m = true) : m.src.group = false := by
  obtain ⟨-, -, -, hg, -⟩ := (s.takes_iff ..).mp ((s.takesMsg_iff ..).mp h).1
  exact hg

/-- A message the server takes, of a command that may come through the group address too, is executed as it arrives. -/
theorem State.groupMessage_taken {s : State} {dt cmd : Nat} {m : Msg} {run : State → Answer} (h : s.takesMsg cmd m = true) :
    s.groupMessage dt cmd m run = State.conclude cmd m (run (s.served dt)) := by
  obtain ⟨ht, hd, hc, hn⟩ := (s.takesMsg_iff ..).mp h
  obtain ⟨hh, hr, hcl, hg, -, hw, -⟩ := (s.takes_iff ..).mp ht
  obtain ⟨first, letIn⟩ := State.letIn_now (dt := dt) (cmd := cmd) hh hr hcl hd (by rw [notGroup, hg, Bool.false_and]) hw
  unfold State.groupMessage State.nextOf
  rw [letIn, first]
  simp only [hg, Bool.false_and, Bool.false_eq_true, if_false, Option.isSome_none]
  exact State.serve_taken ht hc hn

/-! ## Answers that leave at once -/

/-- An answer that waits for nothing and came to this device alone is a reply; SNAPSHOT and RESET are kept beside it. -/
theorem conclude_replies {cmd : Nat} {m : Msg} {a : Answer} (hg : m.src.group = false) (hs : a.silent = false) (hw : a.waits = [])
    (hb : cmd ≠ 0xB) (hc : cmd ≠ 0xC) : State.conclude cmd m a = a.s.reply m.src cmd m.seq a.status a.payload (cmd != 1) := by
  unfold State.conclude
  simp only [hg, hs, hw, hb, hc, Bool.false_eq_true, if_false, ne_eq, not_true_eq_false, or_self]

/-- A COMMIT to this device with an empty payload or a TIME commits the dirty set and is answered with the bound frame. -/
theorem exec_commitCmd_taken {s : State} {dt : Nat} {m : Msg} {time : Option Nat} (h : s.takesMsg 7 m = true)
    (hlen : m.payload.length = 0 ∨ m.payload.length = 10) (htime : timeField m.payload = .ok time) :
    exec (.commitCmd dt m) s = .next (State.ended s
      (let (t, st, k) := (s.served dt).commitDirty (s.portClass m.src.port) time
       t.reply m.src 7 m.seq st (boundReply st k))) := by
  have run : State.runCommit m (s.served dt) =
      (let (t, st, k) := (s.served dt).commitDirty (s.portClass m.src.port) time
       { s := t, status := st, payload := boundReply st k, bound := k }) := by
    unfold State.runCommit
    rw [if_neg (by omega), htime, State.served_portClass]
    simp only [State.takesMsg_not_group h, Bool.false_and, Bool.false_eq_true, if_false]
  show finish s (s.groupMessage dt 7 m (State.runCommit m)) = _
  rw [finish, State.groupMessage_taken h, run, conclude_replies (State.takesMsg_not_group h) rfl rfl (by decide) (by decide)]
  rfl

/-- A time of ten bytes in range. -/
theorem timeField_ten {b : Bytes} (hl : b.length = 10) (ht : timeOk (beNat b) = true) : timeField b = .ok (some (nsOfTime (beNat b))) := by
  have full : b.take 10 = b := List.take_of_length_le hl.le
  have some : b.isEmpty = false := by
    cases b with
    | nil => cases hl
    | cons _ _ => rfl
  simp only [timeField, some, full, ht, Bool.false_eq_true, if_false, if_true]

/-- An accepted write to COMMIT_AT commits the dirty set at its time. -/
theorem exec_commitAt_accepted {s : State} {dt time : Nat} {r : Req} (htime : time < 2 ^ 80) (h : s.takes r.src r.seq = true)
    (ha : (s.served dt).accepts r (Od.commitAt.numItem 0 time)) :
    exec (.commitAt dt r time) s = .next (State.ended s (answered r (Od.commitAt.numItem 0 time)
      ((s.served dt).commitEff (s.portClass r.src.port) (some (nsOfTime time))))) := by
  have value : beNat (natBE Od.commitAt.len time) = time := (beNat_natBE ..).trans (Nat.mod_eq_of_lt htime)
  show finish s (s.request dt r (Od.commitAt.numItem 0 time)) = _
  rw [State.request_number (by decide) (by decide) (by decide) (by decide) h ha, finish]
  show _ = Host.Outcome.next (State.ended s (answered r _ ((s.served dt).commitEff _ (some (nsOfTime time)))))
  conv_rhs => rw [← value]
  rfl

/-- Settles O21. Each command is the write of its entry or the message that commits the dirty set, answered as it ends. -/
theorem commitCommandsAreAnswered : Obligations.CommitCommandsAreAnswered := by
  unfold Obligations.CommitCommandsAreAnswered
  refine ⟨fun s dt r h ha => exec_commit_accepted h ha, fun s dt r time htime h ha => exec_commitAt_accepted htime h ha,
    fun s dt m h hm => ?empty, fun s dt m h hl ht => ?timed, fun s dt r h ha => ?cancelled⟩
  case empty => exact exec_commitCmd_taken h (.inl (by rw [hm]; rfl)) (by rw [hm]; rfl)
  case timed => exact exec_commitCmd_taken h (.inr hl) (timeField_ten hl ht)
  case cancelled =>
    obtain ⟨t, ht, tl⟩ := exec_cancelPending_accepted h ha
    refine ⟨t, ht, by rw [tl]; rfl, by rw [tl]; rfl, by rw [tl]; rfl, fun hw hd => ?_⟩
    rw [tl, State.cancelPending_dirty, hw]
    exact kvSets_of_sorted s.tl.dirty [] hd

end Sys2Proof.Machine

/-!
PROOFS. The OD server's messages (R22–R24, R62–R73): group commands, reads and writes, duplicates, and what waits in the queues.
-/
namespace Sys2Proof.Machine

/-! ## Messages executed as they arrive -/

/-- A message the server takes ends as its command concludes. -/
theorem finish_message_taken {s : State} {dt cmd : Nat} {m : Msg} {run : State → Answer} (h : s.takesMsg cmd m = true) :
    finish s (s.message dt cmd m run) = .next (State.ended s (State.conclude cmd m (run (s.served dt)))) := by
  rw [State.message_taken h, finish]

/-! ## Group commands (R22–R24) -/

/-- What makes a group command one the server takes, by its parts. -/
theorem State.takesGroup_iff (s : State) (cmd : Nat) (m : Msg) : s.takesGroup cmd m = true ↔
    m.src.group = true ∧ s.hears m.src.port = true ∧ (24 ≤ m.src.port ∨ s.reg Od.role m.src.port ≠ 2) ∧ s.portClass m.src.port ≠ 0 ∧
      s.discards m = false ∧ notGroup cmd m = false ∧ s.waitsOn m.src.port = false ∧ s.od.kept? m.src m.seq = none ∧
      s.aqInFlight m.src m.seq = false ∧ s.underWay m.src m.seq = false ∧ cmdClasses cmd &&& s.portClass m.src.port ≠ 0 ∧
      s.notServed cmd = none := by
  simp only [State.takesGroup, Bool.and_eq_true, Bool.or_eq_true, Bool.not_eq_true', bne_iff_ne, ne_eq, Option.isNone_iff_eq_none,
    decide_eq_true_eq, and_assoc]

@[simp] theorem State.served_reg (s : State) (dt : Nat) {r : OdRow} {i : Nat} (h : r.key + i ≠ Od.rxMsgs.key) :
    (s.served dt).reg r i = s.reg r i := by
  rw [State.served, State.reg_count_ne _ _ h, State.advance_reg]

/-- A group command the server takes is ignored and counted while no device number is set, and else executed as it arrives. -/
theorem State.groupMessage_group {s : State} {dt cmd : Nat} {m : Msg} {run : State → Answer} (h : s.takesGroup cmd m = true) :
    s.groupMessage dt cmd m run =
      if s.reg Od.numberSet = 0 then (s.served dt).count Od.groupIgnored else State.conclude cmd m (run (s.served dt)) := by
  obtain ⟨hg, hh, hr, hcl, hd, hng, hw, hk, ha, hu, hc, hn⟩ := (s.takesGroup_iff ..).mp h
  obtain ⟨first, letIn⟩ := State.letIn_now (dt := dt) (cmd := cmd) hh hr hcl hd hng hw
  obtain ⟨kept, flight, under, -⟩ := s.served_checks dt m.src m.seq
  unfold State.groupMessage State.nextOf State.serve
  rw [letIn, first]
  simp only [hg, State.served_reg s dt (r := Od.numberSet) (i := 0) (by decide), kept, flight, under, hk, ha, hu, hc, hn, State.served_portClass,
    State.served_notServed, Bool.true_and, beq_iff_eq, Bool.false_eq_true, if_false, Option.isSome_none]

/-- A log that holds at least one element keeps the one it took last. -/
theorem mem_pushLast {α : Type} {n : Nat} (hn : 0 < n) (l : List α) (x : α) : x ∈ pushLast n l x := by
  rw [pushLast, List.drop_append_of_le_length (by omega)]
  exact List.mem_append_right _ (List.mem_singleton_self x)

/-- A message that is kept with a payload is found again by its source and SEQ. -/
theorem OdState.kept?_keep (o : OdState) (src : Src) {k : Kept} (hp : k.payload.isSome = true) :
    ((o.keep src k).kept? src k.seq).isSome = true := by
  have own {p : DupSrc → Bool} {d : DupSrc} {l : List DupSrc} (hd : d ∈ l) (hpd : p d = true) (hk : k ∈ d.kept) :
      k ∈ (l.filter p).flatMap DupSrc.kept := List.mem_flatMap.mpr ⟨d, List.mem_filter.mpr ⟨hd, hpd⟩, hk⟩
  simp only [OdState.keep, OdState.kept?]
  rw [List.find?_isSome, List.drop_append_of_le_length (by omega)]
  refine ⟨k, own (List.mem_append_right _ (List.mem_singleton_self _)) (beq_self_eq_true _) (mem_pushLast (by decide) _ k), ?_⟩
  rw [hp, beq_self_eq_true, Bool.and_self]

/-- A reply that is kept is found again. -/
theorem State.kept?_reply (s : State) (src : Src) (cmd seq st : Nat) (p : Bytes) :
    ((s.reply src cmd seq st p).od.kept? src seq).isSome = true := OdState.kept?_keep _ src rfl

/-- What a reply leaves of what the OD server keeps. -/
theorem State.reply_od (s : State) (src : Src) (cmd seq st : Nat) (p : Bytes) (keepIt : Bool) : ∃ a b c d e,
    (s.reply src cmd seq st p keepIt).od = { s.od with spiReplies := a, sent := b, outbox := c, replyFrom := d, dups := e } := by
  have sent (m : Sent) : ∃ a b c, (s.send m).od = { s.od with spiReplies := a, sent := b, outbox := c } := by
    unfold State.send
    split_ifs <;> exact ⟨_, _, _, rfl⟩
  unfold State.reply
  generalize ({ dst := src, cmd := cmd, seq := seq, device := s.device, status := st, payload := p, isReply := true
                sport := s.od.replyFrom.getD (s.reg Od.odUdpPort) } : Sent) = m
  obtain ⟨a, b, c, hsent⟩ := sent m
  cases keepIt || cmd == 1
  · exact ⟨a, b, c, none, _, by simp only [hsent, Bool.false_eq_true, if_false]; rfl⟩
  · exact ⟨a, b, c, none, _, by simp only [hsent, if_true, OdState.keep]; rfl⟩

@[simp] theorem State.reply_groups (s : State) (src : Src) (cmd seq st : Nat) (p : Bytes) (keepIt : Bool) :
    (s.reply src cmd seq st p keepIt).od.groups = s.od.groups := by
  obtain ⟨_, _, _, _, _, h⟩ := s.reply_od src cmd seq st p keepIt
  rw [h]

@[simp] theorem ended_groups (s0 s : State) : (State.ended s0 s).od.groups = s.od.groups := by
  have h := ended_core s0 s
  simp only [State.core, Prod.mk.injEq] at h
  exact h.2.1.2.2.2.2.2.2.2.2.2.1

@[simp] theorem ended_dups (s0 s : State) : (State.ended s0 s).od.dups = s.od.dups := by
  have h := ended_core s0 s
  simp only [State.core, Prod.mk.injEq] at h
  exact h.2.1.2.2.2.2.1

theorem OdState.kept?_congr {o q : OdState} (h : o.dups = q.dups) (src : Src) (seq : Nat) : o.kept? src seq = q.kept? src seq := by
  simp only [OdState.kept?, h]

/-- GROUP_REPLY_SEND answers the group command due first, in its slot. -/
theorem exec_groupReplySend {s : State} {g : GroupCmd} (hg : s.nextReply = some g) : ∃ t, exec .groupReplySend s = .next t ∧
    t.now = max s.now (s.replyAt g) ∧ (t.od.kept? g.src g.seq).isSome = true ∧ (g.acted = true → g ∉ t.od.groups) := by
  refine ⟨_, rfl, ?_⟩
  simp only [hg]
  refine ⟨?instant, ?kept, fun acted => ?gone⟩
  case instant =>
    rw [State.now, ended_tm, (State.speaks_reply ..).tm]
    rfl
  case kept =>
    rw [OdState.kept?_congr (ended_dups ..)]
    exact State.kept?_reply ..
  case gone =>
    rw [ended_groups, State.reply_groups]
    intro hmem
    obtain ⟨hmap, left⟩ := List.mem_filter.mp hmem
    obtain ⟨x, -, hx⟩ := List.mem_map.mp hmap
    by_cases same : x = g
    · rw [if_pos same, same] at hx
      rw [← hx] at left
      simp [acted] at left
    · rw [if_neg same] at hx
      exact same hx

theorem finish_groupMessage_ignored {s : State} {dt cmd : Nat} {m : Msg} {run : State → Answer} (h : s.takesGroup cmd m = true)
    (hn : s.reg Od.numberSet = 0) :
    finish s (s.groupMessage dt cmd m run) = .next (State.ended s ((s.served dt).count Od.groupIgnored)) := by
  rw [State.groupMessage_group h, if_pos hn, finish]

theorem finish_groupMessage_executed {s : State} {dt cmd : Nat} {m : Msg} {run : State → Answer} (h : s.takesGroup cmd m = true)
    (hn : s.reg Od.numberSet ≠ 0) :
    finish s (s.groupMessage dt cmd m run) = .next (State.ended s (State.conclude cmd m (run (s.served dt)))) := by
  rw [State.groupMessage_group h, if_neg hn, finish]

/-- Settles O24. A group command is taken once, kept with its bound frame, and answered in its slot. -/
theorem groupCommandsBindAndAreAnswered : Obligations.GroupCommandsBindAndAreAnswered := by
  unfold Obligations.GroupCommandsBindAndAreAnswered
  refine ⟨fun s dt cmd m h hn => ⟨?ignoredCommit, ?ignoredSnapshot, ?ignoredReset⟩, fun s dt m => finish_groupMessage_executed,
    fun s dt m => finish_groupMessage_executed, fun s dt m => finish_groupMessage_executed, fun s g => exec_groupReplySend⟩
  case ignoredCommit => rintro rfl; exact finish_groupMessage_ignored h hn
  case ignoredSnapshot => rintro rfl; exact finish_groupMessage_ignored h hn
  case ignoredReset => rintro rfl; exact finish_groupMessage_ignored h hn

end Sys2Proof.Machine

/-!
PROOFS. READ, WRITE and WRITE_POSTED (R70–R73), duplicates and the order of a port's messages (R67, R68), and writes that act at once
(R17, R53, R63).
-/
namespace Sys2Proof.Machine

/-! ## Reads -/

/-- A READ of one entry that answers its value clears what a read clears. -/
theorem State.runRead_one {s : State} {m : Msg} {it : ReadItem} {ty : Nat} {v : Bytes} (hm : readItems m.payload = some [it])
    (hw : inWindow it.index = false) (hv : s.draw.readItem (s.portClass m.src.port) it = (stOk, ty, v))
    (hlen : (valueItem it ty stOk v).length ≤ 1436) :
    State.runRead m s = { s := (s.draw.count Od.noRightCount 0).clearItem it, status := stOk, payload := valueItem it ty stOk v } := by
  have short : ¬ 1436 < (valueItem it ty stOk v).length := Nat.not_lt.mpr hlen
  have hv' : s.draw.readItem (State.portClass s m.src.port) it = (stOk, ty, v) := hv
  unfold State.runRead State.readAll
  simp only [hm, List.any_cons, List.any_nil, hw, Bool.or_false, Bool.false_eq_true, if_false, List.map_cons, List.map_nil, hv', List.flatMap_cons,
    List.flatMap_nil, List.append_nil, short, List.length_cons, List.length_nil]
  rfl

/-- Settles O27. A message the server takes is executed as it arrives; of a READ of one entry the one item is what it answers. -/
theorem messagesAreExecuted : Obligations.MessagesAreExecuted := by
  unfold Obligations.MessagesAreExecuted
  refine ⟨fun s dt m => finish_message_taken, fun s dt m it ty v h hm hw hv hlen => ?one, fun s dt m => finish_message_taken,
    fun s dt m h => ?posted⟩
  case one =>
    rw [← State.served_portClass s dt] at hv
    refine (finish_message_taken h).trans ?_
    rw [State.runRead_one hm hw hv hlen, conclude_replies (State.takesMsg_not_group h) rfl rfl (by decide) (by decide)]
    rfl
  case posted => exact finish_message_taken h

/-! ## A write that is refused whole (R72) -/

/-- Where every status that is not OK refuses, the message's status is that of the first item that failed. -/
theorem statusOf_refused {items : List WriteItem} {f : WriteItem → Nat} {st : Nat} (hst : (items.map f).find? (fun x => x != stOk) = some st)
    (hall : ((items.map f).all fun x => x == stOk || refuses x) = true) : (statusOf items (items.map f)).1 = st := by
  have same : ∀ p ∈ items.zip (items.map f), refuses p.2 = (p.2 != stOk) := fun p hp => by
    have := List.all_eq_true.mp hall p.2 (List.of_mem_zip hp).2
    by_cases ok : p.2 = stOk
    · rw [ok]; rfl
    · rw [bne_iff_ne.mpr ok]
      exact (Bool.or_eq_true_iff.mp this).resolve_left (by simpa using ok)
  have zip : items.zip (items.map f) = items.map fun w => (w, f w) := by
    simpa using List.zip_map' (f := id) (g := f) (l := items)
  rw [List.find?_map, Option.map_eq_some_iff] at hst
  obtain ⟨w, hw, rfl⟩ := hst
  have found : (items.zip (items.map f)).find? (fun p => refuses p.2) = some (w, f w) := by
    rw [List.find?_congr same, zip, List.find?_map]
    exact congrArg (Option.map _) hw
  rw [statusOf, found]
  rfl

/-- Settles O26. The checks come before any item acts, so one that fails leaves them all undone. -/
theorem refusedWritesApplyNothing : Obligations.RefusedWritesApplyNothing := by
  unfold Obligations.RefusedWritesApplyNothing
  intro s dt m items h hm hlen hwin u sts st hst hall
  have fails : (sts.any fun x => x != stOk) = true := by
    rw [List.any_eq_true]
    exact ⟨st, List.mem_of_find?_eq_some hst, List.find?_some (p := fun x => x != stOk) hst⟩
  have write : u.writePayload m false =
      { s := u.count Od.noRightCount (sts.filter fun x => x == stNoRight).length, status := st
        payload := (items.zip sts).flatMap fun p => statusItem p.1.index p.1.sub p.2
        index := (statusOf items sts).2.1, sub := (statusOf items sts).2.2 } := by
    have class_ : u.portClass m.src.port = s.portClass m.src.port := State.served_portClass ..
    unfold State.writePayload State.writeList State.writeAll
    simp only [hm, Nat.not_lt.mpr hlen, if_false, hwin, Bool.false_eq_true, class_]
    rw [if_pos fails, ← statusOf_refused hst hall]
  refine (finish_message_taken h).trans ?_
  rw [write, conclude_replies (State.takesMsg_not_group h) rfl rfl (by decide) (by decide)]
  rfl

/-! ## Duplicates, and what waits before a message (R67, R68) -/

/-- A message whose source and SEQ have a kept reply is answered with it, whatever its command. -/
theorem State.message_kept {s : State} {dt cmd : Nat} {m : Msg} {run : State → Answer} {k : Kept} (hh : s.hears m.src.port = true)
    (hr : 24 ≤ m.src.port ∨ s.reg Od.role m.src.port ≠ 2) (hc : s.portClass m.src.port ≠ 0) (hg : m.src.group = false)
    (hd : s.discards m = false) (hw : s.waitsOn m.src.port = false) (hk : s.od.kept? m.src m.seq = some k) :
    s.message dt cmd m run = (s.served dt).resend m.src k := by
  obtain ⟨first, letIn⟩ := State.letIn_now (dt := dt) (cmd := cmd) hh hr hc hd (by rw [notGroup, hg, Bool.false_and]) hw
  obtain ⟨kept, -⟩ := s.served_checks dt m.src m.seq
  unfold State.message State.nextOf State.serve
  rw [letIn, first]
  simp only [kept, hk, Option.isSome_none, Bool.false_eq_true, if_false]

/-- The first message of its port in the input queue leaves it, and those of other ports stay. -/
theorem State.dequeue_first {s : State} {cmd cls : Nat} {m : Msg} {a b : List (Nat × Nat × Msg)} (hq : s.od.inQ = a ++ (cls, cmd, m) :: b)
    (ha : (a.all fun q => q.2.2.src.port != m.src.port) = true) (haq : (s.aq.serve.all fun q => q.2.2.src.port != m.src.port) = true) :
    s.dequeue cmd m = some { s with od := { s.od with inQ := a ++ b } } := by
  have noneBefore : a.findIdx? (fun q => q.2.2.src.port == m.src.port) = none := by
    rw [List.findIdx?_eq_none_iff]
    intro q hq
    simpa [bne] using List.all_eq_true.mp ha q hq
  have place : s.od.inQ.findIdx? (fun q => q.2.2.src.port == m.src.port) = some a.length := by
    rw [hq, List.findIdx?_append, noneBefore, List.findIdx?_cons, if_pos (beq_self_eq_true _)]
    simp
  have noneBridged : s.aq.serve.findIdx? (fun q => q.2.2.src.port == m.src.port) = none := by
    rw [List.findIdx?_eq_none_iff]
    intro q hq
    simpa [bne] using List.all_eq_true.mp haq q hq
  have own : s.od.inQ[a.length]? = some (cls, cmd, m) := by rw [hq, List.getElem?_append_right le_rfl, Nat.sub_self]; rfl
  have left : s.od.inQ.eraseIdx a.length = a ++ b := by
    rw [hq, List.eraseIdx_append_of_length_le le_rfl, Nat.sub_self]
    rfl
  unfold State.dequeue
  rw [place, noneBridged]
  simp only [own, left, Option.map_some, if_true]

/-- Settles O28. A kept reply goes out in place of executing; the first of a port's queue is let in, and one that arrives behind it waits. -/
theorem messagesAreExecutedOnceAndInOrder : Obligations.MessagesAreExecutedOnceAndInOrder := by
  unfold Obligations.MessagesAreExecutedOnceAndInOrder
  refine ⟨fun s dt m k hh hr hc hg hd hw hk => ⟨?write, ?activate⟩, fun s cmd cls m a b hq ha haq => ?first,
    fun s cmd m hw hfirst hh hr hc hd hg => ?behind⟩
  case write =>
    show finish s (s.message dt 2 m _) = _
    rw [State.message_kept hh hr hc hg hd hw hk]
    rfl
  case activate =>
    show finish s (s.message dt 0x13 m _) = _
    rw [State.message_kept hh hr hc hg hd hw hk]
    rfl
  case first =>
    unfold State.letIn
    rw [State.dequeue_first hq ha haq]
  case behind =>
    unfold State.letIn
    rw [hfirst]
    simp only [hh, hd, hg, hw, if_neg hc, Bool.true_eq_false, Bool.false_eq_true, Bool.or_false, if_false, if_true]
    rw [if_neg (by rintro ⟨h1, h2⟩; rcases hr with h | h <;> omega)]

/-! ## Writes that act at once (R17, R53, R63) -/

/-- What the answer of a request leaves of what the server keeps. -/
theorem answered_od (r : Req) (w : WriteItem) (e : Eff) : ∃ a b c d f g,
    (answered r w e).od = { e.1.od with spiReplies := a, sent := b, outbox := c, replyFrom := d, dups := f, owed := g } := by
  unfold answered
  split
  · obtain ⟨a, b, c, d, f, h⟩ := e.1.reply_od r.src 2 r.seq e.2.1 (statusItem w.index w.sub e.2.1) true
    exact ⟨a, b, c, d, f, _, h⟩
  · exact ⟨_, _, _, _, _, _, rfl⟩

@[simp] theorem answered_demoted (r : Req) (w : WriteItem) (e : Eff) : (answered r w e).od.demoted = e.1.od.demoted := by
  obtain ⟨_, _, _, _, _, _, h⟩ := answered_od r w e
  rw [h]

@[simp] theorem answered_journalQ (r : Req) (w : WriteItem) (e : Eff) : (answered r w e).od.journalQ = e.1.od.journalQ := by
  obtain ⟨_, _, _, _, _, _, h⟩ := answered_od r w e
  rw [h]

@[simp] theorem ended_demoted (s0 s : State) : (State.ended s0 s).od.demoted = s.od.demoted := by
  have h := ended_core s0 s
  simp only [State.core, Prod.mk.injEq] at h
  exact h.2.1.2.2.2.2.2.2.2.2.2.2.2.1

@[simp] theorem ended_journalQ (s0 s : State) : (State.ended s0 s).od.journalQ = s.od.journalQ := by
  have h := ended_core s0 s
  simp only [State.core, Prod.mk.injEq] at h
  exact h.2.1.2.2.1

@[simp] theorem ended_owed (s0 s : State) : (State.ended s0 s).od.owed = s.od.owed := by
  have h := ended_core s0 s
  simp only [State.core, Prod.mk.injEq] at h
  exact h.2.1.2.2.2.1

/-- The class of MGMT1 follows its demotion. -/
theorem State.portClass_mgmt1 (s : State) : s.portClass 25 = if s.od.demoted then 2 else 1 := rfl

/-- What an accepted write of MGMT1_CLASS does. -/
theorem exec_mgmt1ClassWrite_accepted {s : State} {dt v : Nat} {r : Req} (hv : v < 256) (h : s.takes r.src r.seq = true)
    (ha : (s.served dt).accepts r (Od.mgmt1Class.numItem 0 v)) : exec (.mgmt1ClassWrite dt r v) s =
      .next (State.ended s (answered r (Od.mgmt1Class.numItem 0 v) (effOk ((s.served dt).writeMgmt1 v)))) := by
  have value : beNat (natBE 1 v) = v := (beNat_natBE ..).trans (Nat.mod_eq_of_lt hv)
  show finish s (s.request dt r (Od.mgmt1Class.numItem 0 v)) = _
  rw [State.request_number (by decide) (by decide) (by decide) (by decide) h ha, finish]
  show Host.Outcome.next (State.ended s (answered r _ (effOk ((s.served dt).writeMgmt1 (beNat (natBE 1 v)))))) = _
  rw [value]

/-- Settles O30. Each of these entries acts as its write is validated; SYNC alone may owe its reply. -/
theorem immediateWritesActAtOnce : Obligations.ImmediateWritesActAtOnce := by
  unfold Obligations.ImmediateWritesActAtOnce
  refine ⟨fun s dt r v hv h ha => ?device, fun s dt r h ha => ?demoted, fun s dt r h ha => ?waits, fun s dt r h ha => ?sync⟩
  case device =>
    have value : beNat (natBE 2 v) = v := (beNat_natBE ..).trans (Nat.mod_eq_of_lt hv)
    show finish s (s.request dt r (Od.deviceNumber.numItem 0 v)) = _
    rw [State.request_number (by decide) (by decide) (by decide) (by decide) h ha, finish]
    show Host.Outcome.next (State.ended s (answered r _ (effOk ((s.served dt).writeDevice (beNat (natBE 2 v)))))) = _
    rw [value]
    rfl
  case demoted =>
    have demoted : ((s.served dt).writeMgmt1 1).od.demoted = true := rfl
    refine ⟨_, exec_mgmt1ClassWrite_accepted (by decide) h ha, ?_, ?_, ?_⟩
    · rw [ended_demoted, answered_demoted]; exact demoted
    · rw [ended_reg _ _ _ _ (by decide), (speaks_answered ..).reg]
      exact State.reg_setReg ..
    · rw [State.portClass_mgmt1, ended_demoted, answered_demoted]
      exact if_pos demoted
  case waits =>
    have same : ((s.served dt).writeMgmt1 0).od.demoted = s.od.demoted := by
      show ((s.served dt).noteJournal Od.mgmt1Class.key (.num 0)).od.demoted = _
      rw [State.noteJournal, State.noteMirror_od]
      show (s.advance dt).od.demoted = _
      rw [State.advance_od]
    refine ⟨_, exec_mgmt1ClassWrite_accepted (by decide) h ha, ?_, ?_, ?_⟩
    · rw [ended_demoted, answered_demoted]; exact same
    · rw [State.portClass_mgmt1, State.portClass_mgmt1, ended_demoted, answered_demoted]
      exact congrArg (fun b : Bool => if b then 2 else 1) same
    · rw [ended_journalQ, answered_journalQ]
      show _ ∈ (((s.served dt).noteJournal Od.mgmt1Class.key (.num 0)).od.journalQ).map _
      rw [State.noteJournal, State.noteMirror_od, List.map_append]
      exact List.mem_append_right _ (List.mem_singleton_self _)
  case sync =>
    have same : (s.served dt).persistWaits = s.persistWaits := by rw [State.served, State.advance_eq]; rfl
    have acts : exec (.sync dt r) s = .next (State.ended s (answered r (Od.sync.numItem 0 0) ((s.served dt).writeSync))) := by
      show finish s (s.request dt r (Od.sync.numItem 0 0)) = _
      rw [State.request_command rfl (by decide) (by decide) h ha, finish]
      rfl
    refine ⟨fun hw => ?_, fun hw => ⟨_, acts, ?_⟩⟩
    · rw [acts, State.writeSync, same, hw]
      rfl
    · rw [State.writeSync, same, hw, ended_owed, ended_dups]
      show (_ ++ [_]).length = _ ∧ (s.advance dt).od.dups = _
      rw [List.length_append, State.advance_od]
      refine ⟨?_, rfl⟩
      show ((s.advance dt).od.owed).length + 1 = _
      rw [State.advance_od]

end Sys2Proof.Machine

/-!
PROOFS. Bulk sessions (R74–R77), subscriptions (R81, R82), the SPI target (R85) and the journal (R53).
-/
namespace Sys2Proof.Machine

/-! ## Bulk sessions -/

theorem State.clearOnRead_bulks (s : State) (r : OdRow) (i : Nat) : (s.clearOnRead r i).od.bulks = s.od.bulks := by
  unfold State.clearOnRead
  split_ifs <;> rfl

/-- A refusal by the route of a window names a status that is not OK. -/
theorem State.windowRoute_error {s : State} {src : Src} {l : List Nat} {st : Nat} (h : s.windowRoute src l = .error st) : st ≠ stOk := by
  unfold State.windowRoute at h
  extract_lets at h
  split at h
  · cases h; decide
  split at h
  · cases h; decide
  split at h
  · cases h; decide
  split_ifs at h
  · cases h; decide
  · cases h; decide

/-- BULK_OPEN is refused, or opens a session where fewer than 8 are open. -/
theorem State.runBulkOpen_cases (m : Msg) (s : State) : (∃ st, st ≠ stOk ∧ State.runBulkOpen m s = s.refuse st) ∨
    (s.od.bulks.length < 8 ∧ ∃ t key write total data, t.od.bulks = s.od.bulks ∧
      State.runBulkOpen m s = State.openBulk t m.src key write total data) := by
  have refused {st : Nat} (hst : st ≠ stOk) : ∃ st', st' ≠ stOk ∧ s.refuse st = s.refuse st' := ⟨st, hst, rfl⟩
  unfold State.runBulkOpen
  extract_lets p index key dir
  split
  · exact .inl (refused (by decide))
  split
  · refine .inl (refused ?_)
    split
    next st hst => exact State.windowRoute_error hst
    next => decide
  split
  · exact .inl (refused (by decide))
  rename_i r i _
  split_ifs with right type range busy write
  · exact .inl (refused (by decide))
  · exact .inl (refused (by decide))
  · exact .inl (refused (by decide))
  · exact .inl (refused (by decide))
  · exact .inr ⟨by omega, s, _, _, _, _, rfl, rfl⟩
  · exact .inr ⟨by omega, State.clearOnRead s.draw r i, _, _, _, _, State.clearOnRead_bulks .., rfl⟩

/-- A session that is opened is one more, of at most 8. -/
theorem State.runBulkOpen_opens {s : State} {m : Msg} (h : (State.runBulkOpen m s).status = stOk) :
    (State.runBulkOpen m s).s.od.bulks.length = s.od.bulks.length + 1 ∧ s.od.bulks.length < 8 := by
  rcases State.runBulkOpen_cases m s with ⟨st, hst, refused⟩ | ⟨few, t, key, write, total, data, same, opens⟩
  · rw [refused] at h
    exact absurd h hst
  · rw [opens]
    exact ⟨by rw [State.openBulk, List.length_append, same]; rfl, few⟩

/-- Settles O31. The three messages are executed as they arrive; each end of a session is one branch of BULK_CLOSE. -/
theorem bulkSessionsOpenMoveAndEnd : Obligations.BulkSessionsOpenMoveAndEnd := by
  unfold Obligations.BulkSessionsOpenMoveAndEnd
  refine ⟨fun s dt m => finish_message_taken, fun s dt m => finish_message_taken, fun s dt m => finish_message_taken,
    fun s h b hb => ?expires, fun s m => State.runBulkOpen_opens, fun s m b hl hb => ?closes⟩
  case expires =>
    show execBulkExpire h s = _
    rw [execBulkExpire, hb, finish]
  case closes =>
    have some : ¬ m.payload.length < 2 := by omega
    have whole : ¬ m.payload.length ≠ 8 := not_not.mpr hl
    refine ⟨fun hr => ?_, fun hw hc => ?_, fun hw hc hcrc => ?_⟩ <;> unfold State.runBulkClose <;> simp only [some, if_false, hb, whole]
    · rw [if_pos hr]; rfl
    · simp only [hw, hc, Bool.true_eq_false, if_false, if_true]; rfl
    · simp only [hw, hc, hcrc, Bool.true_eq_false, if_false, ne_eq, not_false_eq_true, if_true]; rfl

/-! ## Subscriptions -/

/-- Settles O32. A subscription's end and the oldest message of its queue, at the subscription its slot names. -/
theorem subscribersAreNotified : Obligations.SubscribersAreNotified := by
  unfold Obligations.SubscribersAreNotified
  refine ⟨fun s dt m => finish_message_taken, fun s i b hb => ?lapses, fun s dt i seq b e rest hb hq hr => ?notified⟩
  case lapses =>
    show execSubscriptionLapse i s = _
    rw [execSubscriptionLapse, hb, finish]
    rfl
  case notified =>
    have room : (s.advance dt).notifyRoom b.src = true := by rw [State.notifyRoom, State.advance_od]; exact hr
    show finish s ((s.advance dt).notify i) = _
    unfold State.notify
    rw [State.advance_od, hb]
    simp only [hq, room, Bool.true_eq_false, if_false]
    rfl

/-! ## The SPI target -/

theorem State.advance_alive (s : State) (dt : Nat) : (s.advance dt).alive = s.alive := by rw [State.alive, State.advance_pwr, State.alive]

/-- Settles O33. PUT_MSG, GET_MSG and STATUS, each by what stands in the queues it looks at. -/
theorem spiMovesMessages : Obligations.SpiMovesMessages := by
  unfold Obligations.SpiMovesMessages
  refine ⟨fun s dt cmd bytes m ha hroom hm => ?taken, fun s dt bytes ha hfull => ?full, fun s dt r rest ha hq => ?replied,
    fun s dt ha hq => ?empty, fun s dt ha => ?status, fun s dt ha => ?held⟩
  case taken =>
    show finish s ((s.advance dt).putMsg bytes) = _
    unfold State.putMsg
    rw [State.advance_alive, ha, State.advance_od, if_neg (by decide), if_neg (Nat.not_le.mpr hroom), hm, finish]
    simp only [State.advance_discards]
  case full =>
    show finish s ((s.advance dt).putMsg bytes) = _
    unfold State.putMsg
    rw [State.advance_alive, ha, State.advance_od, if_neg (by decide), if_pos hfull, finish]
  case replied =>
    have alive : (s.advance dt).alive = true := (State.advance_alive ..).trans ha
    show finish s (s.advance dt).getMsg = _
    unfold State.getMsg
    rw [State.advance_od, hq, finish]
    exact congrArg (fun t => Host.Outcome.next (State.ended s t)) (if_pos alive)
  case empty =>
    have alive : (s.advance dt).alive = true := (State.advance_alive ..).trans ha
    show finish s (s.advance dt).getMsg = _
    unfold State.getMsg
    rw [State.advance_od, hq, finish]
    show Host.Outcome.next (State.ended s ((s.advance dt).shiftOut (natBE 2 0))) = _
    rw [State.shiftOut, if_pos alive, State.advance_od]
    rfl
  case status =>
    have alive : (s.advance dt).alive = true := (State.advance_alive ..).trans ha
    show finish s ((s.advance dt).shiftOut _) = _
    rw [State.shiftOut, if_pos alive, State.advance_od, finish]
  case held =>
    have still : ¬ (s.advance dt).alive = true := by rw [State.advance_alive, ha]; decide
    show finish s ((s.advance dt).shiftOut _) = _
    rw [State.shiftOut, if_neg still, finish]

/-! ## The journal -/

/-- Owed replies that waited for this kind of work alone leave; what else the server keeps of changes stays. -/
theorem State.settleOwed_od (s : State) (kind : Nat) :
    (s.settleOwed kind).od.journal = s.od.journal ∧ (s.settleOwed kind).od.journalQ = s.od.journalQ ∧
      (s.settleOwed kind).od.owed = (s.od.owed.map fun w => { w with waits := w.waits.filter (· != kind) }).filter fun w => !w.waits.isEmpty := by
  unfold State.settleOwed
  extract_lets owed due od t
  refine List.foldlRecOn (motive := fun (u : State) => u.od.journal = s.od.journal ∧ u.od.journalQ = s.od.journalQ ∧
    u.od.owed = owed.filter fun w => !w.waits.isEmpty) due _ (b := t) ⟨rfl, rfl, rfl⟩ fun u hu w _ => ?_
  obtain ⟨_, _, _, _, _, h⟩ := u.reply_od w.req.src w.cmd w.req.seq w.status w.payload true
  rw [h]
  exact hu

theorem ended_journal (s0 s : State) : (State.ended s0 s).od.journal = s.od.journal := by
  have h := ended_core s0 s
  simp only [State.core, Prod.mk.injEq] at h
  exact h.2.1.2.1

theorem State.persistWaits_eq {s t : State} (hq : t.od.journalQ = s.od.journalQ) (hk : t.keys = s.keys) : t.persistWaits = s.persistWaits := by
  simp only [State.persistWaits, hq, hk]

/-- With nothing in the queue of changes, the key blobs are saved and nothing waits. -/
theorem State.persistWaits_saveBlobs {s : State} (hq : s.od.journalQ = []) : ({ s with keys := s.keys.saveBlobs } : State).persistWaits = false := by
  simp [State.persistWaits, hq, KeyState.saveBlobs]

/-- Settles O34. The oldest change lands first; SYNC's replies are settled where nothing is left to wait. -/
theorem theJournalTakesChangesInOrder : Obligations.TheJournalTakesChangesInOrder := by
  unfold Obligations.TheJournalTakesChangesInOrder
  intro s dt ha
  have done : exec (.journalWriteDone dt) s = .next (State.ended s (s.advance dt).journalDone) := by
    show finish s (if (s.advance dt).alive then (s.advance dt).journalDone else s.advance dt) = _
    rw [State.advance_alive, if_pos ha, finish]
  refine ⟨fun q rest hq => ⟨_, done, ?_⟩, fun hq => ⟨_, done, ?_⟩⟩
  · rw [ended_journalQ, ended_journal, ended_owed]
    unfold State.journalDone
    rw [State.advance_od, hq]
    simp only []
    split_ifs with waits
    · exact ⟨rfl, rfl, fun _ => rfl⟩
    · obtain ⟨hj, hjq, -⟩ := State.settleOwed_od { s.advance dt with od := { s.od with journal := s.od.journal.setVal q.1 q.2.1, journalQ := rest } } 0
      refine ⟨hjq, hj, fun hne => absurd ?_ waits⟩
      cases rest with
      | nil => exact absurd rfl hne
      | cons _ _ => rfl
  · have empty : (s.advance dt).od.journalQ = [] := by rw [State.advance_od, hq]
    have saved := State.persistWaits_saveBlobs empty
    have settled : (s.advance dt).journalDone = State.settleOwed { s.advance dt with keys := (s.advance dt).keys.saveBlobs } 0 := by
      unfold State.journalDone
      rw [empty]
      simp only [saved, Bool.false_eq_true, if_false]
    obtain ⟨-, hjq, howed⟩ := State.settleOwed_od { s.advance dt with keys := (s.advance dt).keys.saveBlobs } 0
    rw [settled]
    refine ⟨?_, ?_⟩
    · rw [← saved]
      refine State.persistWaits_eq ((ended_journalQ ..).trans hjq) ?_
      rw [ended_keys, (State.speaks_settleOwed ..).keys]
    · rw [ended_owed, howed, State.advance_od]

end Sys2Proof.Machine

/-!
PROOFS. The choice among a port's transmit queues (R132).
-/
namespace Sys2Proof.Machine

/-- The fold that keeps the head of the earliest LAUNCH finds one, and none is earlier. -/
theorem foldl_earliest (t : List (Nat × Bytes)) (h : Nat × Bytes) :
    let m := t.foldl (fun m qd => if dLaunch qd.2 < dLaunch m.2 then qd else m) h
    m ∈ h :: t ∧ ∀ x ∈ h :: t, dLaunch m.2 ≤ dLaunch x.2 := by
  induction t generalizing h with
  | nil => simp
  | cons a t ih =>
    obtain ⟨hm, hle⟩ := ih (if dLaunch a.2 < dLaunch h.2 then a else h)
    obtain ⟨hfirst, hrest⟩ := List.forall_mem_cons.mp hle
    simp only [List.foldl_cons, List.forall_mem_cons]
    rw [List.mem_cons] at hm
    simp only [List.mem_cons]
    split_ifs at hm hfirst hrest ⊢ with hlt
    · exact ⟨.inr hm, by omega, hfirst, hrest⟩
    · exact ⟨hm.imp_right .inr, hfirst, by omega, hrest⟩

/-- The queues of a port that are not paused, the highest first. -/
def State.openQueues (s : State) (p : Nat) : List Nat := ((List.range 8).reverse).filter fun q => !s.paused p q

/-- A large send of the queue is under way. -/
def State.sending (s : State) (p q : Nat) : Bool := (s.port p).jobs.any fun j => j.tc == q

/-- The timed head of a queue of which no large send is under way. -/
def State.timedHead (s : State) (p q : Nat) : Option (Nat × Bytes) :=
  if s.sending p q then none else
    match s.headDesc p q with | some d => if dLaunch d = 0 then none else some (q, d) | none => none

def State.timedHeads (s : State) (p : Nat) : List (Nat × Bytes) := (s.openQueues p).filterMap (s.timedHead p)

def State.dueHeads (s : State) (p : Nat) : List (Nat × Bytes) :=
  (s.timedHeads p).filter fun qd => decide (s.dueAt p qd.2 ≤ s.now) || s.descLate p qd.2

theorem State.mem_openQueues {s : State} {p q : Nat} : q ∈ s.openQueues p ↔ q < 8 ∧ s.paused p q = false := by
  simp [State.openQueues]

theorem State.timedHead_eq_some {s : State} {p q : Nat} {x : Nat × Bytes} :
    s.timedHead p q = some x ↔ s.sending p q = false ∧ x.1 = q ∧ s.headDesc p q = some x.2 ∧ dLaunch x.2 ≠ 0 := by
  unfold State.timedHead
  obtain ⟨q', d⟩ := x
  cases hd : s.headDesc p q with
  | none => simp
  | some e =>
    simp only [ite_eq_iff, reduceCtorEq, and_false, false_or, Option.some.injEq, Prod.mk.injEq, Bool.not_eq_true]
    constructor
    · rintro ⟨hs, h0, rfl, rfl⟩
      exact ⟨hs, rfl, rfl, h0⟩
    · rintro ⟨hs, rfl, rfl, h0⟩
      exact ⟨hs, h0, rfl, rfl⟩

theorem State.mem_timedHeads {s : State} {p : Nat} {x : Nat × Bytes} :
    x ∈ s.timedHeads p ↔ x.1 < 8 ∧ s.paused p x.1 = false ∧ s.sending p x.1 = false ∧ s.headDesc p x.1 = some x.2 ∧ dLaunch x.2 ≠ 0 := by
  simp only [State.timedHeads, List.mem_filterMap, State.timedHead_eq_some, State.mem_openQueues]
  constructor
  · rintro ⟨_, ⟨h8, hp⟩, hs, rfl, hd, h0⟩
    exact ⟨h8, hp, hs, hd, h0⟩
  · rintro ⟨h8, hp, hs, hd, h0⟩
    exact ⟨x.1, ⟨h8, hp⟩, hs, rfl, hd, h0⟩

theorem State.mem_dueHeads {s : State} {p : Nat} {x : Nat × Bytes} :
    x ∈ s.dueHeads p ↔ x ∈ s.timedHeads p ∧ (s.dueAt p x.2 ≤ s.now ∨ s.descLate p x.2 = true) := by
  simp [State.dueHeads]

/-- The choice takes the earliest of the due heads; where none is due, a queue whose next frame ends before every timed head is due. -/
theorem State.chooseQ_cases {s : State} {p q : Nat} (h : s.chooseQ p = some q) :
    (∃ e, (q, e) ∈ s.dueHeads p ∧ ∀ x ∈ s.dueHeads p, dLaunch e ≤ dLaunch x.2) ∨
    (s.dueHeads p = [] ∧ q ∈ s.openQueues p ∧ ∀ x ∈ s.timedHeads p, s.now + lineNs (s.portMbps p) (s.nextLen p q) ≤ s.dueAt p x.2) := by
  have choice : s.chooseQ p = match s.dueHeads p with
      | h :: t => some (t.foldl (fun m qd => if dLaunch qd.2 < dLaunch m.2 then qd else m) h).1
      | [] => ((s.openQueues p).filter fun q => s.sending p q || (match s.headDesc p q with | some d => dLaunch d == 0 | none => false)).find?
          fun q => (s.timedHeads p).all fun qd => decide (s.now + lineNs (s.portMbps p) (s.nextLen p q) ≤ s.dueAt p qd.2) := rfl
  rw [choice] at h
  cases hdue : s.dueHeads p with
  | cons a t =>
    rw [hdue] at h
    obtain ⟨hmem, hmin⟩ := foldl_earliest t a
    rw [← Option.some.inj h]
    exact .inl ⟨_, hmem, hmin⟩
  | nil =>
    rw [hdue] at h
    have fits := List.find?_some h
    have opened := List.mem_of_find?_eq_some h
    simp only [List.all_eq_true, decide_eq_true_eq] at fits
    exact .inr ⟨rfl, (List.mem_filter.mp opened).1, fits⟩

/-- Settles O37. Each branch of the choice, against a timed head of an open queue. -/
theorem timedFramesAreNeverHeldUp : Obligations.TimedFramesAreNeverHeldUp := by
  unfold Obligations.TimedFramesAreNeverHeldUp
  intro s p q h
  rcases State.chooseQ_cases h with ⟨e, he, first⟩ | ⟨none, hopen, fits⟩
  · obtain ⟨timed, isDue⟩ := State.mem_dueHeads.mp he
    obtain ⟨h8, hp, -, hhead, h0⟩ := State.mem_timedHeads.mp timed
    refine ⟨h8, hp, fun q' d h8' hp' hs' hhead' h0' => ⟨fun due' => ?_, fun _ _ => .inl ⟨e, hhead, h0, isDue⟩⟩⟩
    have timed' : (q', d) ∈ s.timedHeads p := State.mem_timedHeads.mpr ⟨h8', hp', hs', hhead', h0'⟩
    exact ⟨e, hhead, h0, first _ (State.mem_dueHeads.mpr ⟨timed', due'⟩)⟩
  · obtain ⟨h8, hp⟩ := State.mem_openQueues.mp hopen
    refine ⟨h8, hp, fun q' d h8' hp' hs' hhead' h0' => ?_⟩
    have timed' : (q', d) ∈ s.timedHeads p := State.mem_timedHeads.mpr ⟨h8', hp', hs', hhead', h0'⟩
    refine ⟨fun due' => ?_, fun _ _ => .inr (fits _ timed')⟩
    have due : (q', d) ∈ s.dueHeads p := State.mem_dueHeads.mpr ⟨timed', due'⟩
    rw [none] at due
    exact absurd due List.not_mem_nil

end Sys2Proof.Machine

/-!
PROOFS. Reception and the basin (R135–R140; log entry 8): one frame delivered is one write of memory, and nothing else writes it.
-/
namespace Sys2Proof.Machine

/-! ## Memory -/

/-- Every byte outside the range of a write stays. -/
theorem memGet_memWrite_outside {m : List Host.Cell} {a x : Nat} {b : Bytes} (h : Memory.wf m = true) (hx : x < a ∨ a + b.length ≤ x) :
    memGet x (memWrite a b m) = memGet x m := by
  induction b generalizing a m with
  | nil => rfl
  | cons v t ih =>
    rw [List.length_cons] at hx
    exact (ih (Memory.wf_memSet a v h) (by omega)).trans (memGet_memSet_ne v h (by omega))

theorem memRead_succ (a n : Nat) (m : List Host.Cell) : memRead a (n + 1) m = memGet a m :: memRead (a + 1) n m := by
  simp [memRead, List.range_succ_eq_map, Nat.add_right_comm, Nat.add_assoc]

/-- What is written reads back. -/
theorem memRead_memWrite {m : List Host.Cell} {a : Nat} {b : Bytes} (h : Memory.wf m = true) : memRead a b.length (memWrite a b m) = b := by
  induction b generalizing a m with
  | nil => rfl
  | cons v t ih =>
    have wf := Memory.wf_memSet a v h
    rw [List.length_cons, memRead_succ, memWrite, memGet_memWrite_outside wf (.inl (by omega)), memGet_memSet a v h, ih wf]

/-! ## What leaves the basin as it is -/

/-- The basin and the record of frames sent stand. -/
structure State.SameBasin (s t : State) : Prop where
  basin : t.net.basin = s.net.basin
  wires : t.net.wires = s.net.wires

namespace State.SameBasin
variable {s t u : State}

theorem refl (s : State) : s.SameBasin s := ⟨rfl, rfl⟩

theorem trans (h : s.SameBasin t) (h' : t.SameBasin u) : s.SameBasin u := ⟨h'.basin.trans h.basin, h'.wires.trans h.wires⟩

theorem after (h : t.SameBasin u) (h' : s.SameBasin t) : s.SameBasin u := h'.trans h

theorem foldl {α : Type} {f : State → α → State} (h : ∀ s a, State.SameBasin s (f s a)) (l : List α) (s : State) : s.SameBasin (l.foldl f s) :=
  List.foldlRecOn (motive := s.SameBasin) l f (refl s) fun t ht a _ => ht.trans (h t a)

theorem of_core (h : t.core = s.core) : s.SameBasin t := by
  simp only [State.core, Prod.mk.injEq] at h
  obtain ⟨-, -, -, -, -, -, -, -, hbasin, hwires, -⟩ := h
  exact ⟨hbasin, hwires⟩

theorem of_net (h : t.net = s.net) : s.SameBasin t := ⟨by rw [h], by rw [h]⟩

theorem of_speaks (h : s.Speaks t) : s.SameBasin t := of_net h.net

end State.SameBasin

theorem ended_sameBasin (s0 s : State) : s.SameBasin (State.ended s0 s) := .of_core (ended_core s0 s)

theorem State.sameBasin_raise (s : State) (c : Nat) (a : Bytes) : s.SameBasin (s.raise c a) := .of_net rfl
theorem State.sameBasin_count (s : State) (r : OdRow) (n i : Nat) : s.SameBasin (s.count r n i) := .of_net rfl
theorem State.sameBasin_setPort (s : State) (p : Nat) (x : Port) : s.SameBasin (s.setPort p x) := ⟨rfl, rfl⟩
theorem State.sameBasin_setPound (s : State) (p : Nat) (x : Pound) : s.SameBasin (s.setPound p x) := ⟨rfl, rfl⟩
theorem State.sameBasin_watermark (s : State) (p : Nat) : s.SameBasin (s.watermark p) := .of_core (core_watermark s p)
theorem State.sameBasin_writePound (s : State) (p slot prio : Nat) (d : Bytes) : s.SameBasin (s.writePound p slot prio d).1 :=
  .of_core (core_writePound s p slot prio d)

theorem State.sameBasin_readPound (s : State) (p : Nat) : s.SameBasin (s.readPound p).1 := by
  unfold State.readPound
  split
  · exact .after (State.sameBasin_watermark ..) (State.sameBasin_setPound ..)
  · exact State.sameBasin_setPound ..

/-! ## The OD server and the towpath as consumers -/

theorem State.sameBasin_refuseCmd (s : State) (cmd : Nat) (m : Msg) : s.SameBasin (s.refuseCmd cmd m) := by
  unfold State.refuseCmd
  split
  · exact .after (.of_speaks (State.speaks_reply ..)) (.of_net rfl)
  · split_ifs
    · exact .after (.of_speaks (State.speaks_reply ..)) (State.sameBasin_count ..)
    · exact .of_speaks (State.speaks_reply ..)

theorem State.sameBasin_queueMsg (s : State) (cmd : Nat) (m : Msg) : s.SameBasin (s.queueMsg cmd m) := by
  unfold State.queueMsg
  extract_lets c
  split_ifs
  · exact State.sameBasin_refuseCmd ..
  all_goals exact .of_net rfl

theorem State.sameBasin_takeOd (s : State) (p : Nat) (u : Udp) (group : Bool) : s.SameBasin (s.takeOd p u group) := by
  unfold State.takeOd
  split
  · exact State.sameBasin_count ..
  split
  · exact State.sameBasin_count ..
  split_ifs
  · exact State.sameBasin_count ..
  · exact State.sameBasin_count ..
  · exact .after (State.sameBasin_queueMsg ..) (State.sameBasin_count ..)

theorem State.sameBasin_partFails (s : State) (m : MirrorOut) : s.SameBasin (s.partFails m) := by
  unfold State.partFails
  extract_lets rest
  split_ifs
  · exact .trans (.of_speaks (State.speaks_send ..)) (.of_net rfl)
  · exact .of_net rfl

theorem State.sameBasin_towReply (s : State) (src : Src) (b : Bytes) : s.SameBasin (s.towReply src b) := by
  unfold State.towReply
  split
  · exact .refl s
  split
  · exact .refl s
  · split_ifs
    · exact .of_net rfl
    · exact State.sameBasin_partFails ..

/-! ## Reception -/

theorem State.sameBasin_rxOverflow (s : State) (p tc : Nat) : s.SameBasin (s.rxOverflow p tc) := by
  unfold State.rxOverflow
  simp only []
  split_ifs <;> exact .of_net rfl

theorem State.sameBasin_pauseQ (s : State) (p q quanta : Nat) : s.SameBasin (s.pauseQ p q quanta) := by
  unfold State.pauseQ
  extract_lets x
  split_ifs <;> exact State.sameBasin_setPort ..

theorem State.sameBasin_macControl (s : State) (p : Nat) (b : Bytes) : s.SameBasin (s.macControl p b) := by
  unfold State.macControl
  extract_lets op deaf act sp sq
  split_ifs
  · exact .after (State.SameBasin.foldl (fun s q => State.sameBasin_pauseQ ..) _ _) (State.sameBasin_count ..)
  · exact State.sameBasin_count ..
  · refine .after (State.SameBasin.foldl (fun s q => ?_) _ _) (State.sameBasin_count ..)
    split_ifs
    · exact State.sameBasin_pauseQ ..
    · exact .refl s
  · exact State.sameBasin_count ..
  · exact .refl s

/-- A frame delivered is one write of the basin; one that is not leaves it. -/
theorem State.deliver_basin (s : State) (p pound flags tc : Nat) (b : Bytes) (room capt : Bool) :
    (s.deliver p pound flags tc b room capt).1.net.basin = s.net.basin ∨
      ∃ a, (s.deliver p pound flags tc b room capt).1.net.basin = memWrite a b s.net.basin := by
  unfold State.deliver
  extract_lets x seq o addr flags' cap c
  split
  · exact .inl rfl
  have written := State.sameBasin_writePound s pound 0 0 c
  split
  next t hw =>
    rw [hw] at written
    exact .inl written.basin
  next t hw =>
    rw [hw] at written
    exact .inr ⟨addr, congrArg (memWrite addr b) written.basin⟩

theorem State.wf_deliver {s t : State} {p pound flags tc : Nat} {b : Bytes} {room capt ok : Bool} (h : Memory.wf s.net.basin = true)
    (hd : s.deliver p pound flags tc b room capt = (t, ok)) : Memory.wf t.net.basin = true := by
  have cases := s.deliver_basin p pound flags tc b room capt
  rw [hd] at cases
  rcases cases with same | ⟨a, written⟩
  · rw [same]; exact h
  · rw [written]; exact Memory.wf_memWrite a b h

theorem State.SameBasin.wf {s t : State} (same : s.SameBasin t) (h : Memory.wf s.net.basin = true) : Memory.wf t.net.basin = true := by
  rw [same.basin]; exact h

theorem State.wf_acceptFrame {s : State} (h : Memory.wf s.net.basin = true) (p : Nat) (f : RxFrame) (l : L2) (kind entry : Nat) :
    Memory.wf (s.acceptFrame p f l kind entry).net.basin = true := by
  unfold State.acceptFrame
  extract_lets b
  split
  · exact h
  simp only []
  split
  next t hd => exact (State.sameBasin_rxOverflow ..).wf (State.wf_deliver h hd)
  next t hd =>
    have delivered := State.wf_deliver h hd
    split
    · exact (State.SameBasin.after (State.sameBasin_takeOd ..) (.after (State.sameBasin_readPound ..) (.of_net rfl))).wf delivered
    · split
      · exact (State.SameBasin.after (State.sameBasin_towReply ..) (.after (State.sameBasin_readPound ..) (.of_net rfl))).wf delivered
      · exact (State.SameBasin.after (State.sameBasin_readPound ..) (.of_net rfl)).wf delivered
    · exact delivered

/-- A bad frame that is kept is delivered like another. -/
theorem State.wf_badFrame {s : State} (h : Memory.wf s.net.basin = true) (p : Nat) (f : RxFrame) (fcs runt bigger : Bool) :
    Memory.wf (s.badFrame p f fcs runt bigger).net.basin = true := by
  unfold State.badFrame
  extract_lets row t l tc go
  have counted : Memory.wf t.net.basin = true := h
  have kept (kind entry : Nat) : Memory.wf (go t kind entry).net.basin = true := by
    simp only [go]
    split
    next u hd => exact State.wf_deliver counted hd
    next u hd => exact (State.sameBasin_rxOverflow ..).wf (State.wf_deliver counted hd)
  split
  · exact counted
  split
  · exact kept ..
  split
  · exact kept ..
  · exact counted

theorem State.wf_receive {s : State} (h : Memory.wf s.net.basin = true) (p : Nat) (f : RxFrame) : Memory.wf (s.receive p f).net.basin = true := by
  unfold State.receive
  extract_lets n body fcs runt bigger l
  split_ifs
  · exact h
  · exact State.wf_badFrame h ..
  · exact (State.sameBasin_macControl ..).wf h
  · exact h
  · split
    · exact h
    · exact State.wf_acceptFrame h ..

theorem State.sameBasin_noteFec (s : State) (p : Nat) (f : RxFrame) : s.SameBasin (s.noteFec p f) := by
  unfold State.noteFec
  split_ifs <;> exact .of_net rfl

/-- Settles O39. A received frame's delivery is the only write of the basin, and a write of memory keeps its canonical form. -/
theorem memoryStaysCanonical : Obligations.MemoryStaysCanonical := by
  unfold Obligations.MemoryStaysCanonical
  refine ⟨fun s t dt p f h ht => ?_, fun m a b h => ⟨Memory.wf_memWrite a b h, memRead_memWrite h, fun x hx => memGet_memWrite_outside h hx⟩⟩
  have still : Memory.wf (s.advance dt).net.basin = true := by rw [State.advance_net]; exact h
  have run : exec (.rxFrame dt p f) s = execRxFrame dt p f s := rfl
  rw [run, execRxFrame, finish] at ht
  rw [← Host.Outcome.next.inj ht]
  refine (ended_sameBasin ..).wf ?_
  split
  · exact still
  · exact State.wf_receive ((State.sameBasin_noteFec ..).wf still) ..

end Sys2Proof.Machine

/-!
PROOFS. Links (R120, R123, R143), received frames (R135), pause (R141, R142) and the frame boundary (R132, R134).
-/
namespace Sys2Proof.Machine

/-! ## Ports -/

theorem State.advance_portRuns (s : State) (dt p : Nat) : (s.advance dt).portRuns p = s.portRuns p := by
  simp only [State.portRuns, advance_reg, State.domOn, State.advance_pwr, State.advance_alive]

theorem State.advance_role (s : State) (dt p : Nat) : (s.advance dt).role p = s.role p := by simp only [State.role, advance_reg]
theorem State.advance_port (s : State) (dt p : Nat) : (s.advance dt).port p = s.port p := by rw [State.port, State.advance_net, State.port]
theorem State.advance_mgmtSpeed (s : State) (dt p : Nat) : (s.advance dt).mgmtSpeed p = s.mgmtSpeed p := by
  simp only [State.mgmtSpeed, advance_reg]

/-- A port written reads back, where the lane or MGMT port exists. -/
theorem State.port_setPort (s : State) (p : Nat) (x : Port) : (s.setPort p x).port p = if p < s.net.ports.length then x else {} := by
  split_ifs with h
  · exact getD_setAt_self h ..
  · exact List.getD_eq_default _ _ (by rw [State.setPort, length_setAt]; omega)

/-- Noting the partner's remote fault leaves the link as it is. -/
theorem State.up_setRemoteFault (s : State) (p : Nat) (remote : Bool) :
    ((s.setPort p { s.port p with remoteFault := remote }).port p).up = (s.port p).up := by
  rw [State.port_setPort]
  split_ifs with h
  · rfl
  · rw [State.port, List.getD_eq_default _ _ (by omega)]

/-! ## Links -/

/-- LINK_STATE tells nothing of the speed. -/
theorem State.speedCode_setLink (s : State) (p v w : Nat) : ((s.setReg Od.linkState v p).setReg Od.linkSpeed w p).speedCode p = s.speedCode p := by
  unfold State.speedCode
  split_ifs with h
  · rw [State.reg_setReg_ne, State.reg_setReg_ne]
    · show Od.rate.key + p ≠ Od.linkState.key + p
      exact fun e => absurd (Nat.add_right_cancel e) (by decide)
    · show Od.rate.key + p ≠ Od.linkSpeed.key + p
      exact fun e => absurd (Nat.add_right_cancel e) (by decide)
  · rfl

theorem State.linkRaise_eq (s : State) (p speed : Nat) :
    s.linkRaise p speed =
      let u := s.setPort p { s.port p with up := true, speed := speed }
      ((u.setReg Od.linkState 1 p).setReg Od.linkSpeed (u.speedCode p) p).raise 0x2401 (natBE 2 p ++ natBE 1 (u.speedCode p)) := by
  unfold State.linkRaise
  simp only [State.speedCode_setLink]

/-- A port that runs and is not a MGMT port in AUTO takes a link report. -/
theorem exec_linkUp {s : State} {dt p : Nat} {remote : Bool} (hp : p < 26) (runs : s.portRuns p = true) (speed : 24 ≤ p → s.mgmtSpeed p ≠ 0) :
    exec (.linkUp dt ⟨p, remote⟩) s = .next (State.ended s
      (let t := (s.advance dt).setPort p { (s.advance dt).port p with remoteFault := remote }
       if (s.port p).up then t else t.linkRaise p (if p < 24 then 0 else s.mgmtSpeed p))) := by
  have taken : ¬(26 ≤ p ∨ (s.advance dt).portRuns p = false ∨ 24 ≤ p ∧ (s.advance dt).mgmtSpeed p = 0) := by
    rw [State.advance_portRuns, runs, State.advance_mgmtSpeed]
    rintro (h | h | ⟨h, h'⟩)
    · omega
    · exact absurd h (by decide)
    · exact speed h h'
  show execLinkUp dt ⟨p, remote⟩ s = _
  rw [execLinkUp]
  simp only [taken, if_false, State.up_setRemoteFault, finish]
  rw [← State.advance_mgmtSpeed s dt p, ← State.advance_port s dt p]
  rfl

/-- Settles O35: each edge of a link takes the branch its pins and its in-band status name. -/
theorem linksComeUpAndGoDown : Obligations.LinksComeUpAndGoDown := by
  unfold Obligations.LinksComeUpAndGoDown
  refine ⟨fun s dt p remote hp runs down => ?lane, fun s dt p remote hp runs down hs => ?mgmt, fun s dt p remote hp runs up => ?again,
    fun s dt p hp up idle => ?drop, fun s dt p hp => ?down, fun s dt p speed up fd hp runs auto => ?inband⟩
  case lane =>
    rw [exec_linkUp (by omega) runs (by omega)]
    simp only [down, Bool.false_eq_true, if_false, hp, if_true, State.linkRaise_eq]
  case mgmt =>
    rw [exec_linkUp (by omega) runs fun _ => hs]
    simp only [down, Bool.false_eq_true, if_false, show ¬p < 24 by omega, State.linkRaise_eq]
  case again =>
    rw [exec_linkUp (by omega) runs (by omega)]
    simp only [up, if_true]
  case drop =>
    show execLinkDown dt p s = _
    rw [execLinkDown, if_neg (by omega), State.linkDrop]
    simp only [State.advance_port, up, idle, Bool.true_eq_false, if_false, finish]
  case down =>
    show execLinkDown dt p s = _
    rw [execLinkDown, if_neg (by omega), finish]
  case inband =>
    have taken : ¬(¬(p = 24 ∨ p = 25) ∨ (s.advance dt).portRuns p = false ∨ (s.advance dt).mgmtSpeed p ≠ 0) := by
      rw [State.advance_portRuns, runs, State.advance_mgmtSpeed, auto]
      simp [hp]
    refine ⟨fun hu hf hs down => ?_, fun bad => ?_⟩
    · have ok : (up && fd && (speed == 1 || speed == 2)) = true := by rcases hs with rfl | rfl <;> simp [hu, hf]
      show execMgmtInbandStatus dt p up speed fd s = _
      rw [execMgmtInbandStatus]
      simp only [taken, if_false, ok, if_true, State.advance_port, down, Bool.false_eq_true, finish, State.linkRaise_eq]
    · have ok : (up && fd && (speed == 1 || speed == 2)) = false := by rcases bad with rfl | rfl <;> simp
      show execMgmtInbandStatus dt p up speed fd s = _
      rw [execMgmtInbandStatus]
      simp only [taken, if_false, ok, Bool.false_eq_true, finish]

/-! ## Received frames -/

/-- RX_KEEP_BAD is no counter of received frames. -/
theorem State.noteFec_keepBad (s : State) (dt p : Nat) (f : RxFrame) (r : OdRow) (hr : Od.rxKeepBad.key ≠ r.key) :
    (((s.advance dt).noteFec p f).count r 1 p).reg Od.rxKeepBad p = s.reg Od.rxKeepBad p := by
  have other {t : State} {row : OdRow} {n : Nat} (h : Od.rxKeepBad.key ≠ row.key) : (t.count row n p).reg Od.rxKeepBad p = t.reg Od.rxKeepBad p :=
    State.reg_count_ne _ _ fun e => h (Nat.add_right_cancel e)
  rw [other hr]
  unfold State.noteFec
  split_ifs
  · rw [other (by decide), other (by decide), advance_reg]
  · rw [advance_reg]

/-- A bad frame where RX_KEEP_BAD is 0 is counted, by the first thing wrong with it, and gone. -/
theorem State.badFrame_counted {s : State} {p : Nat} {f : RxFrame} {fcs runt bigger : Bool} {row : OdRow}
    (hr : (if f.pcsErr then Od.rxPcsErr else if fcs then Od.rxFcsErr else if runt then Od.rxRunt else Od.rxOversize) = row)
    (drop : (s.count row 1 p).reg Od.rxKeepBad p = 0) : s.badFrame p f fcs runt bigger = s.count row 1 p := by
  unfold State.badFrame
  simp only [hr]
  rw [if_pos drop]

/-- Settles O38: a frame received is judged in R135's order, so a check that fails first decides. -/
theorem framesAreReceivedInOrder : Obligations.FramesAreReceivedInOrder := by
  unfold Obligations.FramesAreReceivedInOrder
  refine ⟨fun s dt p f hp runs role up => ?_, fun s dt p f hp gone => ?_⟩
  · have received : exec (.rxFrame dt p f) s = .next (State.ended s (((s.advance dt).noteFec p f).receive p f)) := by
      show execRxFrame dt p f s = _
      rw [execRxFrame, if_neg, finish]
      rw [State.advance_portRuns, State.advance_role, State.advance_port, runs, up]
      simp [role, show ¬ 26 ≤ p by omega]
    refine ⟨received, fun giant => ?_, fun short pcs drop => ?_, fun pcs runt fcs four drop => ?_⟩
    · rw [received, State.receive]
      simp only [giant, if_true]
    · rw [received, State.receive]
      simp only [Nat.not_lt.mpr short, if_false, pcs, true_or, if_true]
      rw [State.badFrame_counted (row := Od.rxPcsErr) (by rw [pcs, if_pos rfl])]
      rw [State.noteFec_keepBad _ _ _ _ _ (by decide), drop]
    · have whole : (decide (f.bytes.length < 4) || f.bytes.drop (f.bytes.length - 4) != natLE 4 (crc32 (f.bytes.take (f.bytes.length - 4)))) = false := by
        simp [fcs, four]
      rw [received, State.receive]
      simp only [show ¬ 16383 < f.bytes.length by omega, if_false, pcs, whole, runt, decide_true, Bool.false_eq_true, false_or, true_or, if_true]
      rw [State.badFrame_counted (row := Od.rxRunt) (by rw [pcs]; rfl)]
      rw [State.noteFec_keepBad _ _ _ _ _ (by decide), drop]
  · show execRxFrame dt p f s = _
    rw [execRxFrame, if_pos, finish]
    rw [State.advance_portRuns, State.advance_role, State.advance_port]
    exact .inr gone

/-! ## Pause -/

/-- Settles O40: a pause that ends, one overridden at PAUSE_LIMIT, and the end of the time in which pause is ignored. -/
theorem pauseEndsAndIsOverridden : Obligations.PauseEndsAndIsOverridden := by
  unfold Obligations.PauseEndsAndIsOverridden
  refine ⟨fun s p tc e st hp alive paused => ?expire, fun s p tc e st hp alive paused => ?override, fun s p t hp deaf => ?ignore⟩
  case expire =>
    show execPauseExpire p tc s = _
    rw [execPauseExpire, paused]
    simp only [alive, Bool.true_eq_false, or_false, show ¬ 26 ≤ p by omega, if_false, finish]
    rfl
  case override =>
    intro limit t due
    show execPauseOverride p tc s = _
    have taken : ¬(26 ≤ p ∨ s.alive = false ∨ e < st + limit) := by
      rw [alive]
      rintro (h | h | h)
      · omega
      · exact absurd h (by decide)
      · omega
    rw [execPauseOverride, paused]
    exact congrArg (fun u => Host.Outcome.next (State.ended s u)) (if_neg taken)
  case ignore =>
    show execPauseIgnoreEnd p s = _
    rw [execPauseIgnoreEnd, deaf]
    simp only [show ¬ 26 ≤ p by omega, if_false, finish]
    rfl

/-! ## The frame boundary -/

/-- The unit runs, and the OD server has a message for MGMT0 that has no descriptor yet. -/
def messageWaits : State :=
  { pwr := { state := 2, cause := 1, doms := 0 :: List.replicate 12 1 }
    od := { outbox := [{ dst := { port := 24 }, cmd := 9, seq := 0, device := 0, status := 0, sport := 0, payload := [] }] } }

/-- Messages that wait for a descriptor when a command has ended. -/
def waitingMessages : Host.Outcome State Fault Refusal → Nat
  | .next t => t.od.outbox.length
  | _ => 0

/-- Refutes O36: before it ends heads and chooses, the MAC writes the descriptors of the messages that wait for the port (R127), which the
statement's `drainPort` leaves out. With nothing else queued, TX_SELECT takes the message, and the statement keeps it waiting. -/
theorem not_framesAreChosenAndSent : ¬ Obligations.FramesAreChosenAndSent := by
  unfold Obligations.FramesAreChosenAndSent
  intro h
  obtain ⟨-, idle, -⟩ := h
  have kept := idle messageWaits 0 24 (by decide) (by decide +kernel) (by decide +kernel) (by decide +kernel)
  exact absurd (congrArg waitingMessages kept) (by decide +kernel)

end Sys2Proof.Machine

/-!
PROOFS. Pounds and sluice pins (R264–R278).
-/
namespace Sys2Proof.Machine

theorem State.advance_domOn (s : State) (dt d : Nat) : (s.advance dt).domOn d = s.domOn d := by
  simp only [State.domOn, State.advance_pwr, State.advance_alive]

theorem State.advance_pound (s : State) (dt p : Nat) : (s.advance dt).pound p = s.pound p := by rw [State.pound, State.advance_net, State.pound]

/-! ## Writing and reading a pound (R265, R267, R268) -/

theorem State.pound_setPound (s : State) (p : Nat) (x : Pound) : (s.setPound p x).pound p = x := by
  simp only [State.pound, State.setPound, kvGetD, kvGet_kvSet, Option.getD_some]

/-- Sluice pins follow a pound; they change none. -/
theorem State.sluiceEdge_pound (s : State) (p q : Nat) : (s.sluiceEdge p).pound q = s.pound q := by
  refine List.foldlRecOn (motive := fun t : State => t.pound q = s.pound q) (List.range 8) _ rfl fun t ht pin _ => ?_
  simp only []
  split_ifs
  · simp only [State.raiseOnce]
    split_ifs <;> exact ht
  · exact ht
  · exact ht

/-- A watermark changes what a pound tells of its level, not what it holds. -/
theorem State.watermark_pound (s : State) (p : Nat) : ((s.watermark p).pound p).entries = (s.pound p).entries ∧
    ((s.watermark p).pound p).credits = (s.pound p).credits := by
  unfold State.watermark
  extract_lets x level x' seen t u
  have high (v : Pound) : (u.sluiceEdge p).pound p = t.pound p := by
    rw [State.sluiceEdge_pound]
    simp only [u]
    split_ifs <;> rfl
  split_ifs
  · rw [high x, State.pound_setPound]
    exact ⟨rfl, rfl⟩
  · rw [State.sluiceEdge_pound, State.pound_setPound]
    exact ⟨rfl, rfl⟩
  · rw [State.pound_setPound]
    exact ⟨rfl, rfl⟩

theorem State.writePound_pound (s : State) (p slot prio : Nat) (data : Bytes) :
    let t := (s.writePound p slot prio data).1
    if 0 < (s.pound p).credits.getD slot 0 then
      (t.pound p).entries = spill ((s.pound p).entries ++ [{ producer := slot, prio := prio, data := padTo 32 data }]) ∧
      (t.pound p).credits = modAt (s.pound p).credits slot (· - 1)
    else
      (t.pound p).entries = (s.pound p).entries ∧ (t.pound p).credits = (s.pound p).credits ∧
      (t.pound p).refusals = min ((s.pound p).refusals + 1) 0xFFFFFFFF := by
  simp only [State.writePound]
  split_ifs with credit
  · obtain ⟨hentries, hcredits⟩ := State.watermark_pound (s.setPound p
      { s.pound p with
        credits := modAt (s.pound p).credits slot (· - 1)
        entries := spill ((s.pound p).entries ++ [{ producer := slot, prio := prio, data := padTo 32 data }]) }) p
    rw [State.pound_setPound] at hentries hcredits
    exact ⟨hentries, hcredits⟩
  · rw [State.pound_setPound]
    exact ⟨rfl, rfl, rfl⟩

/-- No entry's sub-lane lies before the best one found. -/
theorem foldl_min_le (es : List PEntry) (m : Nat) :
    es.foldl (fun m e => min m e.prio) m ≤ m ∧ ∀ e ∈ es, es.foldl (fun m e => min m e.prio) m ≤ e.prio := by
  induction es generalizing m with
  | nil => simp
  | cons a t ih =>
    obtain ⟨hm, hle⟩ := ih (min m a.prio)
    rw [List.foldl_cons, List.forall_mem_cons]
    exact ⟨hm.trans (Nat.min_le_left ..), hm.trans (Nat.min_le_right ..), hle⟩

/-- The head of a pound is an entry of the highest sub-lane that holds any. -/
theorem headOf_some {es : List PEntry} {i : Nat} (h : headOf es = some i) : ∃ hi : i < es.length, ∀ e ∈ es, es[i].prio ≤ e.prio := by
  have found : es.findIdx? (fun e => e.prio == es.foldl (fun m e => min m e.prio) 7) = some i := by
    cases es with
    | nil => cases h
    | cons _ _ => exact h
  obtain ⟨hi, best, -⟩ := List.findIdx?_eq_some_iff_getElem.mp found
  refine ⟨hi, fun e he => ?_⟩
  rw [beq_iff_eq.mp best]
  exact (foldl_min_le es 7).2 e he

theorem Pound.take_some {x y : Pound} {e : PEntry} (h : x.take = (y, some e)) :
    e ∈ x.entries ∧ (∀ z ∈ x.entries, e.prio ≤ z.prio) ∧ y.entries.length + 1 = x.entries.length ∧ y.credits = modAt x.credits e.producer (· + 1) := by
  unfold Pound.take at h
  split at h
  · cases h
  next i hi =>
    obtain ⟨hlt, first⟩ := headOf_some hi
    rw [List.getElem?_eq_getElem hlt] at h
    cases h
    refine ⟨List.getElem_mem hlt, first, ?_, rfl⟩
    rw [List.length_eraseIdx_of_lt hlt]
    omega

theorem Pound.resize_keeps (x : Pound) : x.resize.entries = x.entries ∧ x.resize.credits = x.credits := by
  unfold Pound.resize
  split
  · split_ifs <;> exact ⟨rfl, rfl⟩
  · exact ⟨rfl, rfl⟩

/-- A read takes the head of R268 out and returns its credit. -/
theorem State.readPound_some {s : State} {p : Nat} {e : PEntry} (h : (s.readPound p).2 = some e) :
    e ∈ (s.pound p).entries ∧ (∀ x ∈ (s.pound p).entries, e.prio ≤ x.prio) ∧
      ((s.readPound p).1.pound p).entries.length + 1 = (s.pound p).entries.length ∧
      ((s.readPound p).1.pound p).credits = modAt (s.pound p).credits e.producer (· + 1) := by
  unfold State.readPound at h ⊢
  cases taken : (s.pound p).take with
  | mk y o =>
    rw [taken] at h
    cases o with
    | none => cases h
    | some e' =>
      cases h
      obtain ⟨hmem, first, length, credits⟩ := Pound.take_some taken
      obtain ⟨wentries, wcredits⟩ := State.watermark_pound (s.setPound p ({ y with last := some e } : Pound).resize) p
      obtain ⟨rentries, rcredits⟩ := Pound.resize_keeps { y with last := some e }
      refine ⟨hmem, first, ?_, ?_⟩
      · show (((s.setPound p ({ y with last := some e } : Pound).resize).watermark p).pound p).entries.length + 1 = _
        rw [wentries, State.pound_setPound, rentries, length]
      · show (((s.setPound p ({ y with last := some e } : Pound).resize).watermark p).pound p).credits = _
        rw [wcredits, State.pound_setPound, rcredits, credits]

theorem State.readPound_empty {s : State} {p : Nat} (h : (s.pound p).entries = []) :
    s.readPound p = (s.setPound p { s.pound p with underrun := true }, none) := by
  have none : (s.pound p).take = (s.pound p, none) := by
    unfold Pound.take
    rw [h]
    rfl
  unfold State.readPound
  rw [none]

/-! ## The spill (R271) -/

/-- The places on chip. -/
def onChip (es : List PEntry) : List Nat := (es.zipIdx.filter fun e => !e.1.spilled).map (·.2)

/-- What the spill makes of the entry at a place. -/
def spillOne (es : List PEntry) (x : PEntry × Nat) : PEntry := if (((onChip es).drop 16).take 16).contains x.2 then { x.1 with spilled := true } else x.1

theorem spill_eq (es : List PEntry) : spill es = if (onChip es).length ≤ 32 then es else es.zipIdx.map (spillOne es) := rfl

theorem length_onChip (es : List PEntry) : (onChip es).length = es.countP fun e => !e.spilled := by
  have fst : es.zipIdx.map Prod.fst = es := List.zipIdx_map_fst ..
  calc (onChip es).length = es.zipIdx.countP fun e => !e.1.spilled := by rw [onChip, List.length_map, List.countP_eq_length_filter]
    _ = (es.zipIdx.map Prod.fst).countP fun e => !e.spilled := by rw [List.countP_map]; rfl
    _ = _ := by rw [fst]

/-- An entry spilled keeps its slot, sub-lane and data. -/
theorem spill_keeps {α : Type} (f : PEntry → α) (hf : ∀ e : PEntry, f { e with spilled := true } = f e) (es : List PEntry) :
    (spill es).map f = es.map f := by
  have one (x : PEntry × Nat) : f (spillOne es x) = f x.1 := by
    unfold spillOne
    split_ifs
    · exact hf x.1
    · rfl
  rw [spill_eq]
  split_ifs
  · rfl
  · calc (es.zipIdx.map (spillOne es)).map f = es.zipIdx.map fun x => f x.1 := by rw [List.map_map]; exact List.map_congr_left fun x _ => one x
      _ = (es.zipIdx.map Prod.fst).map f := List.map_map.symm
      _ = es.map f := by rw [List.zipIdx_map_fst]

/-- With more than 32 entries on chip the spill takes at least the one at place 16 of them. -/
theorem spill_shrinks {es : List PEntry} (h : 32 < (onChip es).length) : ((spill es).countP fun e => !e.spilled) < es.countP fun e => !e.spilled := by
  have some : (onChip es)[16] ∈ onChip es := List.getElem_mem _
  obtain ⟨x, hx, hplace⟩ := List.mem_map.mp some
  obtain ⟨hx, chip⟩ := List.mem_filter.mp hx
  have taken : (((onChip es).drop 16).take 16).contains x.2 = true := by
    rw [hplace, List.contains_iff_mem]
    refine List.mem_iff_getElem.mpr ⟨0, by simp; omega, by simp⟩
  have stays (y : PEntry × Nat) (hy : (!(spillOne es y).spilled) = true) : (!y.1.spilled) = true := by
    unfold spillOne at hy
    split_ifs at hy
    · cases hy
    · exact hy
  have leaves : (!(spillOne es x).spilled) = false := by rw [spillOne, if_pos taken]; rfl
  rw [spill_eq, if_neg (by omega), List.countP_map, ← length_onChip, onChip, List.length_map]
  calc es.zipIdx.countP ((fun e => !e.spilled) ∘ spillOne es)
      = ((es.zipIdx.filter fun y => !y.1.spilled).filter fun y => !(spillOne es y).spilled).length := by
        rw [List.countP_eq_length_filter, List.filter_filter]
        refine congrArg List.length (List.filter_congr fun y _ => ?_)
        show (!(spillOne es y).spilled) = ((!(spillOne es y).spilled) && !y.1.spilled)
        cases hy : !(spillOne es y).spilled with
        | true => rw [stays y hy]; rfl
        | false => rfl
    _ < (es.zipIdx.filter fun y => !y.1.spilled).length :=
        List.length_filter_lt_length_iff_exists.mpr ⟨x, List.mem_filter.mpr ⟨hx, chip⟩, by rw [leaves]; decide⟩

/-! ## The commands -/

/-- PD_CORE on has every pound. -/
theorem State.advance_poundServed {s : State} {p : Nat} (dt : Nat) (on : s.domOn 1 = true) (hp : p < 4096) : (s.advance dt).poundServed p = true := by
  simp [State.poundServed, State.advance_domOn, on, hp]

theorem exec_poundRead {s : State} {p : Nat} (dt : Nat) (headEmpty : Bool) (on : s.domOn 1 = true) (hp : p < 4096) :
    exec (.poundRead dt p headEmpty) s = .next (State.ended s
      (if headEmpty && (s.pound p).headEmpty then (s.advance dt).setPound p { s.pound p with fetching := true } else (s.advance dt).readOut p)) := by
  show execPoundRead dt p headEmpty s = _
  rw [execPoundRead]
  simp only [State.advance_poundServed dt on hp, Bool.true_eq_false, if_false, State.advance_pound, finish]

/-- Settles O41: a write adds at the tail, a read takes the head, and the spill's burst moves entries in order. -/
theorem poundsAndSluicesMove : Obligations.PoundsAndSluicesMove := by
  unfold Obligations.PoundsAndSluicesMove
  refine ⟨⟨fun s dt p slot prio data on hp hslot hprio => ?write, fun s p slot prio data => State.writePound_pound s p slot prio data,
    fun s p e h => State.readPound_some h, fun es => ⟨spill_keeps _ (fun _ => rfl) es, fun few => ?spilled⟩,
    fun s dt p headEmpty e on hp here read => ?read, fun s dt p headEmpty on hp empty => ?empty, fun s dt p on hp away => ?waits,
    fun s dt p bad on fetching => ?fetched⟩, fun s dt pin hpin on => ?pin⟩
  case write =>
    have taken : ¬((s.advance dt).poundServed p = false ∨ 8 ≤ slot ∨ 8 ≤ prio) := by
      rw [State.advance_poundServed dt on hp]
      rintro (h | h | h)
      · cases h
      · omega
      · omega
    show execPoundWrite dt p slot prio data s = _
    rw [execPoundWrite]
    simp only [taken, if_false, finish]
  case spilled =>
    rw [← List.countP_eq_length_filter, ← length_onChip] at few
    rw [← List.countP_eq_length_filter]
    by_cases fits : (onChip es).length ≤ 32
    · rw [spill_eq, if_pos fits, ← length_onChip]
      exact fits
    · have := spill_shrinks (Nat.not_le.mp fits)
      rw [← length_onChip es] at this
      omega
  case read =>
    have now : ¬(headEmpty && (s.pound p).headEmpty) = true := by rwa [Bool.and_eq_true]
    rw [exec_poundRead dt headEmpty on hp, if_neg now, State.readOut]
    generalize (s.advance dt).readPound p = r at read ⊢
    obtain ⟨t, o⟩ := r
    cases read
    rfl
  case empty =>
    have head : (s.pound p).headEmpty = false := by rw [Pound.headEmpty, empty]
    rw [exec_poundRead dt headEmpty on hp, head, Bool.and_false, if_neg (by decide), State.readOut,
      State.readPound_empty ((congrArg Pound.entries (State.advance_pound s dt p)).trans empty), State.advance_pound]
    rfl
  case waits =>
    rw [exec_poundRead dt true on hp, away, if_pos (by decide)]
  case fetched =>
    have taken : ¬((s.advance dt).domOn 1 = false ∨ ((s.advance dt).pound p).fetching = false) := by
      rw [State.advance_domOn, on, State.advance_pound, fetching]
      decide
    show execSpillFetchDone dt p bad s = _
    rw [execSpillFetchDone]
    simp only [taken, if_false, finish]
    rw [State.advance_pound]
  case pin =>
    intro t x width
    have run : exec (.sluicePinUpdate dt pin) s = .next (State.ended s
        (if 8 ≤ pin ∨ t.domOn 1 = false ∨ x.pending = 0 ∨ x.level = 2 ∨ t.now < x.since + width then t
          else { t with net := { s.net with sluices := setAt s.net.sluices pin { level := 1 - x.level, since := t.now, pending := x.pending - 1 } } })) := by
      show execSluicePinUpdate dt pin s = _
      rw [execSluicePinUpdate, finish]
      simp only [t, x, width, sluiceRec, State.regTab, State.advance_net, State.advance_od]
    refine ⟨fun waits driven held => ?_, fun early => ?_⟩
    · rw [run, if_neg]
      rw [show t.domOn 1 = true from (State.advance_domOn ..).trans on]
      rintro (h | h | h | h | h)
      · omega
      · cases h
      · exact waits h
      · exact driven h
      · omega
    · rw [run, if_pos (.inr (.inr (.inr (.inr early))))]

end Sys2Proof.Machine

/-!
PROOFS. TICK_OUT, PPS_OUT and PPS_IN (R45, R113, R114).
-/
namespace Sys2Proof.Machine

/-! ## Signed registers (R50) -/

/-- A word of 32 bits holds a signed value that fits. -/
theorem toS_satS {v : Int} (low : -2147483648 ≤ v) (high : v ≤ 2147483647) : toS 32 (satS 32 v) = v := by
  have clamped : clampI (-((2 ^ (32 - 1) : Nat) : Int)) ((2 ^ (32 - 1) - 1 : Nat) : Int) v = v := by
    unfold clampI
    norm_num
    split_ifs <;> omega
  rw [satS, clamped, ofS, toS]
  norm_num
  split_ifs <;> omega

theorem clampI_mem {lo hi : Int} (h : lo ≤ hi) (v : Int) : lo ≤ clampI lo hi v ∧ clampI lo hi v ≤ hi := by
  unfold clampI
  split_ifs <;> omega

/-- Bounding a value to a range brings it no further from a point of the range. -/
theorem natAbs_clampI_sub_le {lo hi x : Int} (hlo : lo ≤ x) (hhi : x ≤ hi) (v : Int) : (clampI lo hi v - x).natAbs ≤ (v - x).natAbs := by
  unfold clampI
  split_ifs <;> omega

/-! ## Frequency (R94) -/

/-- A domain's frequency reads as it was set, within ±200,000 ppb. -/
theorem State.freq_setFreq (s : State) (d : Nat) (f : Int) : (s.setFreq d f).freq d = clampI (-200000) 200000 f := by
  obtain ⟨low, high⟩ := clampI_mem (lo := -200000) (hi := 200000) (by decide) f
  have set : (s.setFreq d f).reg (Od.ptpFreqAdj.inst d) = satS 32 (clampI (-200000) 200000 f) := by
    unfold State.setFreq
    extract_lets left rate kind t
    split_ifs <;> exact State.reg_setReg ..
  rw [State.freq, set, toS_satS (by omega) (by omega)]

/-- Setting a frequency leaves every other register, device time and the timeline. -/
theorem State.setFreq_keeps (s : State) (d : Nat) (f : Int) : (s.setFreq d f).now = s.now ∧ (s.setFreq d f).tl = s.tl ∧
    ∀ (r : OdRow) (i : Nat), r.key + i ≠ (Od.ptpFreqAdj.inst d).key → (s.setFreq d f).reg r i = s.reg r i := by
  unfold State.setFreq
  extract_lets left rate kind t
  have other (r : OdRow) (i : Nat) (h : r.key + i ≠ (Od.ptpFreqAdj.inst d).key) : t.reg r i = s.reg r i :=
    State.reg_setReg_ne s.settleSlew _ h
  split_ifs <;> exact ⟨rfl, rfl, other⟩

/-- The end of a command leaves a domain's frequency. -/
theorem ended_freq (s0 s : State) {d : Nat} (hd : d ≤ 1) : (State.ended s0 s).freq d = s.freq d := by
  rw [State.freq, State.freq]
  rcases Nat.le_one_iff_eq_zero_or_eq_one.mp hd with rfl | rfl
  · rw [ended_reg s0 s (Od.ptpFreqAdj.inst 0) 0 (by decide)]
  · rw [ended_reg s0 s (Od.ptpFreqAdj.inst 1) 0 (by decide)]

/-! ## PPS_IN (R113) -/

/-- What an edge of PPS_IN finds: its offset from the nearest whole second. -/
def State.ppsOffset (s : State) : Int :=
  let cap : Int := (s.now : Int) - (s.reg Od.ppsInDelay : Nat)
  cap - divRound cap 1000000000 * 1000000000

/-- The steering of HOLDOVER_ASSIST. -/
def State.ppsSteer (s : State) (off : Int) : State :=
  s.setFreq s.sel (clampI ((s.dom s.sel).holdFreq - ((s.reg Od.switchSlew * 1000 : Nat) : Int)) ((s.dom s.sel).holdFreq + ((s.reg Od.switchSlew * 1000 : Nat) : Int))
    (Config.servoFreq (-off) (s.reg (Od.ptpServoBw.inst s.sel)) (s.freq s.sel)))

/-- Counting the edge and noting its offset leaves the mode, the selection and the domains. -/
theorem noteEdge_keeps (s : State) (dt n : Nat) : let v := ((s.advance dt).count Od.ppsInEdges).setReg Od.ppsInOffset n
    v.reg Od.ppsInMode = s.reg Od.ppsInMode ∧ v.reg Od.switchSlew = s.reg Od.switchSlew ∧ v.sel = s.sel ∧ v.dom = s.dom := by
  have other {r : OdRow} (h : r.key + 0 ≠ Od.ppsInOffset.key + 0) (h' : r.key + 0 ≠ Od.ppsInEdges.key + 0) :
      (((s.advance dt).count Od.ppsInEdges).setReg Od.ppsInOffset n).reg r = s.reg r := by
    rw [State.reg_setReg_ne _ _ h, State.reg_count_ne _ _ h', State.advance_reg]
  refine ⟨other (by decide) (by decide), other (by decide) (by decide), other (by decide) (by decide), ?_⟩
  rw [State.advance_eq]
  rfl

theorem exec_ppsInEdge {s : State} {dt : Nat} {off : Int} (alive : s.alive = true) (hoff : (s.advance dt).ppsOffset = off) :
    exec (.ppsInEdge dt) s = .next (State.ended s
      (if s.reg Od.ppsInMode = 0 then s.advance dt
       else if 1000000 < off.natAbs then
         (((s.advance dt).count Od.ppsInEdges).count Od.ppsInFarCount).raise 0x2008 (natBE 4 (s.reg Od.ppsInOffset))
       else if s.reg Od.ppsInMode = 2 ∧ (s.dom s.sel).state = 4 then
         (((s.advance dt).count Od.ppsInEdges).setReg Od.ppsInOffset (satS 32 off)).ppsSteer off
       else ((s.advance dt).count Od.ppsInEdges).setReg Od.ppsInOffset (satS 32 off))) := by
  subst hoff
  have on : (s.advance dt).alive = true := (State.advance_alive ..).trans alive
  have mode (n : Nat) := (noteEdge_keeps s dt n).1
  have sel (n : Nat) := (noteEdge_keeps s dt n).2.2.1
  have dom (n : Nat) := (noteEdge_keeps s dt n).2.2.2
  have off : (s.advance dt).ppsOffset = ((s.advance dt).now : Int) - (s.reg Od.ppsInDelay : Nat) -
      divRound (((s.advance dt).now : Int) - (s.reg Od.ppsInDelay : Nat)) 1000000000 * 1000000000 := by
    simp only [State.ppsOffset, State.advance_reg]
  show execPpsInEdge dt s = _
  rw [execPpsInEdge]
  simp only [on, Bool.true_eq_false, or_false, finish, State.ppsSteer, off, mode, sel, dom, State.advance_reg,
    State.reg_count_ne _ _ (show Od.ppsInDelay.key + 0 ≠ Od.ppsInEdges.key + 0 by decide),
    State.reg_count_ne _ _ (show Od.ppsInOffset.key + 0 ≠ Od.ppsInEdges.key + 0 by decide)]
  rfl

/-- The steering stays within SWITCH_SLEW of the frequency HOLDOVER was entered with. -/
theorem State.freq_ppsSteer (s : State) (off : Int) (held : (s.dom s.sel).holdFreq.natAbs ≤ 200000) :
    ((s.ppsSteer off).freq s.sel - (s.dom s.sel).holdFreq).natAbs ≤ s.reg Od.switchSlew * 1000 := by
  rw [State.ppsSteer, State.freq_setFreq]
  obtain ⟨low, high⟩ := clampI_mem (lo := (s.dom s.sel).holdFreq - ((s.reg Od.switchSlew * 1000 : Nat) : Int))
    (hi := (s.dom s.sel).holdFreq + ((s.reg Od.switchSlew * 1000 : Nat) : Int)) (by omega)
    (Config.servoFreq (-off) (s.reg (Od.ptpServoBw.inst s.sel)) (s.freq s.sel))
  refine (natAbs_clampI_sub_le (by omega) (by omega) _).trans ?_
  omega

theorem ended_ppsSteer (s0 v : State) (off : Int) (sel : v.sel ≤ 1) (held : (v.dom v.sel).holdFreq.natAbs ≤ 200000) :
    (State.ended s0 (v.ppsSteer off)).reg Od.ppsInOffset = v.reg Od.ppsInOffset ∧ (State.ended s0 (v.ppsSteer off)).now = v.now ∧
      (State.ended s0 (v.ppsSteer off)).tl = v.tl ∧
      ((State.ended s0 (v.ppsSteer off)).freq v.sel - (v.dom v.sel).holdFreq).natAbs ≤ v.reg Od.switchSlew * 1000 := by
  obtain ⟨hnow, htl, hreg⟩ := State.setFreq_keeps v v.sel (clampI ((v.dom v.sel).holdFreq - ((v.reg Od.switchSlew * 1000 : Nat) : Int))
    ((v.dom v.sel).holdFreq + ((v.reg Od.switchSlew * 1000 : Nat) : Int)) (Config.servoFreq (-off) (v.reg (Od.ptpServoBw.inst v.sel)) (v.freq v.sel)))
  have other : Od.ppsInOffset.key + 0 ≠ (Od.ptpFreqAdj.inst v.sel).key := by
    rcases Nat.le_one_iff_eq_zero_or_eq_one.mp sel with h | h <;> rw [h] <;> decide
  refine ⟨?_, ?_, ?_, ?_⟩
  · rw [ended_reg _ _ _ _ (by decide)]
    exact hreg _ _ other
  · rw [State.now, ended_tm]
    exact hnow
  · rw [ended_tl]
    exact htl
  · rw [ended_freq _ _ sel]
    exact State.freq_ppsSteer v off held

/-- Settles O9: each pulse has one branch, and the steered rate is clamped around the frequency HOLDOVER was entered with. -/
theorem pulsesRiseFallAndAreCounted : Obligations.PulsesRiseFallAndAreCounted := by
  unfold Obligations.PulsesRiseFallAndAreCounted
  refine ⟨⟨fun s high => ?tickFall, fun s alive enabled => ?rise, fun s alive high => ?fall⟩, fun s dt alive => ?edge⟩
  case tickFall =>
    show execTickOutFall s = _
    rw [execTickOutFall, if_pos high, finish]
    rfl
  case rise =>
    intro t
    have run : exec .ppsOutRise s = .next (State.ended s
        (if s.timeLocked then { t with tm := { t.tm with ppsOut := 1, ppsOutEnd := t.now + s.reg Od.ppsOutWidth * 1000 } } else t.timePins)) := by
      show execPpsOutRise s = _
      rw [execPpsOutRise, if_neg (by rw [alive]; simp [enabled]), finish]
      rfl
    by_cases locked : s.timeLocked = true
    · rw [if_pos locked, run, if_pos locked]
    · rw [if_neg locked, run, if_neg locked]
      refine ⟨_, rfl, ?_, fun one => ?_⟩
      · rw [State.now, ended_tm]
        rfl
      · rw [ended_tm]
        show (if !(s.reg Od.ppsOutEn == 1) then 2 else if !s.timeLocked then 0 else if t.tm.ppsOut = 2 then 0 else t.tm.ppsOut) = 0
        simp [one, locked]
  case fall =>
    show execPpsOutFall s = _
    rw [execPpsOutFall, if_neg (by simp [high, alive]), finish]
  case edge =>
    intro t c off
    have found : t.ppsOffset = off := by simp only [State.ppsOffset, t, off, c, State.advance_reg]
    have run := exec_ppsInEdge alive found
    refine ⟨fun mode => ?_, fun mode far => ?_, fun mode near => ?_, fun mode near => ⟨fun other => ?_, fun holdover sel held => ?_⟩⟩
    · rw [run, if_pos mode]
    · rw [run, if_neg mode, if_pos far]
    · rw [run, if_neg (by omega), if_neg (by omega), if_neg (by omega)]
    · rw [run, if_neg (by omega), if_neg (by omega), if_neg (by tauto)]
    · rw [run, if_neg (by omega), if_neg (by omega), if_pos ⟨mode, holdover⟩]
      obtain ⟨-, rate, selected, doms⟩ := noteEdge_keeps s dt (satS 32 off)
      have steered := ended_ppsSteer s (((s.advance dt).count Od.ppsInEdges).setReg Od.ppsInOffset (satS 32 off)) off
      rw [rate, selected, doms, State.reg_setReg] at steered
      exact ⟨_, rfl, steered sel held⟩

end Sys2Proof.Machine

/-!
PROOFS. The end of a slew (R100) and the switch that SWITCH_AT asks for (R99).
-/
namespace Sys2Proof.Machine

/-! ## The end of a slew -/

/-- With no slew in progress and the offsets taken now, a domain's estimate is its offset. -/
theorem State.offNow_still {s : State} (slew : s.tm.slew = none) (at_ : s.tm.offAt = s.tm.now) (i : Nat) : s.offNow i = (s.dom i).off := by
  have drift : s.drift i = 0 := by simp [State.drift, State.now, at_]
  have moved : s.slewMoved = 0 := by rw [State.slewMoved, slew]
  simp [State.offNow, drift, moved]

/-- A slew settled leaves every domain's estimate as it runs. -/
theorem State.dom_settleSlew (s : State) {i : Nat} (h : i < s.tm.doms.length) : (s.settleSlew.dom i).off = s.offNow i := by
  simp [State.dom, State.settleSlew, h]

/-- By its end a slew has moved device time by all of its offset. -/
theorem slew_moves_all {n rate : Nat} (h : rate ≠ 0) : n ≤ ceilDiv (n * 1000000) rate * rate / 1000000 := by
  have up : n * 1000000 ≤ rate * ceilDiv (n * 1000000) rate := by
    rw [ceilDiv, ← Nat.ceilDiv_eq_add_pred_div]
    exact (ceilDiv_le_iff_le_mul (Nat.pos_of_ne_zero h)).mp le_rfl
  rw [Nat.le_div_iff_mul_le (by decide), Nat.mul_comm _ rate]
  exact up

theorem State.slewLeft_end {s : State} {start : Nat} {d : Int} (hs : s.tm.slew = some (start, d)) (hr : s.tm.slewRate ≠ 0) :
    (s.goTo (start + ceilDiv (d.natAbs * 1000000) s.tm.slewRate)).slewLeft = 0 := by
  set end_ := start + ceilDiv (d.natAbs * 1000000) s.tm.slewRate with hend
  have all : d.natAbs ≤ ((s.goTo end_).now - start) * s.tm.slewRate / 1000000 := by
    refine (slew_moves_all hr).trans (Nat.div_le_div_right (Nat.mul_le_mul_right _ ?_))
    show _ ≤ max s.tm.now end_ - start
    omega
  have slew : (s.goTo end_).tm.slew = some (start, d) := hs
  unfold State.slewLeft
  rw [slew]
  simp only []
  show (if 0 ≤ d then max 0 (d - (((s.goTo end_).now - start) * s.tm.slewRate / 1000000 : Nat))
    else min 0 (d + (((s.goTo end_).now - start) * s.tm.slewRate / 1000000 : Nat))) = (0 : Int)
  split_ifs <;> omega

/-! ## The registers a step of device time leaves (R97, R43) -/

/-- Registers that a step of device time may change: the counts of what it drops, TIME_SET, and what the end of a command changes. -/
def stepTouches (key : Nat) : Bool :=
  endTouches key || [Od.stepFlushed.key, Od.timeSet.key, Od.timeSteps.key, Od.timelineRestarts.key, Od.nonceGuards.key, Od.slotCheckFails.key].contains key

theorem stepTouches_ne {key : Nat} (hk : stepTouches key = false) : endTouches key = false ∧ key ≠ Od.stepFlushed.key + 0 ∧
    key ≠ Od.timeSet.key + 0 ∧ key ≠ Od.timeSteps.key + 0 ∧ key ≠ Od.timelineRestarts.key + 0 ∧ key ≠ Od.nonceGuards.key + 0 ∧
    key ≠ Od.slotCheckFails.key + 0 := by
  simpa [stepTouches] using hk

/-- The timeline stands, and of the registers all but those of `stepTouches`. -/
structure State.Rolls (s t : State) : Prop where
  tl : t.tl = s.tl
  num : ∀ key, stepTouches key = false → t.num? key = s.num? key

namespace State.Rolls
variable {s t u : State}

theorem refl (s : State) : s.Rolls s := ⟨rfl, fun _ _ => rfl⟩

theorem trans (h : s.Rolls t) (h' : t.Rolls u) : s.Rolls u := ⟨h'.tl.trans h.tl, fun key hk => (h'.num key hk).trans (h.num key hk)⟩

theorem after (h : t.Rolls u) (h' : s.Rolls t) : s.Rolls u := h'.trans h

theorem foldl {α : Type} {f : State → α → State} (h : ∀ s a, State.Rolls s (f s a)) (l : List α) (s : State) : s.Rolls (l.foldl f s) :=
  List.foldlRecOn (motive := s.Rolls) l f (refl s) fun t ht a _ => ht.trans (h t a)

theorem of_sends (h : s.Sends t) : s.Rolls t := ⟨h.tl, fun key hk => h.num key (stepTouches_ne hk).1⟩

/-- Only what is neither the timeline nor the OD server changes. -/
theorem of_eq (htl : t.tl = s.tl) (hod : t.od = s.od) : s.Rolls t := ⟨htl, fun key _ => by rw [State.num?, hod, State.num?]⟩

end State.Rolls

theorem State.rolls_setSeal (s : State) (x : Seal) : s.Rolls (s.setSeal x) := .of_eq rfl rfl
theorem State.rolls_setSlot (s : State) (i : Nat) (k : KeySlot) : s.Rolls (s.setSlot i k) := .of_eq rfl rfl
theorem State.rolls_raise (s : State) (c : Nat) (a : Bytes) : s.Rolls (s.raise c a) := .of_sends (State.sends_raise ..)

theorem State.rolls_invalidate (s : State) (i : Nat) (keeps : Bool) : s.Rolls (s.invalidate i keeps) :=
  .after (State.rolls_raise ..) (.of_eq rfl rfl)

theorem State.rolls_useSlot (s : State) (i : Nat) : s.Rolls (s.useSlot i).1 := by
  unfold State.useSlot
  extract_lets k t u
  split_ifs
  · exact .refl s
  · exact .refl s
  · refine .after (State.rolls_invalidate ..) (.after (State.rolls_raise ..) (.after ?_ (State.rolls_setSlot s i { k with state := 4 })))
    exact ⟨rfl, fun key hk => num?_setReg _ _ _ _ _ (stepTouches_ne hk).2.2.2.2.2.2⟩

theorem State.rolls_wrapSeal (s : State) (cfg : Store) (sec slot : Nat) : s.Rolls (s.wrapSeal cfg sec slot).1 := by
  unfold State.wrapSeal
  split
  · exact .refl s
  · rename_i m _
    have master := s.rolls_useSlot m
    split
    · rename_i t h
      rw [h] at master; exact master
    · rename_i t kek h
      rw [h] at master
      have child := t.rolls_useSlot slot
      split
      · rename_i u h'
        rw [h'] at child; exact master.trans child
      · rename_i u k h'
        rw [h'] at child; exact master.trans child

theorem State.rolls_offerTo (s : State) (cfg : Store) (n keyId : Nat) (slot : Option Nat) (sec : Nat) : s.Rolls (s.offerTo cfg n keyId slot sec) := by
  unfold State.offerTo
  split
  · exact .refl s
  · rename_i i
    have wrapped := s.rolls_wrapSeal cfg sec i
    split
    · rename_i t w h
      rw [h] at wrapped
      exact .after (.of_sends (State.sends_pumpParam ..)) ((show s.Rolls t from wrapped).trans (.of_eq rfl rfl))
    · rename_i t h
      rw [h] at wrapped; exact wrapped

theorem State.rolls_drawKey (s : State) : s.Rolls s.drawKey.1 := by
  unfold State.drawKey
  split_ifs <;> exact .of_eq rfl rfl

theorem State.rolls_drawSeal (s : State) (sec tmk : Nat) : s.Rolls (s.drawSeal sec tmk).1 := by
  unfold State.drawSeal
  extract_lets m clear t
  have cleared : s.Rolls t := State.Rolls.foldl (fun s i => s.rolls_setSlot i {}) clear s
  split
  · exact .refl s
  split
  · exact cleared
  · have drawn := t.rolls_drawKey
    split
    · rename_i u h
      rw [h] at drawn; exact cleared.trans drawn
    · rename_i u k h
      rw [h] at drawn
      exact .after (State.rolls_setSlot ..) (cleared.trans drawn)

theorem State.rolls_offerSeal (s : State) (x : Seal) (tmk frame : Nat) : s.Rolls (s.offerSeal x tmk frame).1 := by
  unfold State.offerSeal
  have drawn := s.rolls_drawSeal x.secNo tmk
  split
  · rename_i t i h
    rw [h] at drawn
    exact .after (State.rolls_setSeal ..) drawn
  · rename_i t h
    rw [h] at drawn
    simp only []
    split_ifs
    · exact .after (State.rolls_raise ..) (.after (State.rolls_setSeal ..) drawn)
    · exact .after (State.rolls_setSeal ..) drawn

theorem State.rolls_offerRoll (s : State) (cfg : Store) (sec frame : Nat) : s.Rolls (s.offerRoll cfg sec frame) := by
  unfold State.offerRoll
  split
  · rename_i x m _ _
    split
    · exact .refl s
    · have offered := s.rolls_offerSeal x m frame
      split
      · rename_i t h
        rw [h] at offered; exact offered
      · rename_i t h
        rw [h] at offered
        refine .after (State.Rolls.foldl (fun u n => ?_) _ t) offered
        simp only []
        split
        · exact State.rolls_offerTo ..
        · exact .refl u
  · exact .refl s

theorem State.rolls_startRoll (s : State) (cfg : Store) (sec frame : Nat) : s.Rolls (s.startRoll cfg sec frame) := by
  unfold State.startRoll
  split
  · exact .refl s
  split
  · exact .refl s
  · exact .after (State.rolls_offerRoll ..) (State.rolls_setSeal ..)

theorem State.rolls_nonceGuard (s : State) (cfg : Store) (next : Nat) : s.Rolls (s.nonceGuard cfg next) := by
  refine State.Rolls.foldl (fun t x => ?_) _ s
  split
  · split
    · refine .after (State.rolls_startRoll ..) (.after (State.rolls_raise ..) (.after ?_ (State.rolls_setSeal t { x with guarded := true, sealing := false })))
      exact ⟨rfl, fun key hk => num?_setReg _ _ _ _ _ (stepTouches_ne hk).2.2.2.2.2.1⟩
    · exact .refl t
  · exact .refl t

section
variable {key : Nat} (hk : stepTouches key = false)
include hk

omit hk in
theorem num?_of_nums {s t : State} (h : t.od.regs.nums = s.od.regs.nums) : t.num? key = s.num? key := congrArg (kvGet key) h

omit hk in
theorem num?_of_od {s t : State} (h : t.od = s.od) : t.num? key = s.num? key := by rw [State.num?, h, State.num?]

omit hk in
/-- Abandoning the frames and restarting the tick generator say nothing to the OD server. -/
theorem State.retick_od (s : State) : s.retick.od = s.od := by
  unfold State.retick State.reindex
  simp only []

omit hk in
theorem State.dropFrames_od (s : State) : s.dropFrames.od = s.od := rfl

theorem num?_restartTimeline (s : State) : s.restartTimeline.num? key = s.num? key := by
  unfold State.restartTimeline
  refine ((State.rolls_nonceGuard _ _ _).num key hk).trans ?_
  rw [num?_raise]
  simp only []
  have dropped : s.dropFrames.retick.od = s.od := (State.retick_od _).trans (State.dropFrames_od _)
  split
  · exact (num?_setReg _ _ _ _ _ (stepTouches_ne hk).2.2.2.2.1).trans (num?_of_od dropped)
  · exact num?_of_od dropped

theorem num?_flushTimed (s : State) : s.flushTimed.num? key = s.num? key := by
  refine num?_foldl key _ _ (fun t p hp => num?_foldl key _ _ (fun u q _ => ?_) t) s
  extract_lets n x gone credits y v
  split
  · rfl
  · refine (num?_foldl key _ _ (fun w e _ => num?_completeTx (stepTouches_ne hk).1 w p (List.mem_range.mp hp) _ _ (by decide)) _).trans ?_
    exact (num?_setReg _ _ _ _ _ (stepTouches_ne hk).2.1).trans (num?_watermark (stepTouches_ne hk).1 _ n)

theorem num?_stepTo (s : State) (d : Nat) (delta : Int) : (s.stepTo d delta).num? key = s.num? key := by
  unfold State.stepTo
  extract_lets was settled shift fix shifted moved stepped drawn told flushed
  have moved : drawn.num? key = s.num? key := num?_of_nums rfl
  have said : told.num? key = drawn.num? key :=
    (num?_setReg _ _ _ _ _ (stepTouches_ne hk).2.2.2.1).trans (num?_setReg _ _ _ _ _ (stepTouches_ne hk).2.2.1)
  have dropped : flushed.num? key = s.num? key := (num?_flushTimed hk told).trans (said.trans moved)
  split_ifs
  · exact (num?_restartTimeline hk flushed).trans dropped
  · exact (num?_of_od (State.retick_od flushed)).trans dropped

end

/-! ## The switch of SWITCH_AT -/

theorem stepTouches_reg {s t : State} (h : ∀ key, stepTouches key = false → t.num? key = s.num? key) {r : OdRow} {i : Nat}
    (hk : stepTouches (r.key + i) = false) : t.reg r i = s.reg r i := State.reg_eq_of_num?_eq (h _ hk)

/-- A switch selects the other domain and counts; of the other registers only those of a step of device time may change. -/
theorem State.switchTo_regs (s : State) (d : Nat) : (s.switchTo d).sel = d ∧
    (s.switchTo d).reg Od.switches = Od.switches.counted (s.reg Od.switches) 1 ∧ (s.switchTo d).reg Od.switchAt = s.reg Od.switchAt := by
  unfold State.switchTo
  extract_lets settled selected told off moved
  have journalled {r : OdRow} (h : r.key + 0 ≠ Od.select.key + 0) : selected.reg r = s.reg r :=
    (State.reg_eq_of_num?_eq (num?_noteJournal ..)).trans (State.reg_setReg_ne settled d h)
  have chosen : told.sel = d :=
    (State.reg_count_ne selected 1 (by decide)).trans ((State.reg_eq_of_num?_eq (num?_noteJournal ..)).trans (State.reg_setReg settled Od.select d 0))
  have counted : told.reg Od.switches = Od.switches.counted (s.reg Od.switches) 1 := by
    rw [← journalled (by decide)]
    exact State.reg_count selected Od.switches 1 0
  have kept : told.reg Od.switchAt = s.reg Od.switchAt := (State.reg_count_ne selected 1 (by decide)).trans (journalled (by decide))
  have stood (key : Nat) (hk : stepTouches key = false) : moved.num? key = told.num? key := by
    simp only [moved]
    split_ifs
    · exact num?_stepTo hk ..
    · unfold State.startSlew
      split_ifs <;> rfl
  refine ⟨?_, ?_, ?_⟩
  · exact (stepTouches_reg stood (r := Od.select) (i := 0) (by decide)).trans chosen
  · exact (stepTouches_reg stood (r := Od.switches) (i := 0) (by decide)).trans counted
  · exact (stepTouches_reg stood (r := Od.switchAt) (i := 0) (by decide)).trans kept

/-- Settles O10: at its end a slew has nothing left to move, and a switch leaves every register but those of a step of device time. -/
theorem switchesAndSlewsEnd : Obligations.SwitchesAndSlewsEnd := by
  unfold Obligations.SwitchesAndSlewsEnd
  refine ⟨fun s start d alive slew => ?done, fun s alive asked sel => ?switch⟩
  case done =>
    intro end_
    have run : exec .slewDone s = .next (State.ended s (s.goTo end_).settleSlew.offsetAb) := by
      show execSlewDone s = _
      rw [execSlewDone, slew]
      simp only [alive, Bool.true_eq_false, if_false, finish]
      rfl
    have tm := ended_tm s (s.goTo end_).settleSlew.offsetAb
    refine ⟨fun rate _ => State.slewLeft_end slew rate, _, run, ?_, ?_, ?_, fun i hi => ?_⟩
    · rw [State.now, ended_tm]; rfl
    · rw [ended_tm]; rfl
    · rw [State.slewLeft, ended_tm]; rfl
    · rw [State.offNow_still (by rw [tm]; rfl) (by rw [tm]; rfl), State.dom, tm]
      exact State.dom_settleSlew (s.goTo end_) hi
  case switch =>
    intro t
    have other : 1 - s.sel ≠ t.sel := by
      have : t.sel = s.sel := State.reg_setReg_ne _ _ (by decide)
      omega
    have run : exec .scheduledSwitch s = .next (State.ended s (t.trySwitch (1 - s.sel))) := by
      show execScheduledSwitch s = _
      rw [execScheduledSwitch]
      simp only [asked, alive, Bool.true_eq_false, or_false, if_false, finish]
      rfl
    have dom : t.dom = s.dom := rfl
    refine ⟨fun st => ?_, fun st => ⟨_, run, ?_⟩⟩
    · rw [run, State.trySwitch, if_neg other, dom, if_neg st]
    · obtain ⟨chosen, counted, kept⟩ := t.switchTo_regs (1 - s.sel)
      have switched : t.trySwitch (1 - s.sel) = t.switchTo (1 - s.sel) := by
        rw [State.trySwitch, if_neg other, dom, if_pos st]
      rw [switched, State.sel, ended_reg _ _ _ _ (by decide), ended_reg _ _ _ _ (by decide), ended_reg _ _ _ _ (by decide)]
      refine ⟨chosen, ?_, ?_⟩
      · rw [kept]
        exact State.reg_setReg ..
      · rw [counted]
        exact congrArg (fun n => Od.switches.counted n 1) (State.reg_setReg_ne _ _ (by decide))

end Sys2Proof.Machine

/-!
PROOFS. PTP messages (R90) and delay requests (R94, R107).
-/
namespace Sys2Proof.Machine

/-! ## The domain of a message -/

theorem State.advance_doms (s : State) (dt : Nat) : (s.advance dt).tm.doms = s.tm.doms := by rw [State.advance_eq]

/-- A message that reaches a domain changes nothing on its way; the domain is A or B. -/
theorem State.ptpFor_some {s t : State} {p num d : Nat} (h : s.ptpFor p num = (t, some d)) : t = s ∧ d < 2 := by
  unfold State.ptpFor at h
  simp only [] at h
  split at h
  · rename_i e found
    cases h
    have listed := List.mem_of_find?_eq_some found
    have either : d ∈ ([0, 1] : List Nat) := (List.mem_filter.mp listed).1
    refine ⟨rfl, ?_⟩
    rcases List.mem_pair.mp either with rfl | rfl <;> decide
  · split at h <;> cases h

/-- Settles O12: each message is handed to the domain its port and number reach, or counted where none is reached. -/
theorem ptpMessagesReachTheirDomain : Obligations.PtpMessagesReachTheirDomain := by
  unfold Obligations.PtpMessagesReachTheirDomain
  refine ⟨fun s dt p a on => ⟨fun t d reach => ?_, fun t reach => ?_⟩, fun s dt p m on => ⟨fun t d reach => ?_, fun t reach => ?_⟩,
    fun s dt p m on t d reach => ⟨?_, ?_, fun profile => ?_, fun profile => ?_⟩,
    fun s dt p num sender seq on t d reach => ⟨fun profile => ?_, fun profile => ?_⟩, fun s dt p num none d rest here => ?_⟩
  · show execPtpAnnounceRx dt p a s = _
    rw [execPtpAnnounceRx]
    simp only [on, Bool.true_eq_false, if_false, reach, finish]
  · show execPtpAnnounceRx dt p a s = _
    rw [execPtpAnnounceRx]
    simp only [on, Bool.true_eq_false, if_false, reach, finish]
  · show execPtpSyncRx dt p m s = _
    rw [execPtpSyncRx]
    simp only [on, Bool.true_eq_false, if_false, reach, finish]
  · show execPtpSyncRx dt p m s = _
    rw [execPtpSyncRx]
    simp only [on, Bool.true_eq_false, if_false, reach, finish]
  · show execPtpDelayRespRx dt p m s = _
    rw [execPtpDelayRespRx]
    simp only [on, Bool.true_eq_false, if_false, reach, finish]
  · show execPtpPdelayRespRx dt p m s = _
    rw [execPtpPdelayRespRx]
    simp only [on, Bool.true_eq_false, if_false, reach, finish]
  · obtain ⟨rfl, -⟩ := State.ptpFor_some reach
    unfold State.takeDelayResp
    rw [State.advance_reg, if_pos profile]
  · obtain ⟨rfl, -⟩ := State.ptpFor_some reach
    unfold State.takePdelayResp
    rw [State.advance_reg, if_pos profile]
  · obtain ⟨rfl, -⟩ := State.ptpFor_some reach
    show execPtpPdelayReqRx dt p num sender seq s = _
    rw [execPtpPdelayReqRx]
    simp only [on, Bool.true_eq_false, if_false, reach, State.advance_reg, ne_eq, profile, not_false_eq_true, if_true, finish]
  · obtain ⟨rfl, -⟩ := State.ptpFor_some reach
    have run : ∃ u, exec (.ptpPdelayReqRx dt p num sender seq) s = .next u ∧
        u.tm = ((s.advance dt).setDom d { (s.advance dt).dom d with respTo := some (sender, seq) }).tm := by
      show ∃ u, execPtpPdelayReqRx dt p num sender seq s = .next u ∧ _
      rw [execPtpPdelayReqRx]
      simp only [on, Bool.true_eq_false, if_false, reach, State.advance_reg, ne_eq, profile, not_true_eq_false, finish]
      exact ⟨_, rfl, (ended_tm ..).trans (State.sends_sendPtp ..).tm⟩
    obtain ⟨u, run, tm⟩ := run
    refine ⟨u, run, fun hd => ?_⟩
    rw [State.dom, tm, ← State.dom, State.dom_setDom (by rw [State.advance_doms]; exact hd)]
  · unfold State.ptpFor
    simp only [State.advance_reg, none, here]

/-! ## Delay requests -/

theorem State.setDom_ptpSeq (s : State) (d : Nat) (x : PtpDomain) : (s.setDom d x).tm.ptpSeq = s.tm.ptpSeq := by
  unfold State.setDom
  simp only []
  split_ifs <;> rfl

theorem State.setDom_tsq (s : State) (d : Nat) (x : PtpDomain) : (s.setDom d x).tm.tsq = s.tm.tsq := by
  unfold State.setDom
  simp only []
  split_ifs <;> rfl

theorem State.tsq_setTsq (s : State) (p : Nat) (l : List Bytes) : (s.setTsq p l).tsq p = l := by
  show kvGetD p [] (kvSet p l s.tm.tsq) = l
  rw [kvGetD, kvGet_kvSet]
  rfl

theorem State.setTsq_doms (s : State) (p : Nat) (l : List Bytes) : (s.setTsq p l).tm.doms = s.tm.doms := rfl

theorem State.advance_ptpSeq (s : State) (dt : Nat) : (s.advance dt).tm.ptpSeq = s.tm.ptpSeq := by rw [State.advance_eq]

/-- The next SEQ of Cloyr's PTP messages. -/
def State.nextPtpSeq (s : State) : State := { s with tm := { s.tm with ptpSeq := (s.tm.ptpSeq + 1) % 65536 } }

/-- A domain waits for the capture of its request, and then out its interval. -/
def State.asked (s : State) (d seq : Nat) : State :=
  s.setDom d { s.dom d with
    reqSeq := seq, reqTime := none, reqOpen := true, nextReq := s.now + s.reqInterval (s.dom d) (s.reg (Od.ptpProfile.inst d) == 2) }

/-- Settles O14: a request leaves with the next SEQ, and the oldest capture of the port's queue completes it. -/
theorem delayRequestsAreSentAndStamped : Obligations.DelayRequestsAreSentAndStamped := by
  unfold Obligations.DelayRequestsAreSentAndStamped
  refine ⟨fun s dt d hd hlen enabled on master due => ?sent, fun s dt p d e rest hp alive queue hd hlen tag waits => ?stamped⟩
  case sent =>
    have dom : (s.advance dt).dom d = s.dom d := by rw [State.dom, State.advance_doms, State.dom]
    rw [← dom] at enabled master due
    have usable : ¬(1 < d ∨ ((s.advance dt).dom d).state = 0 ∨ (s.advance dt).domOn (portDomain ((s.advance dt).reg (Od.ptpPort.inst d))) = false) := by
      rw [State.advance_reg, on]
      rintro (h | h | h)
      · omega
      · exact enabled h
      · cases h
    have ready : ¬(((s.advance dt).reg (Od.ptpProfile.inst d) == 2) = false ∧ ((s.advance dt).dom d).chosen.isNone = true ∨
        (s.advance dt).now < ((s.advance dt).dom d).nextReq) := by
      rw [State.advance_reg]
      rintro (⟨h, h'⟩ | h)
      · rcases master with m | m
        · rw [m] at h; cases h
        · rw [Option.isNone_iff_eq_none] at h'
          rw [h'] at m; cases m
      · omega
    have run : ∃ u, exec (.delayReqSend dt d) s = .next u ∧ u.tm = ((s.advance dt).nextPtpSeq.asked d s.tm.ptpSeq).tm := by
      show ∃ u, execDelayReqSend dt d s = .next u ∧ _
      rw [execDelayReqSend]
      simp only [usable, if_false, ready, finish]
      rw [← State.advance_ptpSeq s dt]
      exact ⟨_, rfl, (ended_tm ..).trans (State.sends_sendPtp ..).tm⟩
    obtain ⟨u, run, tm⟩ := run
    have here : d < (s.advance dt).nextPtpSeq.tm.doms.length := (congrArg List.length (State.advance_doms s dt)).symm ▸ hlen
    refine ⟨u, run, ?_, ?_, ?_⟩
    · rw [State.dom, tm, ← State.dom, State.asked, State.dom_setDom here]
    · rw [State.dom, tm, ← State.dom, State.asked, State.dom_setDom here]
    · rw [tm, State.asked, State.setDom_ptpSeq, State.nextPtpSeq, State.advance_ptpSeq]
  case stamped =>
    have queued : (s.advance dt).tsq p = e :: rest := by
      rw [State.tsq, State.advance_eq]
      exact queue
    have dom : ((s.advance dt).setTsq p rest).dom d = s.dom d := by rw [State.dom, State.setTsq_doms, State.advance_doms, State.dom]
    have own : isEchoTag (0xF000 + d) = false := by
      interval_cases d <;> decide
    have either : 0xF000 + d = 0xF000 ∨ 0xF000 + d = 0xF001 := by omega
    have run : exec (.tsqEntryDeliver dt p) s = .next (State.ended s
        (((s.advance dt).setTsq p rest).setDom d { s.dom d with reqTime := some (captureNs (slice e 4 12)) })) := by
      show execTsqEntryDeliver dt p s = _
      rw [execTsqEntryDeliver]
      simp only [State.advance_alive, alive, Bool.true_eq_false, or_false, show ¬ 26 ≤ p by omega, if_false, queued, tag, own, Bool.false_eq_true, either, if_true,
        Nat.add_sub_cancel_left, dom, waits, finish]
    refine ⟨_, run, ?_, ?_⟩
    · rw [State.tsq, ended_tm, State.setDom_tsq, ← State.tsq, State.tsq_setTsq]
    · rw [State.dom, ended_tm, ← State.dom, State.dom_setDom (by rw [State.setTsq_doms, State.advance_doms]; exact hlen)]

end Sys2Proof.Machine

/-!
PROOFS. Ticks and the start of the timeline (R42, R44, R46), decisions and launches at their instants (R29, R31).
-/
namespace Sys2Proof.Machine

/-! ## Missed ticks -/

theorem inTime_eq_filter (ack : Option Nat) : inTime ack = ack.filter fun d => decide (d ≤ 100000) := by
  cases ack with
  | none => rfl
  | some d =>
    by_cases h : d ≤ 100000
    · simp [inTime, Option.filter, h]
    · simp [inTime, Option.filter, h]

theorem State.settleMiss_none {s : State} (h : s.tl.awaitAck = none) : s.settleMiss = s := by rw [State.settleMiss, h]

/-- Giving up the towpath leaves time and timeline. -/
theorem State.towRelease_keeps (s : State) (to_ cause : Nat) : (s.towRelease to_ cause).tm = s.tm ∧ (s.towRelease to_ cause).tl = s.tl := by
  unfold State.towRelease
  split
  · exact ⟨rfl, rfl⟩
  · exact ⟨rfl, rfl⟩

/-- The AO count of missed ticks leaves time and timeline, and outside ACTIVE every register. -/
theorem State.countMissed_keeps (s : State) : s.countMissed.tm = s.tm ∧ s.countMissed.tl = s.tl ∧ (s.tow.state ≠ 3 → s.countMissed.od = s.od) := by
  unfold State.countMissed
  extract_lets held t u
  split_ifs with h drop
  · exact ⟨rfl, rfl, fun _ => rfl⟩
  · obtain ⟨htm, htl⟩ := State.towRelease_keeps (u.count Od.wdDrops) 1 2
    refine ⟨htm, htl, fun idle => absurd ?_ idle⟩
    simpa using (Bool.and_eq_true_iff.mp drop).1
  · exact ⟨rfl, rfl, fun _ => rfl⟩

theorem State.missTick_keeps (s : State) (rate k : Nat) : (s.missTick rate k).tm = s.tm ∧ (s.missTick rate k).tl.awaitAck = none := by
  unfold State.missTick
  extract_lets _ t u _ v
  obtain ⟨htm, htl, -⟩ := v.countMissed_keeps
  rw [htm, htl]
  have kept : u.tm = s.tm ∧ u.tl.awaitAck = none := by
    simp only [u]
    split_ifs <;> exact ⟨rfl, rfl⟩
  exact kept

/-- While the timeline runs a missed tick counts in both counters; only an ACTIVE unit counts further. -/
theorem State.missTick_counts {s : State} (running : s.running = true) (idle : s.tow.state ≠ 3) (rate k : Nat) :
    (s.missTick rate k).reg Od.missedRun = Od.missedRun.counted (s.reg Od.missedRun) 1 ∧
      (s.missTick rate k).reg Od.missedTicks = Od.missedTicks.counted (s.reg Od.missedTicks) 1 := by
  unfold State.missTick
  extract_lets _ t u _ v
  obtain ⟨-, -, hod⟩ := v.countMissed_keeps
  have missed : u = t.missFrames rate k := by
    exact if_pos running
  have idle : v.tow.state ≠ 3 := by
    show u.tow.state ≠ 3
    rw [missed]
    exact idle
  have reg (r : OdRow) : v.countMissed.reg r = (t.missFrames rate k).reg r := by
    rw [State.reg, hod idle, ← missed]
    rfl
  rw [reg, reg]
  refine ⟨?_, ?_⟩
  · refine (State.reg_count ..).trans ?_
    exact congrArg (fun n => Od.missedRun.counted n 1) (State.reg_count_ne _ 1 (by decide))
  · exact (State.reg_count_ne _ 1 (by decide)).trans (State.reg_count ..)

/-! ## The start of the timeline (R44) -/

/-- The start sets the timeline's registers and its first frame; what follows only guards the seals' nonces. -/
theorem State.startTimeline_rolls {s : State} (set : s.tl.startFrame = none) :
    ∃ v : State, v.Rolls s.startTimeline ∧ v.od = ((s.setReg Od.timelineState 1).setReg Od.holds 0).od ∧
      v.tl = { s.tl with
        outs := [], frames := [], anyShown := false, invalid := false, startFrame := none
        first := tickFrom s.tl.rate (s.now + s.reg Od.commitCutoff * 1000 + 1)
        nextCut := tickFrom s.tl.rate (s.now + s.reg Od.commitCutoff * 1000 + 1) } := by
  unfold State.startTimeline
  rw [set]
  simp only []
  refine ⟨_, State.rolls_nonceGuard .., ?_, ?_⟩
  · exact (apply_ite State.od _ _ _).trans ((ite_congr rfl (fun _ => rfl) fun _ => rfl).trans (ite_self _))
  · exact (apply_ite State.tl _ _ _).trans ((ite_congr rfl (fun _ => rfl) fun _ => rfl).trans (ite_self _))

theorem State.startTimeline_fields {s : State} (set : s.tl.startFrame = none) :
    let first := tickFrom s.tl.rate (s.now + s.reg Od.commitCutoff * 1000 + 1)
    s.startTimeline.reg Od.timelineState = 1 ∧ s.startTimeline.reg Od.holds = 0 ∧ s.startTimeline.tl.first = first ∧
      s.startTimeline.tl.nextCut = first ∧ s.startTimeline.tl.frames = [] := by
  obtain ⟨v, rolled, od, tl⟩ := State.startTimeline_rolls set
  have kept {r : OdRow} (hk : stepTouches (r.key + 0) = false) :
      s.startTimeline.reg r = ((s.setReg Od.timelineState 1).setReg Od.holds 0).reg r := by
    rw [State.reg_eq_of_num?_eq (rolled.num _ hk), State.reg, od, State.reg]
  rw [rolled.tl, tl, kept (by decide), kept (by decide)]
  exact ⟨(State.reg_setReg_ne _ 0 (by decide)).trans (State.reg_setReg ..), State.reg_setReg .., rfl, rfl, rfl⟩

/-- Settles O15: a tick by the state of the miss before it, the miss itself, and the start at the first cut-off that lies ahead. -/
theorem ticksAndTheTimelineStart : Obligations.TicksAndTheTimelineStart := by
  unfold Obligations.TicksAndTheTimelineStart
  refine ⟨fun s ack alive idle => ⟨fun none => ?_, fun g due => ?_⟩, fun s rate k alive waits => ?_, fun s dt may set => ?_⟩
  · show execTick ack s = _
    rw [execTick]
    simp only [alive, Bool.true_eq_false, if_false, State.settleMiss_none idle, none, inTime_eq_filter, finish]
  · show execTick ack s = _
    rw [execTick]
    simp only [alive, Bool.true_eq_false, if_false, State.settleMiss_none idle, due, inTime_eq_filter, finish]
  · have run : exec .tickMissed s = .next (State.ended s ((s.goTo (tickTime rate k + 100000)).missTick rate k)) := by
      show execTickMissed s = _
      rw [execTickMissed, if_pos alive, State.settleMiss, waits, finish]
    obtain ⟨htm, hack⟩ := State.missTick_keeps (s.goTo (tickTime rate k + 100000)) rate k
    refine ⟨_, run, ?_, ?_, fun running idle => ?_⟩
    · rw [ended_tl, hack]
    · rw [State.now, ended_tm, htm]
      rfl
    · obtain ⟨hrun, hticks⟩ := State.missTick_counts (s := s.goTo (tickTime rate k + 100000)) running idle rate k
      rw [ended_reg _ _ _ _ (by decide), ended_reg _ _ _ _ (by decide)]
      exact ⟨hrun, hticks⟩
  · have run : exec (.timelineStart dt) s = .next (State.ended s (s.advance dt).startTimeline) := by
      show execTimelineStart dt s = _
      rw [execTimelineStart]
      simp only [may, if_true, finish]
    obtain ⟨hstate, hholds, hfirst, hcut, hframes⟩ := State.startTimeline_fields (s := s.advance dt) (by rw [State.advance_tl, set])
    rw [State.advance_tl, State.advance_reg] at hfirst hcut
    refine ⟨_, run, ?_, ?_, ?_, ?_, ?_⟩
    · rw [ended_reg _ _ _ _ (by decide), hstate]
    · rw [ended_reg _ _ _ _ (by decide), hholds]
    · rw [ended_tl, hfirst]
    · rw [ended_tl, hcut, hfirst]
    · rw [ended_tl, hframes]

/-! ## Decisions and launches -/

/-- The earliest closed frame in which an output is undecided (R29). -/
def State.undecided (s : State) (o : Out) : Option Frame :=
  s.tl.frames.find? fun f => f.closed && (match f.out? o with | some x => x.decision == 0 | none => false)

/-- The earliest frame in which an output is decided and has not launched (R31). -/
def State.decided (s : State) (o : Out) : Option Frame :=
  s.tl.frames.find? fun f => match f.out? o with | some x => x.decision == 1 || x.decision == 2 | none => false

theorem exec_holdDecision {s : State} {o : Out} {f : Frame} {x : OutFrame} (on : s.domOn 1 = true) (first : s.undecided o = some f)
    (out : f.out? o = some x) :
    exec (.holdDecision o) s = .next (State.ended s ((s.goTo (f.launchAt x - s.reg Od.launchGuard * 1000)).decide_ f o)) := by
  show finish s (match s.undecided o with
    | none => s
    | some f => match f.out? o with
      | none => s
      | some x => if s.domOn 1 then (s.goTo (f.launchAt x - s.reg Od.launchGuard * 1000)).decide_ f o else s) = _
  simp only [first, out, on, if_true, finish]

theorem exec_outputLaunch {s : State} {o : Out} {f : Frame} {x : OutFrame} (on : s.domOn 1 = true) (first : s.decided o = some f)
    (out : f.out? o = some x) : exec (.outputLaunch o) s = .next (State.ended s ((s.goTo (f.launchAt x)).atLaunch f x)) := by
  show finish s (match s.decided o with
    | none => s
    | some f => match f.out? o with
      | none => s
      | some x => if s.domOn 1 then (s.goTo (f.launchAt x)).atLaunch f x else s) = _
  simp only [first, out, on, if_true, finish]

/-- Settles O17: each instant is that of the earliest frame in which the output is undecided, or decided. -/
theorem decisionsAndLaunchesAtTheirInstants : Obligations.DecisionsAndLaunchesAtTheirInstants :=
  ⟨fun _ _ _ _ on first out => exec_holdDecision on first out, fun _ _ _ _ on first out => exec_outputLaunch on first out⟩

end Sys2Proof.Machine

/-!
PROOFS. Writes of one entry that act at once (R99, R199, R213, R306, R334, R365, R398, R401–R403, R449, R452, R464).
-/
namespace Sys2Proof.Machine

/-! ## Accepted writes -/

/-- An accepted write of an entry of access RW or W is answered with what its entry does. -/
theorem State.request_write {s : State} {dt i : Nat} {r : Req} {row : OdRow} {v : Bytes} {bulk : Bool} (x : row.acc ≠ .x) (rws : row.acc ≠ .rws)
    (hi : i < row.n) (found : Od.find (row.key + i) = some (row, i)) (h : s.takes r.src r.seq = true)
    (ha : (s.served dt).accepts r (row.item i v) bulk) :
    s.request dt r (row.item i v) bulk = answered r (row.item i v)
      ((s.served dt).runWrite (s.portClass r.src.port) r (row.key + i) (itemVal row (row.item i v)) v) := by
  rw [State.request_accepted h ha, State.runItem_item (State.takes_running h dt) hi found, if_neg x, if_neg rws]

section
variable {s : State} {dt : Nat} {r : Req} (h : s.takes r.src r.seq = true)
include h

/-- An X entry's command, with its argument in 8 bytes. -/
theorem finish_command {row : OdRow} {n : Nat} (x : row.acc = .x) (hn : 0 < row.n) (found : Od.find row.key = some (row, 0))
    (fits : n < 256 ^ row.len) (ha : (s.served dt).accepts r (row.numItem 0 n)) :
    finish s (s.request dt r (row.numItem 0 n)) =
      .next (State.ended s (answered r (row.numItem 0 n) ((s.served dt).runCommand (s.portClass r.src.port) r row.key n))) := by
  rw [State.request_command x hn found h ha, Nat.mod_eq_of_lt fits, finish]

/-- A number that stands in its row's length. -/
theorem finish_number {row : OdRow} {n : Nat} (x : row.acc ≠ .x) (rws : row.acc ≠ .rws) (hn : 0 < row.n)
    (found : Od.find (row.key + 0) = some (row, 0)) (ha : (s.served dt).accepts r (row.numItem 0 n)) :
    finish s (s.request dt r (row.numItem 0 n)) = .next (State.ended s (answered r (row.numItem 0 n)
      ((s.served dt).runWrite (s.portClass r.src.port) r (row.key + 0) (itemVal row (row.numItem 0 n)) (natBE row.len n)))) := by
  rw [State.request_number x rws hn found h ha, finish]

theorem finish_write {row : OdRow} {i : Nat} {v : Bytes} {bulk : Bool} (x : row.acc ≠ .x) (rws : row.acc ≠ .rws) (hi : i < row.n)
    (found : Od.find (row.key + i) = some (row, i)) (ha : (s.served dt).accepts r (row.item i v) bulk) :
    finish s (s.request dt r (row.item i v) bulk) = .next (State.ended s (answered r (row.item i v)
      ((s.served dt).runWrite (s.portClass r.src.port) r (row.key + i) (itemVal row (row.item i v)) v))) := by
  rw [State.request_write x rws hi found h ha, finish]

end

/-! ## Time, cells, trim and power -/

theorem State.writeCellRetire_eq {s : State} {c : Nat} (h : c < 136) :
    s.writeCellRetire c = effOk (if (s.cell c).state ≤ 1 then s.retireCell c 2 else s) := by
  unfold State.writeCellRetire
  rw [if_neg (by omega)]
  split_ifs <;> rfl

theorem State.writeCellRestore_eq {s : State} {c : Nat} (h : c < 136) :
    s.writeCellRestore c = effOk (if 2 ≤ (s.cell c).state then s.setCell c { s.cell c with restore := true } else s) := by
  unfold State.writeCellRestore
  rw [if_neg (by omega)]
  split_ifs <;> rfl

theorem State.runWrite_switchAt (s : State) (cls : Nat) (r : Req) (v : OdVal) (raw : Bytes) :
    s.runWrite cls r (Od.switchAt.key + 0) v raw = s.writeSwitchAt (beNat raw) := by
  unfold State.runWrite
  rw [if_neg (by decide), if_neg (by decide), if_neg (by decide), if_neg (by decide), if_neg (by decide), if_pos (by decide)]

theorem State.writeSwitchAt_refused {s : State} {time : Nat} (set : time ≠ 0)
    (far : nsOfTime time < s.now ∨ s.now + 86400000000000 < nsOfTime time) : s.writeSwitchAt time = effNo s stRange := by
  unfold State.writeSwitchAt
  rw [if_neg set, if_pos far]

theorem State.writeSwitchAt_taken {s : State} {time : Nat}
    (near : ¬(time ≠ 0 ∧ (nsOfTime time < s.now ∨ s.now + 86400000000000 < nsOfTime time))) :
    s.writeSwitchAt time = effOk (s.setReg Od.switchAt time) := by
  unfold State.writeSwitchAt
  by_cases zero : time = 0
  · rw [if_pos zero, zero]
  · rw [if_neg zero, if_neg fun far => near ⟨zero, far⟩]

theorem State.writeRestart_running {s : State} (warm : s.pwr.warmLow = false) (h : s.pwr.state = 2 ∨ s.pwr.state = 3 ∨ s.pwr.state = 4) :
    s.writeRestart = effOk (s.warmStart 7) := by
  unfold State.writeRestart
  rw [if_neg, if_neg (by omega)]
  rw [warm]
  rintro (h | h | h | h)
  · omega
  · omega
  · cases h
  · omega

/-- Settles O42: each write reaches its own branch of the entries that act, whose meaning is then one equation. -/
theorem writesOfTimeCellsTrimAndPowerAct : Obligations.WritesOfTimeCellsTrimAndPowerAct := by
  unfold Obligations.WritesOfTimeCellsTrimAndPowerAct
  intro s dt r h u done
  refine ⟨fun v fits ha => ?select, fun time fits ha => ?switchAt, fun ha => ?dither, fun value ha => ?ledger, fun cell fits ha => ?retire,
    fun cell fits ha => ?restore, fun ha => ?trimT, fun tag fits ha => ?trimA, fun tag busy => ?busy, fun ha warm st => ?restart⟩
  case select =>
    refine (finish_number h (by decide) (by decide) (by decide) (by decide +kernel) ha).trans ?_
    show Host.Outcome.next (State.ended s (answered r _ (effOk (u.writeSelect (beNat (natBE Od.select.len v)))))) = _
    rw [beNat_natBE, Nat.mod_eq_of_lt fits]
    rfl
  case switchAt =>
    refine (finish_number h (by decide) (by decide) (by decide) (by decide +kernel) ha).trans ?_
    rw [State.runWrite_switchAt, beNat_natBE, Nat.mod_eq_of_lt fits]
    split_ifs with late
    · rw [State.writeSwitchAt_refused late.1 late.2]
    · rw [State.writeSwitchAt_taken late]
  case dither =>
    refine (finish_command h rfl (by decide) (by decide +kernel) (Nat.pow_pos (by decide)) ha).trans ?_
    rfl
  case ledger =>
    refine (finish_write h (by decide) (by decide) (by decide) (by decide +kernel) ha).trans ?_
    rfl
  case retire =>
    refine (finish_command h rfl (by decide) (by decide +kernel) (fits.trans (by norm_num [Od.cellRetire, Od.cellRestore])) ha).trans ?_
    show Host.Outcome.next (State.ended s (answered r _ (u.writeCellRetire cell))) = _
    rw [State.writeCellRetire_eq fits]
  case restore =>
    refine (finish_command h rfl (by decide) (by decide +kernel) (fits.trans (by norm_num [Od.cellRetire, Od.cellRestore])) ha).trans ?_
    show Host.Outcome.next (State.ended s (answered r _ (u.writeCellRestore cell))) = _
    rw [State.writeCellRestore_eq fits]
  case trimT =>
    refine (finish_command h rfl (by decide) (by decide +kernel) (Nat.pow_pos (by decide)) ha).trans ?_
    rfl
  case trimA =>
    refine (finish_command h rfl (by decide) (by decide +kernel) fits ha).trans ?_
    rfl
  case busy =>
    unfold State.trimARun
    rw [if_pos busy]
    rfl
  case restart =>
    refine (finish_command h rfl (by decide) (by decide +kernel) (Nat.pow_pos (by decide)) ha).trans ?_
    show Host.Outcome.next (State.ended s (answered r _ u.writeRestart)) = _
    rw [State.writeRestart_running warm (by rw [State.served_pwr]; exact st)]

end Sys2Proof.Machine

/-!
PROOFS. Writes of the link, the lamp ports, the strings and the raster (R306, R334, R351, R365, R366), and of the towpath (R398, R401–R403).
-/
namespace Sys2Proof.Machine

/-! ## What each entry does -/

section
variable (s : State) (cls : Nat) (r : Req)

theorem State.runCommand_sealRollNow (n : Nat) : s.runCommand cls r Od.sealRollNow.key n = s.sealRoll n := by
  unfold State.runCommand
  rw [if_neg (by decide), if_neg (by decide), if_neg (by decide), if_neg (by decide), if_neg (by decide), if_neg (by decide), if_pos (by decide)]

theorem State.runCommand_towCommand (n : Nat) : s.runCommand cls r Od.towCommand.key n = s.towCommand n := by
  unfold State.runCommand
  rw [if_neg (by decide), if_neg (by decide), if_neg (by decide), if_neg (by decide), if_neg (by decide), if_neg (by decide), if_neg (by decide),
    if_neg (by decide), if_pos (by decide)]

/-- RDM_QUEUE stands after the entries that runWrite names before it and past the end of its own 48. -/
theorem State.runWrite_rdmQueue {p : Nat} (hp : p < 48) (v : OdVal) (raw : Bytes) :
    s.runWrite cls r (Od.rdmQueue.key + p) v raw = s.writeRdmQueue p raw := by
  have other {row : OdRow} (h : row.key < Od.rdmQueue.key ∨ Od.rdmQueue.key + 48 ≤ row.key) : ¬ Od.rdmQueue.key + p = row.key := by omega
  have own : Od.rdmQueue.holds (Od.rdmQueue.key + p) = true := by
    rw [OdRow.holds, Bool.and_eq_true, decide_eq_true_eq, decide_eq_true_eq]
    exact ⟨Nat.le_add_right .., Nat.add_lt_add_left hp _⟩
  unfold State.runWrite
  rw [if_neg (other (by decide)), if_neg (other (by decide)), if_neg (other (by decide)), if_neg (other (by decide)), if_neg (other (by decide)),
    if_neg (other (by decide)), if_neg (other (by decide)), if_neg (other (by decide)), if_neg (other (by decide)), if_neg (other (by decide)),
    if_neg (other (by decide)), if_neg (other (by decide)), if_neg (other (by decide)), if_neg (other (by decide)), if_pos own,
    Nat.add_sub_cancel_left]

end

theorem find_rdmQueue {p : Nat} (hp : p < 48) : Od.find (Od.rdmQueue.key + p) = some (Od.rdmQueue, p) := by
  have all : ∀ p < 48, Od.find (Od.rdmQueue.key + p) = some (Od.rdmQueue, p) := by decide +kernel
  exact all p hp

/-! ## The raster's shadow -/

theorem State.writeRsCommit_zero (s : State) : s.writeRsCommit 0 = (s.setReg Od.rsCommit 0, stOk, none) := rfl

theorem State.writeRsCommit_one (s : State) : s.writeRsCommit 1 =
    if rsCommitOk s.rsShadow.1 s.rsShadow.2 s.tl.rate (s.cfg Od.stillArea * 1048576) then effOk (s.setReg Od.rsCommit 1) else effNo s stRange := by
  unfold State.writeRsCommit
  generalize s.rsShadow = shadow
  obtain ⟨timing, scan⟩ := shadow
  exact if_neg (by decide)

/-- Settles O43: each write reaches its own branch of the entries that act, whose meaning is then one equation. -/
theorem writesOfLinkLampStringsAndRasterAct : Obligations.WritesOfLinkLampStringsAndRasterAct := by
  unfold Obligations.WritesOfLinkLampStringsAndRasterAct
  intro s dt r h u done
  refine ⟨fun n fits ha => ?sealRoll, fun sec n k found rolling => ?rolling, fun p value hp ha => ?rdm, fun g fits ha => ?sense,
    fun value hl ha => ?timing, fun value hl ha => ?scan, fun v fits ha => ?commit, State.writeRsCommit_zero u, fun bad => ?bad, fun ok => ?ok⟩
  case sealRoll =>
    refine (finish_command h rfl (by decide) (by decide +kernel) fits ha).trans ?_
    rw [State.runCommand_sealRollNow]
    rfl
  case rolling =>
    unfold State.startRoll
    rw [found]
    exact if_pos rolling
  case rdm =>
    refine (finish_write h (by decide) (by decide) hp (find_rdmQueue hp) ha).trans ?_
    rw [State.runWrite_rdmQueue _ _ _ hp]
    rfl
  case sense =>
    refine (finish_command h rfl (by decide) (by decide +kernel) fits ha).trans ?_
    rfl
  case timing =>
    refine (finish_write h (by decide) (by decide) (by decide) (by decide +kernel) ha).trans ?_
    rfl
  case scan =>
    refine (finish_write h (by decide) (by decide) (by decide) (by decide +kernel) ha).trans ?_
    rfl
  case commit =>
    refine (finish_number h (by decide) (by decide) (by decide) (by decide +kernel) ha).trans ?_
    show Host.Outcome.next (State.ended s (answered r _ (u.writeRsCommit (beNat (natBE Od.rsCommit.len v))))) = _
    rw [beNat_natBE, Nat.mod_eq_of_lt fits]
  case bad =>
    rw [State.writeRsCommit_one, bad]
    rfl
  case ok =>
    rw [State.writeRsCommit_one, ok]
    rfl

/-! ## The towpath -/

/-- Settles O44: each code of TOW_COMMAND is one row of R398's table; the partner's writes go by the mirror's rules. -/
theorem towpathCommandsFollowTheirTable : Obligations.TowpathCommandsFollowTheirTable := by
  unfold Obligations.TowpathCommandsFollowTheirTable
  intro s dt r h u done
  have command {n : Nat} (fits : n < 256 ^ Od.towCommand.len) (ha : u.accepts r (Od.towCommand.numItem 0 n)) :
      finish s (s.request dt r (Od.towCommand.numItem 0 n)) = .next (State.ended s (answered r (Od.towCommand.numItem 0 n) (u.towCommand n))) := by
    rw [finish_command h rfl (by decide) (by decide +kernel) fits ha, State.runCommand_towCommand]
  refine ⟨fun ha => ?acquire, fun ha => ?release, fun ha => ?handover, fun ha => ?clear, fun b hl ha => ?beacon, fun b hl ha => ?small,
    fun b ha => ?table⟩
  case acquire =>
    exact command (by norm_num [Od.towCommand]) ha
  case release =>
    refine (command (by norm_num [Od.towCommand]) ha).trans ?_
    show Host.Outcome.next (State.ended s (answered r _ u.cmdRelease)) = _
    by_cases active : u.tow.state = 3
    · rw [State.cmdRelease, if_pos active, if_pos active, State.towRelease, if_neg (not_not.mpr active)]
      rfl
    · rw [State.cmdRelease, if_neg active, if_neg active]
  case handover =>
    exact command (by norm_num [Od.towCommand]) ha
  case clear =>
    exact command (by norm_num [Od.towCommand]) ha
  case beacon =>
    refine (finish_write h (by decide) (by decide) (by decide) (by decide +kernel) ha).trans ?_
    show Host.Outcome.next (State.ended s (answered r _ (u.takeBeacon r.src b))) = _
    split_ifs with other
    · unfold State.takeBeacon
      rw [if_pos other]
      rfl
    · rfl
  case small =>
    refine (finish_write h (by decide) (by decide) (by decide) (by decide +kernel) ha).trans ?_
    show Host.Outcome.next (State.ended s (answered r _ (u.takeSmall r.src b))) = _
    unfold State.takeSmall
    split_ifs with other
    · rfl
    · rfl
  case table =>
    refine (finish_write h (by decide) (by decide) (by decide) (by decide +kernel) ha).trans ?_
    rfl

end Sys2Proof.Machine

/-!
PROOFS. Keys (R413–R427).
-/
namespace Sys2Proof.Machine

/-! ## Key registers -/

theorem State.keyReg_setKeyReg {s : State} {i : Nat} (h : i < s.keys.regs.length) (x : KeyReg) : (s.setKeyReg i x).keyReg i = x :=
  getD_setAt_self h ..

theorem KeyReg.begin_writing (x : KeyReg) (key : Bytes) (r : Req) : (x.begin key r).writing.isSome = true := by
  unfold KeyReg.begin
  extract_lets ga gb g toA c
  split_ifs <;> rfl

theorem KeyReg.done_writing (x : KeyReg) : x.done.writing = none := by
  unfold KeyReg.done
  split
  next h => exact h
  · rfl

theorem State.writeKeyReg_busy {s : State} {k : Nat} {value : Bytes} (r : Req) (hl : value.length = 32) (hw : (s.keyReg k).writing.isSome = true) :
    s.writeKeyReg k value r = (s, stBusy, none) := by
  unfold State.writeKeyReg
  simp only [hl, ne_eq, not_true_eq_false, if_false, hw, if_true]
  rfl

theorem State.writeKeyReg_begins {s : State} {k : Nat} {value : Bytes} (r : Req) (hl : value.length = 32) (hw : (s.keyReg k).writing.isSome = false) :
    (s.writeKeyReg k value r).2 = (stOk, some (1 + k)) ∧
      (k < s.keys.regs.length → ((s.writeKeyReg k value r).1.keyReg k).writing.isSome = true) := by
  unfold State.writeKeyReg
  simp only [hl, ne_eq, not_true_eq_false, if_false, hw, Bool.false_eq_true]
  refine ⟨trivial, fun hk => ?_⟩
  refine (congrArg (fun x : KeyReg => x.writing.isSome) (State.keyReg_setKeyReg ?_ _)).trans (KeyReg.begin_writing ..)
  exact hk

/-- The write that finishes: the register stands, its replies leave. -/
theorem State.keyRegDone_fields {s : State} {i : Nat} (hw : (s.keyReg i).writing.isSome = true) (hi : i < s.keys.regs.length) :
    (s.keyRegDone i).keyReg i = (s.keyReg i).done ∧
      (s.keyRegDone i).od.owed = (s.od.owed.map fun w => { w with waits := w.waits.filter (· != 1 + i) }).filter fun w => !w.waits.isEmpty := by
  have busy : ¬ (s.keyReg i).writing.isNone = true := by
    rw [Option.isNone_iff_eq_none]
    intro none
    rw [none] at hw
    cases hw
  unfold State.keyRegDone
  rw [if_neg busy]
  refine ⟨?_, ?_⟩
  · rw [State.keyReg, (State.speaks_settleOwed ..).keys, State.raise_keys]
    have stands : (s.setKeyReg i (s.keyReg i).done).keys.regs.getD i {} = (s.keyReg i).done := State.keyReg_setKeyReg hi _
    split_ifs <;> exact stands
  · obtain ⟨-, -, howed⟩ := State.settleOwed_od ((if i = 0 then
        { s.setKeyReg i (s.keyReg i).done with
          keys := { (s.setKeyReg i (s.keyReg i).done).keys with
            blobs := (s.setKeyReg i (s.keyReg i).done).keys.blobs.filter fun b => b.depth != 1 || b.kekGen == (s.keyReg i).done.gen } }
      else s.setKeyReg i (s.keyReg i).done).raise 0x9001 (natBE 2 i ++ natBE 4 (s.keyReg i).done.gen)) (1 + i)
    refine howed.trans ?_
    split_ifs <;> rfl

/-! ## CHALLENGE (R427) -/

theorem State.challenge_status (s : State) (p : Bytes) : (p.length ≠ 16 → (s.challenge p).2.1 = stRange) ∧
    (p.length = 16 → (s.keyReg 1).key? = none → (s.challenge p).2.1 = stKeyAbsent) ∧
    (∀ k, p.length = 16 → (s.keyReg 1).key? = some k → (s.keys.challenges.filter fun t => decide (s.now < t + 1000000000)).length < 64 →
      (s.challenge p).2 = (stOk, s.attested ++ hmac k (p ++ s.attested))) := by
  unfold State.challenge
  extract_lets recent _ t
  have key : (t.keyReg 1).key? = (s.keyReg 1).key? := rfl
  refine ⟨fun long => ?_, fun hl absent => ?_, fun k hl present few => ?_⟩
  · rw [if_pos long]
  · rw [if_neg (not_not.mpr hl), key, absent]
  · have room : ¬ 64 < recent.length := by
      simp only [recent, List.length_append, List.length_singleton]
      omega
    rw [if_neg (not_not.mpr hl), key, present]
    simp only [room, if_false]
    rfl

/-! ## The commands -/

theorem State.advance_keyReg (s : State) (dt i : Nat) : (s.advance dt).keyReg i = s.keyReg i := by rw [State.keyReg, State.advance_keys, State.keyReg]

/-- Settles O45: each key command takes the branch its slot or the DRBG's state names. -/
theorem keysAreWrittenAndKept : Obligations.KeysAreWrittenAndKept := by
  unfold Obligations.KeysAreWrittenAndKept
  refine ⟨fun s dt r h => ⟨fun k value hk => ?register, fun value hl ha => ?load, fun slot fits ha => ?invalidate⟩,
    fun s dt i alive found hi => ?written, fun s slot g found => ?grace, fun s dt on => ⟨fun st => ?startup, fun st due => ?reseed, fun test st => ?fail⟩,
    fun s at_ on st retry => ?retry, fun s dt m taken => ?challenge, fun s p => s.challenge_status p⟩
  case register =>
    have bounds : k = 0 ∨ k = 1 ∨ k = 2 := by omega
    rcases bounds with rfl | rfl | rfl <;> intro row hl ha <;> refine ⟨?_, State.writeKeyReg_busy r hl, State.writeKeyReg_begins r hl⟩
    · exact finish_write (row := Od.kek) h (by decide) (by decide) (by decide) (by decide +kernel) ha
    · exact finish_write (row := Od.attest) h (by decide) (by decide) (by decide) (by decide +kernel) ha
    · exact finish_write (row := Od.update) h (by decide) (by decide) (by decide) (by decide +kernel) ha
  case load =>
    refine (finish_write h (by decide) (by decide) (by decide) (by decide +kernel) ha).trans ?_
    rfl
  case invalidate =>
    refine (finish_command h rfl (by decide) (by decide +kernel) fits ha).trans ?_
    rfl
  case written =>
    have writing : (s.keyReg i).writing.isSome = true := List.find?_some (p := fun i => (s.keyReg i).writing.isSome) found
    have run : exec (.keyRegisterWriteDone dt) s = .next (State.ended s ((s.advance dt).keyRegDone i)) := by
      show execKeyRegisterWriteDone dt s = _
      rw [execKeyRegisterWriteDone]
      simp only [State.advance_alive, alive, if_true, State.advance_keyReg, found, finish]
    obtain ⟨hreg, howed⟩ := State.keyRegDone_fields (s := s.advance dt) (i := i) (by rw [State.advance_keyReg]; exact writing)
      (by rw [State.advance_keys]; exact hi)
    have stands : (State.ended s ((s.advance dt).keyRegDone i)).keyReg i = (s.keyReg i).done := by
      rw [State.keyReg, ended_keys, ← State.keyReg, hreg, State.advance_keyReg]
    refine ⟨_, run, ?_, stands, ?_⟩
    · rw [stands, KeyReg.done_writing]
    · rw [ended_owed, howed, State.advance_od]
  case grace =>
    show execOrphanGraceExpire slot s = _
    rw [execOrphanGraceExpire, found, finish]
  case startup =>
    show execDrbgStartupTestDone dt s = _
    rw [execDrbgStartupTestDone]
    simp only [State.advance_keys, State.advance_domOn, st, on, and_self, if_true, finish]
  case reseed =>
    have reseed : (s.advance dt).reseedDue = true := by
      rw [State.reseedDue, State.advance_keys, Bool.or_eq_true, decide_eq_true_eq, decide_eq_true_eq]
      exact due
    show execDrbgReseed dt s = _
    rw [execDrbgReseed]
    simp only [State.advance_keys, State.advance_domOn, st, on, reseed, and_self, if_true, finish]
  case fail =>
    show execDrbgHealthFail dt test s = _
    rw [execDrbgHealthFail]
    simp only [State.advance_keys, State.advance_domOn, st, on, and_self, if_true, finish]
  case retry =>
    show execDrbgRetry s = _
    rw [execDrbgRetry, retry]
    simp only [st, on, and_self, if_true, finish]
    rfl
  case challenge =>
    have answered := finish_message_taken (dt := dt)
      (run := fun s => let (t, st, p) := s.challenge m.payload; { s := t, status := st, payload := p }) taken
    show exec (.challenge dt m) s = .next (State.ended s (((s.served dt).challenge m.payload).1.reply m.src 0xA m.seq _ _))
    rw [conclude_replies (State.takesMsg_not_group taken) rfl rfl (by decide) (by decide)] at answered
    exact answered

end Sys2Proof.Machine

/-!
PROOFS. Intake: the merge of video packets and of sACN sources (R151–R163).
-/
namespace Sys2Proof.Machine

/-! ## The first copy wins (R155) -/

/-- A stream and a part of it that the state has room for. -/
def State.hasPart (s : State) (i part : Nat) : Prop := i < s.intake.streams.length ∧ part < (s.stream i).parts.length

theorem State.part_setPart {s : State} {i part : Nat} (h : s.hasPart i part) (x : PartSt) : (s.setPart i part x).part i part = x := by
  obtain ⟨hi, hp⟩ := h
  unfold State.part State.setPart State.stream State.setStream
  rw [getD_setAt_self hi]
  exact getD_setAt_self hp ..

theorem State.hasPart_setPart {s : State} {i part : Nat} (h : s.hasPart i part) (x : PartSt) : (s.setPart i part x).hasPart i part := by
  obtain ⟨hi, hp⟩ := h
  refine ⟨(length_setAt ..).trans_gt hi, ?_⟩
  unfold State.setPart State.stream State.setStream
  rw [getD_setAt_self hi]
  exact (length_setAt ..).trans_gt hp

theorem State.hasPart_count {s : State} {i part : Nat} (h : s.hasPart i part) (r : OdRow) (n : Nat) : (s.count r n).hasPart i part := by
  simpa only [State.hasPart, State.stream, State.count_intake] using h

theorem State.hasPart_leaveWindow {s : State} {i part : Nat} (h : s.hasPart i part) (foot : Nat) (protect : Bool) :
    (s.leaveWindow i part foot protect).hasPart i part := by
  unfold State.leaveWindow
  extract_lets x d cnt inside gone known moved counted
  have moves : counted.hasPart i part := State.hasPart_count (State.hasPart_setPart h _) ..
  split
  · exact State.hasPart_count (State.hasPart_count moves ..) ..
  · exact moves

/-- A number that stands inside the merge window and of which a copy has been taken. -/
def PartSt.took (x : PartSt) (seq : Nat) : Prop := ∃ hi, x.highest = some hi ∧ (hi + 2 ^ 32 - seq) % 2 ^ 32 < 2 ^ 31 ∧
  ¬(mergeWindow ≤ (hi + 2 ^ 32 - seq) % 2 ^ 32) ∧ (x.seen.find? fun e => e.1 == seq).isSome = true

theorem PartSt.accept_seen (x : PartSt) (seq path now : Nat) : ((x.accept seq path now).seen.find? fun e => e.1 == seq).isSome = true := by
  rw [List.find?_isSome]
  exact ⟨_, List.mem_append_right _ (List.mem_singleton_self _), beq_self_eq_true seq⟩

/-- A part whose highest number is the one accepted has taken it. -/
theorem PartSt.took_accept_highest (x : PartSt) (seq path now : Nat) (h : x.highest = some seq) : (x.accept seq path now).took seq := by
  have here : (seq + 2 ^ 32 - seq) % 2 ^ 32 = 0 := by omega
  exact ⟨seq, h, by rw [here]; decide, by rw [here]; decide, PartSt.accept_seen ..⟩

/-- A further copy of a number taken is not written. -/
theorem State.merge_took {s : State} {i part seq : Nat} (h : (s.part i part).took seq) (path : Nat) (protect : Bool) :
    (s.merge i part path seq protect).2 = false := by
  obtain ⟨hi, high, near, inside, seen⟩ := h
  obtain ⟨e, found⟩ := Option.isSome_iff_exists.mp seen
  unfold State.merge
  simp only [high, inside, false_and, if_false, Nat.not_le.mpr near, found]
  split <;> rfl

/-- A copy that is written leaves its number taken. -/
theorem State.took_of_merge {s : State} {i part path seq : Nat} {protect : Bool} (h : s.hasPart i part)
    (written : (s.merge i part path seq protect).2 = true) : ((s.merge i part path seq protect).1.part i part).took seq := by
  revert written
  unfold State.merge
  extract_lets x anchored
  split
  next none =>
    intro _
    rw [State.part_setPart h]
    exact PartSt.took_accept_highest _ _ _ _ rfl
  next hi high =>
    extract_lets d
    split
    · split
      · intro _
        rw [State.part_setPart (State.hasPart_count h ..)]
        exact PartSt.took_accept_highest _ _ _ _ rfl
      · intro written
        cases written
    next outside =>
      split
      · intro _
        rw [State.part_setPart (State.hasPart_leaveWindow h ..)]
        exact PartSt.took_accept_highest _ _ _ _ rfl
      next ahead =>
        split
        · intro _
          rw [State.part_setPart h]
          exact ⟨hi, high, Nat.not_le.mp ahead, fun far => outside ⟨far, Nat.not_le.mp ahead⟩, PartSt.accept_seen ..⟩
        · extract_lets e' t
          split <;> intro written <;> cases written

theorem State.advance_flowOf (s : State) (dt port : Nat) (p : VideoPkt) : (s.advance dt).flowOf port p = s.flowOf port p := by
  rw [State.advance_eq]; rfl

/-- Settles O46. A copy that is written leaves its number taken in the merge window, and a number taken is not written again. -/
theorem videoIsMergedFirstCopyWins : Obligations.VideoIsMergedFirstCopyWins := by
  unfold Obligations.VideoIsMergedFirstCopyWins
  refine ⟨fun s dt port p on runs => ?packet, fun s r p f started found enabled protects bad => ?format,
    fun s i part path path' seq protect protect' _ hi hp _ written => State.merge_took (State.took_of_merge ⟨hi, hp⟩ written) ..,
    fun s i part path t on active last => ?path, fun s i t on state last => ?stream⟩
  case packet =>
    have run : exec (.videoPacket dt port p) s = .next (State.ended s
        (match (s.advance dt).flowOf port p with | some r => (s.advance dt).takeVideo r p | none => s.advance dt)) := by
      show execVideoPacket dt port p s = _
      rw [execVideoPacket]
      simp only [State.advance_domOn, State.advance_portRuns, on, runs, and_self, if_true, finish] <;> rfl
    exact ⟨fun r flow => run.trans (by rw [flow]), fun flow => run.trans (by rw [flow])⟩
  case format =>
    have lets : ¬((f.cfg.bool (Od.strEnable.inst (u8 r 0))) = false ∨ u8 r 2 = 1 ∧ f.cfg.bool (Od.strProtect.inst (u8 r 0)) = false) := by
      rintro (off | ⟨second, unprotected⟩)
      · rw [enabled] at off
        cases off
      · rw [protects second] at unprotected
        cases unprotected
    unfold State.takeVideo
    simp only [started, if_false, found, bad, if_true]
    rw [if_neg lets]
  case path =>
    show execPathTimeout i part path s = _
    rw [execPathTimeout]
    simp only [last, active, on, and_self, if_true, finish]
  case stream =>
    show execStreamTimeout i s = _
    rw [execStreamTimeout]
    simp only [last, state, on, and_self, if_true, finish]

/-! ## sACN: the merge of a universe's sources (R160) -/

theorem le_foldl_max {α : Type} (f : α → Nat) (l : List α) (m : Nat) : m ≤ l.foldl (fun m a => max m (f a)) m ∧
    ∀ a ∈ l, f a ≤ l.foldl (fun m a => max m (f a)) m := by
  induction l generalizing m with
  | nil => exact ⟨le_rfl, fun a h => absurd h List.not_mem_nil⟩
  | cons b l ih =>
    obtain ⟨base, all⟩ := ih (max m (f b))
    refine ⟨(le_max_left _ _).trans base, fun a h => ?_⟩
    rcases List.mem_cons.mp h with rfl | h
    · exact (le_max_right _ _).trans base
    · exact all a h

theorem foldl_max_mem {α : Type} (f : α → Nat) (l : List α) (m : Nat) : l.foldl (fun m a => max m (f a)) m = m ∨
    ∃ a ∈ l, l.foldl (fun m a => max m (f a)) m = f a := by
  induction l generalizing m with
  | nil => exact .inl rfl
  | cons b l ih =>
    rcases ih (max m (f b)) with same | ⟨a, ha, eq⟩
    · rcases max_choice m (f b) with hm | hm
      · exact .inl (same.trans hm)
      · exact .inr ⟨b, List.mem_cons_self, same.trans hm⟩
    · exact .inr ⟨a, List.mem_cons_of_mem _ ha, eq⟩

/-- The largest of a list that is not empty is one of its values. -/
theorem foldl_max_attained {α : Type} (f : α → Nat) {l : List α} (h : l ≠ []) : ∃ a ∈ l, l.foldl (fun m a => max m (f a)) 0 = f a := by
  rcases foldl_max_mem f l 0 with zero | found
  · obtain ⟨a, ha⟩ := List.exists_mem_of_ne_nil l h
    exact ⟨a, ha, le_antisymm (zero.le.trans (Nat.zero_le _)) ((le_foldl_max f l 0).2 a ha)⟩
  · exact found

/-- The source of the newest values: the latest of a list by its stamp. -/
def latestOf (l : List SacnSource) : Option SacnSource :=
  l.foldl (fun (m : Option SacnSource) a => match m with | some b => if b.stamp ≤ a.stamp then some a else m | none => some a) none

theorem latest_foldl (l : List SacnSource) (b : SacnSource) : ∃ a ∈ b :: l,
    l.foldl (fun (m : Option SacnSource) a => match m with | some b => if b.stamp ≤ a.stamp then some a else m | none => some a) (some b) =
      some a ∧ ∀ c ∈ b :: l, c.stamp ≤ a.stamp := by
  induction l generalizing b with
  | nil => exact ⟨b, List.mem_cons_self, rfl, fun c h => by rw [List.mem_singleton.mp h]⟩
  | cons d l ih =>
    rw [List.foldl_cons]
    by_cases newer : b.stamp ≤ d.stamp
    · obtain ⟨a, ha, eq, top⟩ := ih d
      refine ⟨a, List.mem_cons_of_mem _ ha, by simpa only [newer, if_true] using eq, fun c h => ?_⟩
      rcases List.mem_cons.mp h with rfl | h
      · exact newer.trans (top d List.mem_cons_self)
      · exact top c h
    · obtain ⟨a, ha, eq, top⟩ := ih b
      refine ⟨a, ?_, by simpa only [newer, if_false] using eq, fun c h => ?_⟩
      · rcases List.mem_cons.mp ha with rfl | ha
        · exact List.mem_cons_self
        · exact List.mem_cons_of_mem _ (List.mem_cons_of_mem _ ha)
      · rcases List.mem_cons.mp h with rfl | h
        · exact top c List.mem_cons_self
        rcases List.mem_cons.mp h with rfl | h
        · exact (Nat.le_of_lt (Nat.not_le.mp newer)).trans (top b List.mem_cons_self)
        · exact top c (List.mem_cons_of_mem _ h)

theorem latestOf_spec {l : List SacnSource} (h : l ≠ []) : ∃ a ∈ l, latestOf l = some a ∧ ∀ c ∈ l, c.stamp ≤ a.stamp := by
  cases l with
  | nil => exact absurd rfl h
  | cons b l => exact latest_foldl l b

/-- The live sources of a universe that have its winning priority (R160). -/
def UnivSt.winners (x : UnivSt) : List SacnSource :=
  (x.sources.filter SacnSource.live).filter fun a => a.priority == (x.sources.filter SacnSource.live).foldl (fun m a => max m a.priority) 0

theorem UnivSt.mem_winners {x : UnivSt} {a : SacnSource} : a ∈ x.winners ↔
    a ∈ x.sources ∧ a.live = true ∧ ∀ b ∈ x.sources, b.live = true → b.priority ≤ a.priority := by
  have top := (le_foldl_max SacnSource.priority (x.sources.filter SacnSource.live) 0).2
  rw [UnivSt.winners, List.mem_filter, List.mem_filter, beq_iff_eq]
  constructor
  · rintro ⟨⟨mem, live⟩, eq⟩
    exact ⟨mem, live, fun b hb lb => (top b (List.mem_filter.mpr ⟨hb, lb⟩)).trans eq.ge⟩
  · rintro ⟨mem, live, all⟩
    have here : a ∈ x.sources.filter SacnSource.live := List.mem_filter.mpr ⟨mem, live⟩
    obtain ⟨b, hb, eq⟩ := foldl_max_attained SacnSource.priority (List.ne_nil_of_mem here)
    obtain ⟨memb, liveb⟩ := List.mem_filter.mp hb
    exact ⟨⟨mem, live⟩, le_antisymm (top a here) (eq.le.trans (all b memb liveb))⟩

theorem UnivSt.winners_ne_nil {x : UnivSt} (h : x.sources.filter SacnSource.live ≠ []) : x.winners ≠ [] := by
  obtain ⟨a, ha, eq⟩ := foldl_max_attained SacnSource.priority h
  exact List.ne_nil_of_mem (List.mem_filter.mpr ⟨ha, beq_iff_eq.mpr eq.symm⟩)

theorem mergeUniv_htp {x : UnivSt} (h : x.sources.filter SacnSource.live ≠ []) : (mergeUniv false x).slots =
    (List.range 512).map fun i => BitVec.ofNat 8 (x.winners.foldl (fun m a => max m (u8 a.slots i)) 0) := by
  obtain ⟨b, l, eq⟩ := List.exists_cons_of_ne_nil h
  simp only [mergeUniv, UnivSt.winners, eq, Bool.false_eq_true, if_false]

theorem mergeUniv_ltp {x : UnivSt} (h : x.sources.filter SacnSource.live ≠ []) {a : SacnSource} (latest : latestOf x.winners = some a) :
    (mergeUniv true x).slots = a.slots := by
  obtain ⟨b, l, eq⟩ := List.exists_cons_of_ne_nil h
  rw [latestOf, UnivSt.winners, eq] at latest
  simp only [mergeUniv, eq, if_true]
  exact congrArg (fun o : Option SacnSource => UnivSt.slots (match o with | some a => { x with slots := a.slots } | none => x)) latest

theorem u8_eq (b : Bytes) (o : Nat) : u8 b o = (b.getD o 0#8).toNat := by
  unfold u8 slice
  rw [List.take_one, List.head?_drop, List.getD_eq_getElem?_getD]
  cases b[o]? with
  | none => rfl
  | some x => exact Nat.zero_add _

theorem u8_lt (b : Bytes) (o : Nat) : u8 b o < 256 := (u8_eq b o).trans_lt (BitVec.isLt _)

/-- A slot of the merge by highest value. -/
theorem u8_mergeUniv_htp {x : UnivSt} (h : x.sources.filter SacnSource.live ≠ []) {i : Nat} (hi : i < 512) :
    u8 (mergeUniv false x).slots i = x.winners.foldl (fun m a => max m (u8 a.slots i)) 0 := by
  obtain ⟨a, -, eq⟩ := foldl_max_attained (fun a : SacnSource => u8 a.slots i) (UnivSt.winners_ne_nil h)
  have small : x.winners.foldl (fun m a => max m (u8 a.slots i)) 0 < 256 := eq.trans_lt (u8_lt ..)
  rw [u8_eq, mergeUniv_htp h, List.getD_eq_getElem?_getD, List.getElem?_map, List.getElem?_range hi]
  exact (BitVec.toNat_ofNat ..).trans (Nat.mod_eq_of_lt small)

/-! ## sACN: what each packet and timeout does (R158–R162) -/

theorem State.advance_sacnTakes (s : State) (dt port dst univ : Nat) : (s.advance dt).sacnTakes port dst univ = s.sacnTakes port dst univ := by
  rw [State.advance_eq]; rfl

theorem State.advance_sacnInRec (s : State) (dt u : Nat) : (s.advance dt).sacnInRec u = s.sacnInRec u := by
  rw [State.sacnInRec, State.advance_tl, State.sacnInRec]

/-- A synchronisation packet that the lane takes, by the sequence number kept for its sender. -/
theorem exec_sacnSyncPacket {s : State} {port dst address : Nat} (dt seq cid : Nat) (on : s.domOn 9 = true) (runs : s.portRuns port = true)
    (takes : s.sacnTakes port dst address = true) : exec (.sacnSyncPacket dt ⟨port, dst⟩ address seq cid) s = .next (State.ended s
      (let old := (s.intake.syncSeq.find? fun e => e.1 == address && e.2.1 == cid).map (·.2.2)
       let d : Int := match old with | some q => toS 8 (seq + 256 - q % 256) | none => 1
       if -20 ≤ d ∧ d ≤ 0 then (s.advance dt).count Od.seqDrops
       else
        let l := (s.intake.syncSeq.filter fun e => !(e.1 == address && e.2.1 == cid)) ++ [(address, cid, seq)]
        ({ s.advance dt with intake := { (s.advance dt).intake with syncSeq := l } }).sacnSync address)) := by
  show execSacnSyncPacket dt ⟨port, dst⟩ address seq cid s = _
  rw [execSacnSyncPacket]
  simp only [State.advance_domOn, State.advance_portRuns, State.advance_sacnTakes, on, runs, takes, Bool.true_eq_false, or_self, if_false,
    State.advance_intake, finish] <;> rfl

/-- Settles O47: a data packet by its checks, a synchronisation by the sequence window, and the merge slot by slot. -/
theorem sacnSourcesAreMerged : Obligations.SacnSourcesAreMerged := by
  unfold Obligations.SacnSourcesAreMerged
  refine ⟨fun s dt port p ignored => ?ignored, fun s dt port p on runs takes => ⟨fun bad => ?bad, fun wf prio len => ⟨fun none => ?unknown, fun r listed => ?taken⟩⟩,
    fun s u p => ⟨fun preview => ?preview, fun shown code => ?startCode⟩,
    fun s dt port dst address seq cid on runs takes => ⟨fun none => ?first, fun q old => ⟨fun behind => ?behind, fun ahead => ?ahead⟩⟩,
    fun s u cid a on found => ⟨?silent, fun synced locked => ?unsynced⟩, fun x i hi some => ⟨fun a best => ?above, ?attained, ?latest⟩⟩
  case ignored =>
    show execSacnDataPacket dt port p s = _
    rw [execSacnDataPacket]
    simp only [State.advance_sacnTakes, ignored, or_true, if_true, finish]
  case bad =>
    show execSacnDataPacket dt port p s = _
    rw [execSacnDataPacket]
    simp only [State.advance_domOn, State.advance_portRuns, State.advance_sacnTakes, on, runs, takes, Bool.true_eq_false, or_self, if_false, bad,
      if_true, finish]
  case unknown =>
    show execSacnDataPacket dt port p s = _
    rw [execSacnDataPacket]
    simp only [State.advance_domOn, State.advance_portRuns, State.advance_sacnTakes, on, runs, takes, wf, Bool.true_eq_false,
      Nat.not_lt.mpr prio, Nat.not_lt.mpr len, or_self, if_false, State.advance_sacnInRec, none, finish]
  case taken =>
    show execSacnDataPacket dt port p s = _
    rw [execSacnDataPacket]
    simp only [State.advance_domOn, State.advance_portRuns, State.advance_sacnTakes, on, runs, takes, wf, Bool.true_eq_false,
      Nat.not_lt.mpr prio, Nat.not_lt.mpr len, or_self, if_false, State.advance_sacnInRec, listed, finish]
  case preview =>
    unfold State.sacnData
    simp only [preview, if_true]
  case startCode =>
    unfold State.sacnData
    simp only [shown, code, Bool.false_eq_true, if_false, ne_eq, not_false_iff, if_true]
  case first =>
    refine (exec_sacnSyncPacket dt seq cid on runs takes).trans ?_
    simp only [none]
    rfl
  case behind =>
    refine (exec_sacnSyncPacket dt seq cid on runs takes).trans ?_
    simp only [old]
    rw [if_pos behind]
  case ahead =>
    refine (exec_sacnSyncPacket dt seq cid on runs takes).trans ?_
    simp only [old]
    rw [if_neg ahead]
  case silent =>
    show execSacnSourceTimeout u cid s = _
    rw [execSacnSourceTimeout]
    simp only [found, on, if_true, finish]
  case unsynced =>
    show execSacnSyncTimeout u cid s = _
    rw [execSacnSyncTimeout]
    simp only [found, on, synced, locked, ne_eq, not_false_iff, and_self, if_true, finish]
    rfl
  case above =>
    rw [u8_mergeUniv_htp some hi]
    exact (le_foldl_max (fun a : SacnSource => u8 a.slots i) x.winners 0).2 a (UnivSt.mem_winners.mpr best)
  case attained =>
    obtain ⟨a, ha, eq⟩ := foldl_max_attained (fun a : SacnSource => u8 a.slots i) (UnivSt.winners_ne_nil some)
    exact ⟨a, UnivSt.mem_winners.mp ha, (u8_mergeUniv_htp some hi).trans eq⟩
  case latest =>
    obtain ⟨a, ha, eq, newest⟩ := latestOf_spec (UnivSt.winners_ne_nil some)
    exact ⟨a, UnivSt.mem_winners.mp ha, fun b hb => newest b (UnivSt.mem_winners.mpr hb), mergeUniv_ltp some eq⟩

end Sys2Proof.Machine

/-!
PROOFS. Barges on their cells (R240–R252).
-/
namespace Sys2Proof.Machine

/-! ## Dispatch (R244): what is charged comes from REMAINING -/

theorem State.occupy_weir (s : State) (f : Nat) : (s.occupy f).weir = s.weir := by unfold State.occupy; split <;> rfl
theorem State.occupy_spent (s : State) (f : Nat) : (s.occupy f).lk.spent = s.lk.spent := by unfold State.occupy; split <;> rfl

theorem State.give_remaining (s : State) (b : Barge) (c : Nat) :
    (s.give b c).weir.remaining = s.weir.remaining - min (bEnergy b.bytes) s.weir.remaining := by
  unfold State.give
  rw [State.occupy_weir]
  rfl

theorem State.give_spent (s : State) (b : Barge) (c : Nat) :
    (s.give b c).lk.spent = s.lk.spent + min (bEnergy b.bytes) s.weir.remaining := by
  unfold State.give
  rw [State.occupy_spent]
  rfl

theorem State.stallFor_keeps (s : State) (p : Nat) :
    (s.stallFor p).weir.remaining = s.weir.remaining ∧ (s.stallFor p).lk.spent = s.lk.spent := by
  unfold State.stallFor
  split <;> exact ⟨rfl, rfl⟩

/-- A dispatch gives the head of a list to a cell, stalls, or does nothing. -/
theorem State.dispatchOne_cases (s : State) : s.dispatchOne = s ∨ (∃ b c, s.dispatchOne = s.give b c) ∨ ∃ p, s.dispatchOne = s.stallFor p := by
  unfold State.dispatchOne
  split
  · exact .inl rfl
  next p _ =>
    split
    · exact .inl rfl
    next b _ =>
      split
      · exact .inl rfl
      next c _ =>
        split
        · exact .inr (.inl ⟨b, c, rfl⟩)
        · exact .inr (.inr ⟨p, rfl⟩)

/-! ## What an advance of time leaves of barges and cells -/

theorem State.advance_runs (s : State) (dt c : Nat) (types : Nat → Bool) : (s.advance dt).runs c types = s.runs c types := by
  rw [State.advance_eq]; rfl

theorem State.advance_frameOf (s : State) (dt : Nat) (b : Barge) : (s.advance dt).frameOf b = s.frameOf b := by
  rw [State.advance_eq]; rfl

theorem State.advance_packOut (s : State) (dt : Nat) (f : Frame) (b : Barge) : (s.advance dt).packOut f b = s.packOut f b := by
  rw [State.advance_eq]; rfl

/-! ## Submission (R242) -/

theorem exec_bargeSubmit {s : State} (dt : Nat) (arms : List (Nat × Nat)) (bytes : Bytes) (on : s.domOn 1 = true) :
    exec (.bargeSubmit dt ⟨arms, bytes⟩) s = .next (State.ended s (((s.advance dt).armAll arms).submitFirmware (padTo 32 bytes))) := by
  show execBargeSubmit dt ⟨arms, bytes⟩ s = _
  rw [execBargeSubmit]
  simp only [State.advance_domOn, on, if_true, finish]

/-- The checks of R242 in their order. -/
theorem State.submitFirmware_by_check (t : State) (b : Bytes) :
    let kind := 2 ≤ bClass b ∨ (bType b ≤ 4 ∧ 2 ≤ bKind b)
    let behind := bFlight b ≠ 0 ∧ 2 ^ 19 ≤ seqAhead (bSeq b) (t.flight (bFlight b)).next
    let full := 16384 ≤ (t.lk.barges.filter Barge.firmware).length
    (typeDefined (bType b) = false → t.submitFirmware b = t.refuseBarge 1 b) ∧
    (typeDefined (bType b) = true → kind → t.submitFirmware b = t.refuseBarge 2 b) ∧
    (typeDefined (bType b) = true → ¬kind → behind → t.submitFirmware b = t.refuseBarge 3 b) ∧
    (typeDefined (bType b) = true → ¬kind → ¬behind → full → t.submitFirmware b = t.refuseBarge 4 b) ∧
    (typeDefined (bType b) = true → ¬kind → ¬behind → ¬full → t.submitFirmware b = (t.storeBarge b true 0).settle) := by
  intro kind behind full
  have known (defined : typeDefined (bType b) = true) : ¬typeDefined (bType b) = false := by rw [defined]; decide
  unfold State.submitFirmware
  refine ⟨fun unknown => if_pos unknown, fun defined k => ?_, fun defined k h => ?_, fun defined k h f => ?_, fun defined k h f => ?_⟩
  · exact (if_neg (known defined)).trans (if_pos k)
  · exact (if_neg (known defined)).trans ((if_neg k).trans (if_pos h))
  · exact (if_neg (known defined)).trans ((if_neg k).trans ((if_neg h).trans (if_pos f)))
  · exact (if_neg (known defined)).trans ((if_neg k).trans ((if_neg h).trans (if_neg f)))

/-- Settles O48: submission, asking, dispatch and completion of a barge, each by the branch that its place in the store names. -/
theorem bargesRunOnCells : Obligations.BargesRunOnCells := by
  unfold Obligations.BargesRunOnCells
  refine ⟨fun s dt arms bytes on => ?submit, fun s dt cell n idle asked => ?ask, fun s dt on => ?dispatch, fun s => ?charge,
    fun s dt cell b => ⟨fun runs => ?sample, fun runs => ?tally, fun runs => ?weir, fun runs o f frame out => ?pack,
      fun target entries runs inner => ?firmware⟩,
    fun s b built => ?frameOf, fun s c b work target es retired => ?retired, fun s dt on => ?yields,
    fun s t h left wrote => ⟨fun all => ?whole, fun some => ?held⟩, fun s dt flight on named => ?release⟩
  case submit =>
    have run := exec_bargeSubmit dt arms bytes on
    obtain ⟨unknown, kind, behind, full, stored⟩ := State.submitFirmware_by_check ((s.advance dt).armAll arms) (padTo 32 bytes)
    exact ⟨fun h => run.trans (by rw [unknown h]; rfl), fun h k => run.trans (by rw [kind h k]; rfl),
      fun h k b => run.trans (by rw [behind h k b]; rfl), fun h k b f => run.trans (by rw [full h k b f]; rfl),
      fun h k b f => run.trans (by rw [stored h k b f])⟩
  case ask =>
    have parts := idle
    simp only [State.cellIdle, Bool.and_eq_true, decide_eq_true_eq] at parts
    obtain ⟨⟨⟨⟨⟨small, quad⟩, -⟩, -⟩, -⟩, -⟩ := parts
    have ecc : (s.advance dt).noteEcc cell n = (s.advance dt).count Od.cellEccCorr n := by
      rw [State.noteEcc, State.advance_domOn, if_pos ⟨small, quad⟩]
    have idle' : ((s.advance dt).count Od.cellEccCorr n).cellIdle cell = true := by
      rw [State.advance_eq]
      exact idle
    have lk : ((s.advance dt).count Od.cellEccCorr n).lk = s.lk := by rw [State.count_lk, State.advance_lk]
    have same : ((s.advance dt).count Od.cellEccCorr n).cell cell = s.cell cell := by rw [State.cell, lk, State.cell]
    show execAsk dt cell n s = _
    rw [execAsk, ecc]
    simp only [idle', same, asked, Option.isNone_none, and_self, if_true, finish, lk]
    rfl
  case dispatch =>
    show execBargeDispatch dt s = _
    rw [execBargeDispatch]
    simp only [State.advance_domOn, on, if_true, finish]
  case charge =>
    rcases s.dispatchOne_cases with same | ⟨b, c, gave⟩ | ⟨p, stalled⟩
    · rw [same]
      exact ⟨le_rfl, rfl⟩
    · rw [gave, State.give_remaining, State.give_spent]
      omega
    · obtain ⟨rem, spent⟩ := s.stallFor_keeps p
      rw [stalled, rem, spent]
      exact ⟨le_rfl, rfl⟩
  case sample =>
    show execSampleComplete dt cell s = _
    rw [execSampleComplete]
    simp only [State.advance_runs, runs, finish] <;> rfl
  case tally =>
    show execTallyComplete dt cell s = _
    rw [execTallyComplete]
    simp only [State.advance_runs, runs, finish] <;> rfl
  case weir =>
    show execWeirComplete dt cell s = _
    rw [execWeirComplete]
    simp only [State.advance_runs, runs, finish] <;> rfl
  case pack =>
    have packs : ((s.advance dt).frameOf b).bind (fun f => ((s.advance dt).packOut f b).map fun o => (o, f)) = some (o, f) := by
      rw [State.advance_frameOf, frame, Option.bind_some, State.advance_packOut, out, Option.map_some]
    show execPackComplete dt cell s = _
    rw [execPackComplete]
    simp only [State.advance_runs, runs, packs, finish]
  case firmware =>
    show execFirmwareBargeComplete dt cell target entries s = _
    rw [execFirmwareBargeComplete]
    simp only [State.advance_runs, runs, Nat.not_le.mpr inner, if_false, finish]
  case frameOf => simp only [State.frameOf, built, Bool.not_false, if_true, State.frame?]
  case retired => simp only [State.cellDone, retired, if_true]
  case yields =>
    show execYieldWrite dt s = _
    rw [execYieldWrite]
    simp only [State.advance_domOn, on, if_true, State.advance_lk, finish]
  case whole => simp only [State.writeHeld, wrote, all, List.isEmpty_nil, if_true]
  case held => simp only [State.writeHeld, wrote, List.isEmpty_iff, some, if_false]
  case release =>
    show execFlightRelease dt flight s = _
    rw [execFlightRelease]
    simp only [State.advance_domOn, on, named, ne_eq, not_false_iff, and_self, if_true, finish]

end Sys2Proof.Machine

/-!
PROOFS. Cell faults and delay lists (R235–R257).
-/
namespace Sys2Proof.Machine

/-! ## Sorting keeps the entries and orders them -/

theorem insertBy_perm {α : Type} (le : α → α → Bool) (x : α) (l : List α) : (insertBy le x l).Perm (x :: l) := by
  induction l with
  | nil => exact .refl _
  | cons y l ih =>
    unfold insertBy
    split
    · exact .refl _
    · exact (ih.cons y).trans (.swap x y l)

theorem sortBy_perm {α : Type} (le : α → α → Bool) (l : List α) : (sortBy le l).Perm l := by
  induction l with
  | nil => exact .refl _
  | cons x l ih => exact (insertBy_perm le x _).trans (ih.cons x)

/-- Entries sorted by a number of theirs stand in its order. -/
theorem insertBy_pairwise {α : Type} (f : α → Nat) (x : α) {l : List α} (h : l.Pairwise fun a b => f a ≤ f b) :
    (insertBy (fun a b => decide (f a ≤ f b)) x l).Pairwise fun a b => f a ≤ f b := by
  induction l with
  | nil => exact List.pairwise_singleton _ _
  | cons y l ih =>
    obtain ⟨first, rest⟩ := List.pairwise_cons.mp h
    unfold insertBy
    split
    next before =>
      have here : f x ≤ f y := of_decide_eq_true before
      refine List.pairwise_cons.mpr ⟨fun b hb => ?_, h⟩
      rcases List.mem_cons.mp hb with rfl | hb
      · exact here
      · exact here.trans (first b hb)
    next after =>
      have there : f y ≤ f x := Nat.le_of_lt (Nat.not_le.mp fun le => after (decide_eq_true le))
      refine List.pairwise_cons.mpr ⟨fun b hb => ?_, ih rest⟩
      rcases List.mem_cons.mp ((insertBy_perm _ x l).mem_iff.mp hb) with rfl | hb
      · exact there
      · exact first b hb

theorem sortBy_pairwise {α : Type} (f : α → Nat) (l : List α) : (sortBy (fun a b => decide (f a ≤ f b)) l).Pairwise fun a b => f a ≤ f b := by
  induction l with
  | nil => exact List.Pairwise.nil
  | cons x l ih => exact insertBy_pairwise f x ih

/-! ## Cells -/

theorem State.cell_setCell {s : State} {c : Nat} (h : c < s.lk.cells.length) (x : Cell) : (s.setCell c x).cell c = x := getD_setAt_self h ..

theorem State.advance_cell (s : State) (dt c : Nat) : (s.advance dt).cell c = s.cell c := by rw [State.cell, State.advance_lk, State.cell]

theorem State.replaceCheck_keeps (s : State) : s.replaceCheck.lk = s.lk ∧ s.replaceCheck.trim.wear = s.trim.wear := by
  unfold State.replaceCheck
  extract_lets c t u
  split <;> exact ⟨rfl, rfl⟩

/-- A retirement gives the cell its state and is one write of the eNVM. -/
theorem State.retireCell_fields {s : State} {c : Nat} (st : Nat) (h : c < s.lk.cells.length) :
    ((s.retireCell c st).cell c).state = st ∧ (s.retireCell c st).trim.wear = s.trim.wear + 1 := by
  unfold State.retireCell
  extract_lets q _ vacated _ out written told warned
  obtain ⟨lk, wear⟩ := State.replaceCheck_keeps warned
  have room : c < vacated.lk.cells.length := by
    simp only [vacated]
    split <;> exact h
  have wear0 : vacated.trim.wear = s.trim.wear := by
    simp only [vacated]
    split <;> rfl
  have warnedLk : warned.lk = out.lk := by
    simp only [warned]
    split <;> rfl
  have warnedWear : warned.trim.wear = out.trim.wear + 1 := by
    simp only [warned]
    split <;> rfl
  have state : out.cell c = { vacated.cell c with state := st, asking := none, restore := false } := State.cell_setCell room _
  refine ⟨?_, ?_⟩
  · rw [State.cell, lk, warnedLk, ← State.cell, state]
  · rw [wear, warnedWear]
    exact congrArg (· + 1) wear0

/-- Settles O49: the three causes of a fault, what they lead to, and the delay lists in the order of their due entries. -/
theorem cellsFaultAndDelayListsAct : Obligations.CellsFaultAndDelayListsAct := by
  unfold Obligations.CellsFaultAndDelayListsAct
  refine ⟨fun s cell id on runs => ⟨?timeout, fun dt => ?illegal⟩, fun s dt cell small served on => ?sram, fun s dt cell held => ?done,
    fun s c hc => congrArg Cell.resetting (State.cell_setCell hc _), fun s c on served => ?test, fun s c st hc => State.retireCell_fields st hc,
    fun s b alone stays => ⟨fun first => ?retry, fun again => ?abandon⟩, fun s list e rest on timed entries => ?act, fun s mine due => ?due,
    fun s dt list e on hl => ?insert⟩
  case timeout =>
    show execBargeTimeout cell s = _
    rw [execBargeTimeout]
    simp only [runs, on, Option.isSome_some, and_self, if_true, finish]
  case illegal =>
    show execCellIllegalOp dt cell s = _
    rw [execCellIllegalOp]
    simp only [State.advance_cell, State.advance_domOn, runs, on, Option.isSome_some, and_self, if_true, finish]
  case sram =>
    show execCellSramError dt cell s = _
    rw [execCellSramError]
    simp only [State.advance_cell, State.advance_domOn, small, served, on, and_self, if_true, finish]
  case done =>
    show execCellResetDone dt cell s = _
    rw [execCellResetDone]
    simp only [State.advance_cell, held, if_true, finish]
  case test => simp only [State.testCell, on, served, true_and]
  case retry => simp only [State.faultBarge, State.vacate, alone, if_true, stays, if_false, first]
  case abandon => simp only [State.faultBarge, State.vacate, alone, if_true, stays, if_false, again]
  case act =>
    show execDelayEntryAct list s = _
    rw [execDelayEntryAct]
    simp only [entries, on, timed, List.isEmpty_cons, Bool.true_eq_false, Bool.false_eq_true, or_self, if_false, List.headD_cons, finish]
  case due => exact ⟨sortBy (fun a b => decide (a.1 ≤ b.1)) _, sortBy_perm .., sortBy_pairwise Prod.fst _, rfl⟩
  case insert =>
    show execDelayInsert dt list e s = _
    rw [execDelayInsert]
    simp only [State.advance_domOn, on, hl, and_self, if_true, State.insertDelay, State.advance_lk, finish]

end Sys2Proof.Machine

/-!
PROOFS. Tiles of the Zhoeno link and messages of the aqueduct (R296–R303, R379–R383).
-/
namespace Sys2Proof.Machine

/-! ## Measurements of a tile (R298) -/

theorem pushLast_of_room {α : Type} {n : Nat} {l : List α} (h : l.length < n) (x : α) : pushLast n l x = l ++ [x] := by
  rw [pushLast, Nat.sub_eq_zero_of_le h, List.drop_zero]

/-- A measurement that jumps is held back until three agree. -/
theorem Tile.measure_jump {t : Tile} {m : Int} {jump : Nat} (some : t.window ≠ []) (far : meanNs t.window + jump < m ∨ m + jump < meanNs t.window)
    (few : t.jumps.length < 2) : t.measure m jump = { t with jumps := t.jumps ++ [m] } := by
  have held : ¬(t.window.isEmpty = true ∨ (decide (m ≤ meanNs t.window + jump) && decide (meanNs t.window ≤ m + jump)) = true) := by
    rw [List.isEmpty_iff, Bool.and_eq_true, decide_eq_true_eq, decide_eq_true_eq]
    rintro (none | ⟨below, above⟩)
    · exact some none
    · omega
  have pushed : pushLast 3 t.jumps m = t.jumps ++ [m] := pushLast_of_room (by omega) m
  have short : ¬(t.jumps ++ [m]).length = 3 := by
    rw [List.length_append, List.length_singleton]
    omega
  unfold Tile.measure
  simp only [held, pushed, short, false_and, if_false]

/-- A measurement near the mean of its window joins it. -/
theorem Tile.measure_near {t : Tile} {m : Int} {jump : Nat} (near : t.window = [] ∨ (meanNs t.window ≤ m + jump ∧ m ≤ meanNs t.window + jump)) :
    t.measure m jump = t.takeWindow (pushLast 8 t.window m) 1 := by
  have joins : t.window.isEmpty = true ∨ (decide (m ≤ meanNs t.window + jump) && decide (meanNs t.window ≤ m + jump)) = true := by
    rw [List.isEmpty_iff, Bool.and_eq_true, decide_eq_true_eq, decide_eq_true_eq]
    exact near.imp_right And.symm
  unfold Tile.measure
  exact if_pos joins

/-! ## The link's commands -/

theorem State.advance_tileLane (s : State) (dt lane : Nat) : (s.advance dt).tileLane lane = s.tileLane lane := by rw [State.advance_eq]; rfl
theorem State.advance_tile (s : State) (dt n : Nat) : (s.advance dt).tile n = s.tile n := by rw [State.tile, State.advance_zl, State.tile]

/-- A RET on a lane in the TILE role, by what `retFrame` makes of it. -/
theorem exec_retRx {s : State} {lane : Nat} (dt : Nat) (f : ZhFrame) (on : s.tileLane lane = true) : exec (.retRx dt lane f) s =
    .next (State.ended s (match (s.advance dt).retFrame lane f with
      | (t, some (n, _)) =>
        match (s.tile n).param with
        | some (_, frame, p, _) =>
          match t.aq.params.find? fun w => w.dst == n && w.tag == frame && w.msg.payload == p with
          | some w => ({ t with aq := { t.aq with params := t.aq.params.erase w } } : State).aqDone w.msg
          | none => t
        | none => t
      | (t, none) => t)) := by
  show execRetRx dt lane f s = _
  rw [execRetRx]
  simp only [State.advance_tileLane, on, Bool.true_eq_false, if_false, State.advance_tile, finish] <;> rfl

/-- The plan found for a lane and a frame is that frame's. -/
theorem frame_of_found {plans : List LanePlan} {lane frame : Nat} {m : LanePlan}
    (h : plans.find? (fun m => m.lane == lane && m.frame == frame) = some m) : m.frame = frame := by
  have both := List.find?_some h
  simp only [Bool.and_eq_true, beq_iff_eq] at both
  exact both.2

/-- Settles O51: each message of the tile link by the tile's state; an echo that matches none moves no delay. -/
theorem tilesAreMeasuredHeardAndLost : Obligations.TilesAreMeasuredHeardAndLost := by
  unfold Obligations.TilesAreMeasuredHeardAndLost
  refine ⟨fun s tile r rec_ state on => ?echo,
    fun s dt lane f on => ⟨?reply, ?hello, fun u ret => ?ret, fun u n q ret seq frame p last param => ⟨fun none => ?unwaited, fun w some => ?acked⟩⟩,
    fun t m jump some far few => Tile.measure_jump some far few, fun t m jump near size => ?near,
    fun s tile id sent cap rest alive echoes => ?timeout, fun s tile alive state => ?lost,
    fun s tile seq frame last p alive param => ⟨fun due => ?resend, fun early => ?wait⟩, fun s lane l m found => ?latch⟩
  case echo =>
    show execEchoSend tile s = _
    rw [execEchoSend]
    simp only [rec_, state, on, Bool.true_eq_false, not_true_eq_false, or_self, if_false, finish]
    rfl
  case reply =>
    show execEchoReplyRx dt lane f s = _
    rw [execEchoReplyRx]
    simp only [State.advance_tileLane, on, if_true, finish]
  case hello =>
    show execHelloRx dt lane f s = _
    rw [execHelloRx]
    simp only [State.advance_tileLane, on, if_true, finish]
  case ret =>
    refine (exec_retRx dt f on).trans ?_
    rw [ret]
  case unwaited =>
    refine (exec_retRx dt f on).trans ?_
    simp only [ret, param, none]
  case acked =>
    refine (exec_retRx dt f on).trans ?_
    simp only [ret, param, some]
  case near =>
    have pushed : pushLast 8 t.window m = (t.window ++ [m]).drop (t.window.length - 7) := by
      rw [pushLast]
      congr 1
    rw [Tile.measure_near near, pushed]
    rfl
  case timeout =>
    show execEchoTimeout tile s = _
    rw [execEchoTimeout]
    simp only [echoes, alive, Bool.true_eq_false, if_false, finish]
  case lost =>
    show execTileTimeout tile s = _
    rw [execTileTimeout]
    simp only [state, alive, ne_eq, not_true_eq_false, Bool.true_eq_false, or_self, if_false, finish]
  case resend =>
    show execParamResend tile s = _
    rw [execParamResend]
    simp only [param, alive, Bool.true_eq_false, false_or, Nat.not_lt.mpr due, if_false, finish]
  case wait =>
    show execParamResend tile s = _
    rw [execParamResend]
    simp only [param, early, or_true, if_true, finish]
  case latch =>
    rcases frame : s.tl.frames.find? (fun f => f.k == l.frame) with _ | f <;> simp only [frame] <;> intro plan
    · show execLatchFixup lane s = _
      rw [execLatchFixup, found]
      simp only [frame]
      generalize State.linkHold _ _ _ _ _ = t at plan ⊢
      rw [plan, finish, ← frame_of_found plan]
    · show execLatchFixup lane s = _
      rw [execLatchFixup, found]
      simp only [frame]
      generalize State.linkHold _ _ _ _ _ = t at plan ⊢
      rw [plan, finish, ← frame_of_found plan]

/-! ## The aqueduct (R379–R383) -/

theorem State.aqPeer_setPeer (s : State) (d : Nat) (x : AqPeer) : (s.setPeer d x).aqPeer d = x := by
  unfold State.aqPeer State.setPeer
  rw [kvGetD, kvGet_kvSet]
  rfl

theorem State.advance_aqPeer (s : State) (dt d : Nat) : (s.advance dt).aqPeer d = s.aqPeer d := by rw [State.aqPeer, State.advance_aq, State.aqPeer]

theorem State.advance_farDst (s : State) (dt d : Nat) : (s.advance dt).farDst d = s.farDst d := by rw [State.farDst, State.advance_tl, State.farDst]

/-- What an outcome of the aqueduct leaves as it is: the far devices, and the count of those that did not answer. -/
def State.KeepsPeers (s t : State) : Prop := t.aq.peers = s.aq.peers ∧ t.reg Od.aqTimeouts = s.reg Od.aqTimeouts

theorem State.KeepsPeers.trans {s t u : State} (h : s.KeepsPeers t) (h' : t.KeepsPeers u) : s.KeepsPeers u :=
  ⟨h'.1.trans h.1, h'.2.trans h.2⟩

theorem State.Speaks.keepsPeers {s t : State} (h : s.Speaks t) : s.KeepsPeers t := ⟨congrArg AqState.peers h.aq, h.reg ..⟩

theorem State.keepsPeers_count (s : State) {r : OdRow} (n : Nat) (h : Od.aqTimeouts.key + 0 ≠ r.key + 0) : s.KeepsPeers (s.count r n) :=
  ⟨rfl, State.reg_count_ne s n h⟩

theorem State.keepsPeers_aqFarError (s : State) (m : AqMsg) (cause far : Nat) (item : Nat × Nat) : s.KeepsPeers (s.aqFarError m cause far item) := by
  unfold State.aqFarError
  extract_lets src rec_ _ t
  have counted : t.KeepsPeers (t.count Od.aqFarErrors) := State.keepsPeers_count t 1 (by decide)
  exact counted.trans (State.speaks_raise ..).keepsPeers

theorem State.keepsPeers_aqErrors (s : State) (m : AqMsg) (cause : Nat) (items : List (Nat × Nat × Nat)) : s.KeepsPeers (s.aqErrors m cause items) := by
  unfold State.aqErrors
  refine List.foldlRecOn (motive := s.KeepsPeers) items _ ?_ fun t ht i _ => ht.trans (State.keepsPeers_aqFarError ..)
  split
  · exact State.keepsPeers_count s 1 (by decide)
  · exact ⟨rfl, rfl⟩

theorem State.keepsPeers_aqFails (s : State) (m : AqMsg) (cause far : Nat) : s.KeepsPeers (s.aqFails m cause far) := by
  unfold State.aqFails
  refine (State.keepsPeers_aqErrors s m cause (m.items.map fun i => (i.1, i.2.1, far))).trans ?_
  unfold State.aqReply
  split
  · exact ⟨rfl, rfl⟩
  · extract_lets pay
    split <;> exact (State.speaks_reply ..).keepsPeers

/-- A far device that has not answered in all its tries. -/
theorem State.aqGivesUp (s : State) (x : AqPeer) (device : Nat) (m : AqMsg) (cause : Nat) (told : Bool) :
    let t := ((s.setPeer device x).count Od.aqTimeouts).aqFails m cause 0
    let u := if told then t else t.raise 0xB002 (natBE 2 device)
    u.aqPeer device = x ∧ u.reg Od.aqTimeouts = Od.aqTimeouts.counted (s.reg Od.aqTimeouts) 1 := by
  intro t u
  obtain ⟨peers, timeouts⟩ := State.keepsPeers_aqFails ((s.setPeer device x).count Od.aqTimeouts) m cause 0
  have final : t.KeepsPeers u := by
    simp only [u]
    split
    · exact ⟨rfl, rfl⟩
    · exact (State.speaks_raise ..).keepsPeers
  refine ⟨?_, ?_⟩
  · rw [State.aqPeer, final.1, peers, State.count_aq]
    exact State.aqPeer_setPeer s device x
  · rw [final.2, timeouts, State.reg_count]
    rfl

/-- The peer a datagram comes from: the one whose far address, UDP port and lane are the datagram's (R379). -/
def State.peerFrom (s : State) (src : Src) (port : Nat) : Option (Nat × AqPeer) :=
  s.aq.peers.find? fun p => match s.farDst p.1 with
    | some d => d.addr == src.addr && d.udp == src.udp && d.port == port
    | none => false

theorem State.advance_peerFrom (s : State) (dt : Nat) (src : Src) (port : Nat) : (s.advance dt).peerFrom src port = s.peerFrom src port := by
  simp only [State.peerFrom, State.advance_aq, State.advance_farDst]

/-- A datagram from a peer with a message in flight ends the wait where it is that message's reply, and is nothing otherwise. -/
theorem exec_aqReplyRx {s : State} {port d : Nat} {src : Src} {bytes : Bytes} {x : AqPeer} {m : AqMsg} (dt : Nat)
    (found : s.peerFrom src port = some (d, x)) (flying : x.inFlight = some m) :
    exec (.aqReplyRx dt port src bytes) s = finish s
      (if (s.advance dt).domOn 1 = false ∨ bytes.length < 16 ∨ u16 bytes 0 ≠ 0x4F44 ∨ u8 bytes 2 ≠ 1 ∨ u8 bytes 3 ≠ 128 + m.cmd ∨
          u16 bytes 4 ≠ x.seq ∨ u16 bytes 10 ≠ (bytes.drop 16).length then s.advance dt
       else ((s.advance dt).setPeer d { x with inFlight := none, seq := (x.seq + 1) % 65536, unreachable := false }).farAnswer m
          (u16 bytes 8) (bytes.drop 16)) := by
  show finish s (match (s.advance dt).peerFrom src port with
    | some (d, x) => match x.inFlight with
      | some m =>
        if (s.advance dt).domOn 1 = false ∨ bytes.length < 16 ∨ u16 bytes 0 ≠ 0x4F44 ∨ u8 bytes 2 ≠ 1 ∨ u8 bytes 3 ≠ 128 + m.cmd ∨
          u16 bytes 4 ≠ x.seq ∨ u16 bytes 10 ≠ (bytes.drop 16).length then s.advance dt
        else ((s.advance dt).setPeer d { x with inFlight := none, seq := (x.seq + 1) % 65536, unreachable := false }).farAnswer m
          (u16 bytes 8) (bytes.drop 16)
      | none => s.advance dt
    | none => s.advance dt) = _
  simp only [State.advance_peerFrom, found, flying]

/-- Settles O52: a peer's message by whether one is in flight, and the wait by the tries it has left. -/
theorem routedMessagesAreForwardedOnce : Obligations.RoutedMessagesAreForwardedOnce := by
  unfold Obligations.RoutedMessagesAreForwardedOnce
  refine ⟨fun s dt device m rest on free queue => ?forward, fun s dt port d src bytes x m on found flying len magic version cmd fits =>
      ⟨fun seq => ?answer, fun seq => ?other⟩,
    fun s device m on flying => ⟨fun tries => ?again, fun out => ?giveUp⟩, fun s tile w on found => ?param⟩
  case forward =>
    show execAqForwardSend dt device s = _
    rw [execAqForwardSend]
    simp only [State.advance_aqPeer, free, queue, State.advance_domOn, on, Bool.true_eq_false, if_false, State.advance_reg, finish]
  case answer =>
    have answers : ¬ ((s.advance dt).domOn 1 = false ∨ bytes.length < 16 ∨ u16 bytes 0 ≠ 0x4F44 ∨ u8 bytes 2 ≠ 1 ∨ u8 bytes 3 ≠ 128 + m.cmd ∨
        u16 bytes 4 ≠ x.seq ∨ u16 bytes 10 ≠ (bytes.drop 16).length) := by
      simp only [State.advance_domOn, on, Nat.not_lt.mpr len, magic, version, cmd, seq, fits, ne_eq, not_true_eq_false, Bool.true_eq_false,
        or_self, not_false_iff]
    rw [exec_aqReplyRx dt found flying, if_neg answers, finish]
  case other =>
    rw [exec_aqReplyRx dt found flying, if_pos (.inr (.inr (.inr (.inr (.inr (.inl seq)))))), finish]
  case again =>
    show execAqTimeout device s = _
    rw [execAqTimeout]
    simp only [flying, on, Bool.true_eq_false, if_false, State.goTo_reg, tries, if_true, finish]
  case giveUp =>
    have run : exec (.aqTimeout device) s = .next (State.ended s
        (let t := (s.goTo (s.aqPeer device).deadline).setPeer device
          { s.aqPeer device with inFlight := none, seq := ((s.aqPeer device).seq + 1) % 65536, unreachable := true }
         let down := match t.farDst device with | some d => !(t.port d.port).up | none => true
         let t := (t.count Od.aqTimeouts).aqFails m (if down then 2 else 1) 0
         if (s.aqPeer device).unreachable then t else t.raise 0xB002 (natBE 2 device))) := by
      show execAqTimeout device s = _
      rw [execAqTimeout]
      simp only [flying, on, Bool.true_eq_false, if_false, State.goTo_reg, Nat.not_lt.mpr out, finish] <;> rfl
    obtain ⟨peer, timeouts⟩ := State.aqGivesUp (s.goTo (s.aqPeer device).deadline) _ device m _ (s.aqPeer device).unreachable
    exact ⟨_, run, (congrArg AqPeer.inFlight peer).trans rfl, (congrArg AqPeer.unreachable peer).trans rfl, timeouts⟩
  case param =>
    show execAqParamTimeout tile s = _
    rw [execAqParamTimeout]
    simp only [found, on, Bool.true_eq_false, if_false, finish]

end Sys2Proof.Machine

/-!
PROOFS. Lamp ports: chains, DMX, RDM and matrix groups (R312–R337).
-/
namespace Sys2Proof.Machine

theorem State.lp_setLp {s : State} {p : Nat} (h : p < s.lamp.ports.length) (x : LampPort) : (s.setLp p x).lp p = x := getD_setAt_self h ..
theorem State.mg_setMg {s : State} {g : Nat} (h : g < s.lamp.groups.length) (x : Matrix) : (s.setMg g x).mg g = x := getD_setAt_self h ..

theorem State.advance_lampRuns (s : State) (dt p mode : Nat) : (s.advance dt).lampRuns p mode = s.lampRuns p mode := by rw [State.advance_eq]; rfl
theorem State.advance_gate (s : State) (dt : Nat) : (s.advance dt).gate = s.gate := by rw [State.advance_eq]; rfl
theorem State.advance_lp (s : State) (dt p : Nat) : (s.advance dt).lp p = s.lp p := by rw [State.lp, State.advance_lamp, State.lp]

theorem State.alive_of_domOn {s : State} {d : Nat} (h : s.domOn d = true) : s.alive = true := by
  rw [State.domOn, Bool.and_eq_true] at h
  exact h.1

theorem State.alive_of_lampRuns {s : State} {p mode : Nat} (h : s.lampRuns p mode = true) : s.alive = true := by
  simp only [State.lampRuns, Bool.and_eq_true] at h
  exact State.alive_of_domOn h.1.1

theorem State.advance_now {s : State} (h : s.alive = true) (dt : Nat) : (s.advance dt).now = s.now + dt := by
  rw [State.advance_eq, h]
  rfl

/-! ## Chains (R319–R321) -/

/-- The port as its return window closes with `bits`. -/
def LampPort.closeWindow (x : LampPort) (bits : List Bool) (loop : Nat) : LampPort :=
  let res := chainResult bits
  let extra := bits.length - 16
  let unit := 8 * chainLedBytes x.sentRec
  let measured := if res = 0 then chainLeds x.sentRec
    else if res = 1 then (if extra % unit = 0 then chainLeds x.sentRec - extra / unit else 0xFFFF) else x.measured
  { x with
    window := none, lastResult := res, measured := measured
    loops := if res == 0 then pushLast 8 x.loops (5 * (loop : Int) - 4 * (u16 x.sentRec 10 : Int)) else x.loops
    okSeen := if res == 0 then x.okSeen + 1 else x.okSeen
    goodRun := if res == 0 then x.goodRun + 1 else 0
    badRun := if res == 0 then 0 else x.badRun + 1 }

/-- The window of a chain closes: the port as its result makes it, the fault raised or ended. -/
theorem exec_chainReturnWindowClose {s : State} {p at_ : Nat} (bits : List Bool) (loop : Nat) (hp : p < 48) (runs : s.lampRuns p 1 = true)
    (window : (s.lp p).window = some at_) : exec (.chainReturnWindowClose p bits loop) s = .next (State.ended s
      (let x := (s.lp p).closeWindow bits loop
       let t := if chainResult bits == 0 then s.goTo at_ else (s.goTo at_).count Od.chainCheckFails 1 p
       if x.fault = false ∧ t.reg Od.chainFail ≤ x.badRun then (t.setLp p { x with fault := true }).raise 0x6001 (natBE 1 p ++ natBE 1 (chainResult bits))
       else if x.fault ∧ t.reg Od.chainFail ≤ x.goodRun then (t.setLp p { x with fault := false }).raise 0x6002 (natBE 1 p ++ natBE 2 x.measured)
       else t.setLp p x)) := by
  show execChainReturnWindowClose p bits loop s = _
  rw [execChainReturnWindowClose, window]
  have small : ¬(48 ≤ p ∨ s.lampRuns p 1 = false) := by
    rintro (big | off)
    · omega
    · rw [runs] at off
      cases off
  simp only [small, if_false, finish]
  rfl

/-- CHAIN_FAIL results in a row raise the fault or end it, and nothing else of the port follows from it. -/
theorem State.faultStep {t : State} {p : Nat} (room : p < t.lamp.ports.length) (x : LampPort) (limit : Nat) (a b : Bytes) :
    let u := if x.fault = false ∧ limit ≤ x.badRun then (t.setLp p { x with fault := true }).raise 0x6001 a
      else if x.fault ∧ limit ≤ x.goodRun then (t.setLp p { x with fault := false }).raise 0x6002 b
      else t.setLp p x
    u.lp p = { x with fault := if x.fault = false ∧ limit ≤ x.badRun then true else if x.fault = true ∧ limit ≤ x.goodRun then false else x.fault } ∧
      u.tm = t.tm ∧ ∀ r i, u.reg r i = t.reg r i := by
  intro u
  simp only [u]
  split
  · exact ⟨State.lp_setLp room _, rfl, fun _ _ => rfl⟩
  · split
    · exact ⟨State.lp_setLp room _, rfl, fun _ _ => rfl⟩
    · exact ⟨State.lp_setLp room _, rfl, fun _ _ => rfl⟩

theorem chainResult_spec (l : List Bool) : (chainResult l = 0 ↔ l = markerBits) ∧ (chainResult l = 3 ↔ l = []) ∧
    (chainResult l = 2 ↔ l ≠ [] ∧ l.length < 16) ∧ (chainResult l = 1 ↔ 16 < l.length ∧ l.drop (l.length - 16) = markerBits) := by
  have size : markerBits.length = 16 := rfl
  unfold chainResult
  split
  next ok =>
    subst ok
    simp only [size]
    decide
  next notOk =>
    split
    next none =>
      have nil := List.isEmpty_iff.mp none
      subst nil
      decide
    next some =>
      have nonempty : l ≠ [] := fun h => some (List.isEmpty_iff.mpr h)
      split
      next short => simp [notOk, nonempty, short, Nat.not_lt.mpr short.le]
      next long =>
        have exact16 : l.length = 16 → ¬l.drop (l.length - 16) = markerBits := fun h eq => notOk (by rwa [h, Nat.sub_self, List.drop_zero] at eq)
        split
        next tail =>
          have more : 16 < l.length := by
            rcases Nat.lt_or_eq_of_le (Nat.not_lt.mp long) with h | h
            · exact h
            · exact absurd tail (exact16 h.symm)
          simp [notOk, nonempty, long, more, tail]
        next other => simp [notOk, nonempty, long, other]

/-! ## RDM (R326, R328) -/

/-- What ends a message of the aqueduct leaves of the lamp ports and of time. -/
theorem State.aqFarError_keeps (s : State) (m : AqMsg) (cause far : Nat) (item : Nat × Nat) :
    (s.aqFarError m cause far item).lamp = s.lamp ∧ (s.aqFarError m cause far item).tm = s.tm := by
  unfold State.aqFarError
  exact ⟨rfl, rfl⟩

theorem State.aqReply_keeps (s : State) (m : AqMsg) (st : Nat) (p : Bytes) :
    (s.aqReply m st p).lamp = s.lamp ∧ (s.aqReply m st p).tm = s.tm := by
  unfold State.aqReply
  split
  · exact ⟨rfl, rfl⟩
  · split <;> exact ⟨(State.speaks_reply ..).lamp, (State.speaks_reply ..).tm⟩

theorem State.aqErrors_keeps (s : State) (m : AqMsg) (cause : Nat) (items : List (Nat × Nat × Nat)) :
    (s.aqErrors m cause items).lamp = s.lamp ∧ (s.aqErrors m cause items).tm = s.tm := by
  unfold State.aqErrors
  refine List.foldlRecOn (motive := fun (t : State) => t.lamp = s.lamp ∧ t.tm = s.tm) items _ ?_ fun t ⟨lamp, tm⟩ i _ => ?_
  · split <;> exact ⟨rfl, rfl⟩
  · obtain ⟨lamp', tm'⟩ := State.aqFarError_keeps t m cause i.2.2 (i.1, i.2.1)
    exact ⟨lamp'.trans lamp, tm'.trans tm⟩

theorem State.aqFails_keeps (s : State) (m : AqMsg) (cause far : Nat) :
    (s.aqFails m cause far).lamp = s.lamp ∧ (s.aqFails m cause far).tm = s.tm := by
  obtain ⟨lamp, tm⟩ := State.aqErrors_keeps s m cause (m.items.map fun i => (i.1, i.2.1, far))
  obtain ⟨lamp', tm'⟩ := State.aqReply_keeps (s.aqErrors m cause (m.items.map fun i => (i.1, i.2.1, far))) m stFarError
    (m.items.flatMap fun i => aqItem m.cmd i.1 i.2.1 0 stFarError [])
  exact ⟨lamp'.trans lamp, tm'.trans tm⟩

theorem State.rdmDone_keeps (s : State) (p : Nat) (req : Option RdmReq) (rec_ : Option Bytes) :
    (s.rdmDone p req rec_).lamp = s.lamp ∧ (s.rdmDone p req rec_).tm = s.tm := by
  unfold State.rdmDone
  split
  · exact ⟨rfl, rfl⟩
  · exact ⟨rfl, rfl⟩
  · split
    · exact ⟨rfl, rfl⟩
    · split
      · exact ⟨rfl, rfl⟩
      · extract_lets _ t
        split
        · exact State.aqReply_keeps t ..
        · exact State.aqFails_keeps t ..

/-- The instant at which the request that ends `bytes` long has left. -/
def State.rdmEnd (s : State) (dt p : Nat) (q : RdmReq) : Nat :=
  ((s.advance dt).goTo (s.lp p).busyEnd).now + u16 (dmxRec s.tl.pres p) 2 * 1000 + u8 (dmxRec s.tl.pres p) 4 * 1000 +
    (rdmPacket q.bytes s.fresh).length * 44000

/-- The device as a port's RDM request is on its wire. -/
def State.rdmSent (s : State) (dt p : Nat) (q : RdmReq) (rest : List RdmReq) : State :=
  let t := (s.advance dt).goTo (s.lp p).busyEnd
  let line : LineOut := { port := p, kind := 3, start := t.now, rec_ := dmxRec s.tl.pres p, bytes := rdmPacket q.bytes s.fresh }
  ({ t with lamp := { s.lamp with lines := line :: s.lamp.lines } } : State).draw.setLp p
    { s.lp p with busy := 3, busyEnd := s.rdmEnd dt p q, rdmQ := rest, rdmNow := some { q with tries := q.tries + 1 }, pins := [1, 0, 2] }

/-- A request that is broadcast is finished as it is sent. -/
theorem State.rdmFinish_rdmDone {t : State} {p : Nat} (hl : p < t.lamp.ports.length) (rec_ : Bytes) (end_ : Nat) (req : Option RdmReq) :
    let v := ((t.rdmFinish p rec_).setLp p { (t.rdmFinish p rec_).lp p with busyEnd := end_ }).rdmDone p req (some rec_)
    v.tm = t.tm ∧ v.lamp.lines = t.lamp.lines ∧ (v.lp p).rdmQ = (t.lp p).rdmQ ∧ (v.lp p).rdmNow = none := by
  intro v
  obtain ⟨lamp, tm⟩ := State.rdmDone_keeps ((t.rdmFinish p rec_).setLp p { (t.rdmFinish p rec_).lp p with busyEnd := end_ }) p req (some rec_)
  have finished : (t.rdmFinish p rec_).lp p = { t.lp p with
      rdmNow := none, results := pushLast 32 (t.lp p).results rec_, busyEnd := t.now + 176000, sinceRdm := 0 } := State.lp_setLp hl _
  have room : p < (t.rdmFinish p rec_).lamp.ports.length := (length_setAt ..).trans_gt hl
  have lp : v.lp p = { (t.rdmFinish p rec_).lp p with busyEnd := end_ } := by
    rw [State.lp, lamp, ← State.lp, State.lp_setLp room]
  refine ⟨tm, by rw [lamp]; rfl, ?_, ?_⟩
  · rw [lp, finished]
  · rw [lp, finished]

/-- An RDM request goes out in the gap; one that is broadcast ends at once (R326). -/
theorem exec_rdmTransaction {s : State} {dt p : Nat} {q : RdmReq} {rest : List RdmReq}
    (outside : ¬(48 ≤ p ∨ s.lampRuns p 2 = false ∨ s.gate = false ∨ bit (u8 (dmxRec s.tl.pres p) 12) 0 = false ∨ (s.lp p).rdmNow.isSome = true ∨
      (s.lp p).sinceRdm < u8 (dmxRec s.tl.pres p) 13)) (queue : (s.lp p).rdmQ = q :: rest) (hl : p < s.lamp.ports.length) :
    ∃ u, exec (.rdmTransaction dt p) s = .next (State.ended s u) ∧ u.tm = ((s.advance dt).goTo (s.lp p).busyEnd).tm ∧
      u.lamp.lines = { port := p, kind := 3, start := ((s.advance dt).goTo (s.lp p).busyEnd).now, rec_ := dmxRec s.tl.pres p, bytes := rdmPacket q.bytes s.fresh } ::
        s.lamp.lines ∧ (u.lp p).rdmQ = rest ∧
      (u.lp p).rdmNow = (if rdmBroadcast (rdmDest q.bytes) then none else some { q with tries := q.tries + 1 }) := by
  have run : exec (.rdmTransaction dt p) s = .next (State.ended s
      (let t := s.rdmSent dt p q rest
       let rec_ := rdmResult (rdmTag q.bytes) 0 0 []
       if rdmBroadcast (rdmDest q.bytes) then
         ((t.rdmFinish p rec_).setLp p { (t.rdmFinish p rec_).lp p with busyEnd := s.rdmEnd dt p q + 176000 }).rdmDone p (some q) (some rec_)
       else t)) := by
    show execRdmTransaction dt p s = _
    rw [execRdmTransaction]
    simp only [State.advance_lampRuns, State.advance_gate, State.advance_lp, State.advance_tl, outside, if_false, queue, State.goTo_lamp,
      State.advance_lamp, State.goTo_fresh, State.advance_fresh, finish, State.rdmSent, State.rdmEnd]
  have sent : (s.rdmSent dt p q rest).lp p = { s.lp p with
      busy := 3, busyEnd := s.rdmEnd dt p q, rdmQ := rest, rdmNow := some { q with tries := q.tries + 1 }, pins := [1, 0, 2] } :=
    State.lp_setLp (s := State.draw { (s.advance dt).goTo (s.lp p).busyEnd with lamp := { s.lamp with lines := _ } }) hl _
  refine ⟨_, run, ?_⟩
  simp only []
  split
  · obtain ⟨tm, lines, rdmQ, rdmNow⟩ := State.rdmFinish_rdmDone (t := s.rdmSent dt p q rest) (p := p) ((length_setAt ..).trans_gt hl)
      (rdmResult (rdmTag q.bytes) 0 0 []) (s.rdmEnd dt p q + 176000) (some q)
    exact ⟨tm, lines, rdmQ.trans (by rw [sent]), rdmNow⟩
  · exact ⟨rfl, rfl, by rw [sent], by rw [sent]⟩

theorem State.rdmTakes_spec {s : State} {p : Nat} {b : Bytes} {q : RdmReq} (now : (s.lp p).rdmNow = some q) :
    (rdmGood b = true →
      let rec_ := rdmResult (rdmTag q.bytes) (u8 b 16) (if u8 b 16 = 1 ∨ u8 b 16 = 2 then u16 (slice b 24 (u8 b 23)) 0 else 0) (slice b 24 (u8 b 23))
      s.rdmTakes p b = (s.rdmFinish p rec_, some rec_)) ∧
    (rdmGood b = false → s.reg Od.rdmRetries < q.tries →
      s.rdmTakes p b = ((s.count Od.rdmBad 1 p).rdmFinish p (rdmResult (rdmTag q.bytes) 5 0 []), some (rdmResult (rdmTag q.bytes) 5 0 []))) ∧
    (rdmGood b = false → q.tries ≤ s.reg Od.rdmRetries →
      s.rdmTakes p b = ((s.count Od.rdmBad 1 p).setLp p
        { s.lp p with rdmNow := none, rdmQ := q :: (s.lp p).rdmQ, busyEnd := s.now + 176000, sinceRdm := 0 }, none)) := by
  have retries : (s.count Od.rdmBad 1 p).reg Od.rdmRetries = s.reg Od.rdmRetries :=
    State.reg_count_ne s 1 (show 0x602100 + 0 ≠ 0x605800 + p by omega)
  have now' : ((s.count Od.rdmBad 1 p).lp p).rdmNow = some q := now
  unfold State.rdmTakes
  refine ⟨fun good => ?_, fun bad out => ?_, fun bad again => ?_⟩
  · simp only [now, good, if_true]
  · simp only [now, bad, Bool.false_eq_true, if_false, State.rdmFails, now', retries, Nat.not_le.mpr out]
  · simp only [now, bad, Bool.false_eq_true, if_false, State.rdmFails, now', retries, again, if_true]
    rfl

/-! ## Matrix groups (R332–R335) -/

/-- What a readback leaves as it is: device time, and what a group shows and is to show. -/
structure State.KeepsScan (g : Nat) (s t : State) : Prop where
  tm : t.tm = s.tm
  room : t.lamp.groups.length = s.lamp.groups.length
  shown : (t.mg g).shown = (s.mg g).shown
  next : (t.mg g).next = (s.mg g).next
  after : (t.mg g).after = (s.mg g).after

namespace State.KeepsScan
variable {g : Nat} {s t u : State}

theorem refl (s : State) : State.KeepsScan g s s := ⟨rfl, rfl, rfl, rfl, rfl⟩

theorem trans (h : State.KeepsScan g s t) (h' : State.KeepsScan g t u) : State.KeepsScan g s u :=
  ⟨h'.tm.trans h.tm, h'.room.trans h.room, h'.shown.trans h.shown, h'.next.trans h.next, h'.after.trans h.after⟩

theorem foldl {α : Type} {f : State → α → State} (room : g < s.lamp.groups.length)
    (h : ∀ t a, g < t.lamp.groups.length → State.KeepsScan g t (f t a)) (l : List α) : State.KeepsScan g s (l.foldl f s) :=
  List.foldlRecOn (motive := State.KeepsScan g s) l f (refl s) fun t ht a _ => ht.trans (h t a (by rw [ht.room]; exact room))

theorem of_mg (room : g < s.lamp.groups.length) {x : Matrix} (groups : t.lamp.groups = setAt s.lamp.groups g x) (tm : t.tm = s.tm)
    (shown : x.shown = (s.mg g).shown) (next : x.next = (s.mg g).next) (after : x.after = (s.mg g).after) : State.KeepsScan g s t := by
  have mg : t.mg g = x := by
    rw [State.mg, groups]
    exact getD_setAt_self room ..
  exact ⟨tm, by rw [groups]; exact length_setAt .., by rw [mg, shown], by rw [mg, next], by rw [mg, after]⟩

end State.KeepsScan

theorem State.keepsScan_mxTest {s : State} {g : Nat} (room : g < s.lamp.groups.length) (confirm line row col kind : Nat) (bad : Bool) :
    State.KeepsScan g s (s.mxTest g confirm line row col kind bad) := by
  unfold State.mxTest
  extract_lets x same _ t rest arg u
  split
  · split
    · exact .of_mg room rfl rfl rfl rfl rfl
    · split <;> exact .of_mg room rfl rfl rfl rfl rfl
  · split
    · exact .of_mg room rfl rfl rfl rfl rfl
    · split <;> exact .of_mg room rfl rfl rfl rfl rfl

theorem State.keepsScan_mxReadback {s : State} {g : Nat} (room : g < s.lamp.groups.length) (r : Bytes) (status : List Nat) :
    State.KeepsScan g s (s.mxReadback g r status) := by
  unfold State.mxReadback
  extract_lets x row t lines
  have counted : State.KeepsScan g s t := .of_mg room rfl rfl rfl rfl rfl
  exact counted.trans (.foldl (by rw [counted.room]; exact room) (fun t n room => State.keepsScan_mxTest room ..) _)

/-- The group as the scan (k, m) of its settings `r` starts. -/
def State.scanned (s : State) (g k m : Nat) (r : Bytes) : State :=
  let x := s.mg g
  let start := scanStart s.gridRate (mxRefresh r) k m
  let t := s.goTo start
  let due : Bool := m == 0 || decide (x.nextAt ≤ t.now)
  t.setMg g { x with shown := if due && x.next.isSome then x.next else x.shown, next := if due then none else x.next
                     scansSince := x.scansSince + 1, after := start + 1 }

theorem State.scanned_mg {s : State} {g : Nat} (hl : g < s.lamp.groups.length) (k m : Nat) (r : Bytes) :
    let x := s.mg g
    let t := s.goTo (scanStart s.gridRate (mxRefresh r) k m)
    ((s.scanned g k m r).mg g).shown = (if (m = 0 ∨ x.nextAt ≤ t.now) ∧ x.next.isSome = true then x.next else x.shown) ∧
      ((s.scanned g k m r).mg g).next = (if m = 0 ∨ x.nextAt ≤ t.now then none else x.next) ∧
      ((s.scanned g k m r).mg g).after = scanStart s.gridRate (mxRefresh r) k m + 1 := by
  intro x t
  unfold State.scanned
  extract_lets start u due
  rw [State.mg_setMg (s := u) hl]
  simp only [due, Bool.and_eq_true, Bool.or_eq_true, beq_iff_eq, decide_eq_true_eq]
  exact ⟨rfl, rfl, rfl⟩

/-- Pins set port by port leave every matrix group and device time. -/
theorem State.keepsScan_pins (t : State) (g : Nat) (l : List (List Nat × Nat)) :
    State.KeepsScan g t (l.foldl (fun (s : State) (li : List Nat × Nat) => s.setLp (6 * g + li.2) { s.lp (6 * g + li.2) with pins := li.1 }) t) :=
  List.foldlRecOn (motive := State.KeepsScan g t) l _ (.refl t) fun _ ht _ _ => ht.trans ⟨rfl, rfl, rfl, rfl, rfl⟩

/-- So does a readback behind them, where one is due. -/
theorem State.keepsScan_readRow {t : State} {g : Nat} (room : g < t.lamp.groups.length) (l : List (List Nat × Nat)) (r : Bytes) (status : List Nat) :
    State.KeepsScan g t
      (let u := l.foldl (fun (s : State) (li : List Nat × Nat) => s.setLp (6 * g + li.2) { s.lp (6 * g + li.2) with pins := li.1 }) t
       if u16 r 16 ≠ 0 ∧ u16 r 16 ≤ (u.mg g).scansSince then u.mxReadback g r status else u) := by
  have pins := State.keepsScan_pins t g l
  extract_lets u
  split
  · exact pins.trans (State.keepsScan_mxReadback (by rw [pins.room]; exact room) ..)
  · exact pins

/-- A scan starts; pins and a readback leave what the group shows and is to show. -/
theorem exec_matrixScanStart {s : State} {g k m : Nat} (status : List Nat) (hg : g < 8) (hl : g < s.lamp.groups.length) (on : s.domOn 10 = true)
    (gate : s.gate = true) (next : s.nextScan g = (k, m)) (enabled : u8 (matrixRec (s.periodCfg k) g) 0 = 1) :
    ∃ u, exec (.matrixScanStart g status) s = .next (State.ended s u) ∧
      State.KeepsScan g (s.scanned g k m (matrixRec (s.periodCfg k) g)) u := by
  have outside : ¬(8 ≤ g ∨ u8 (matrixRec (s.periodCfg k) g) 0 ≠ 1 ∨ s.domOn 10 = false ∨ s.gate = false) := by
    rw [on, gate, enabled]
    simp only [Bool.true_eq_false, ne_eq, not_true_eq_false, or_false, Nat.not_le.mpr hg, not_false_iff]
  have room : g < (s.scanned g k m (matrixRec (s.periodCfg k) g)).lamp.groups.length := (length_setAt ..).trans_gt hl
  show ∃ u, execMatrixScanStart g status s = .next (State.ended s u) ∧ _
  rw [execMatrixScanStart, next]
  simp only [outside, if_false, finish]
  exact ⟨_, rfl, State.keepsScan_readRow room ..⟩

/-- Settles O53: each lamp port's event moves its own port; what a result or a record says is a lemma of its own. -/
theorem lampPortsDriveTheirFixtures : Obligations.LampPortsDriveTheirFixtures := by
  unfold Obligations.LampPortsDriveTheirFixtures
  refine ⟨fun s p at_ loop bits hp hl runs window => ?chain, chainResult_spec, fun s p hp hl runs gate free => ?dmx,
    fun s dt p q rest hp hl runs gate rdm free gap queue => ?rdm, fun s dt p b hp runs gate t rec_ takes => ?response,
    fun s p b q now => State.rdmTakes_spec now, fun s p hp runs gate busy t rec_ fails => ?timeout,
    fun s p uids hp hl runs gate rdm disc => ?discovery, fun s g status hg hl on gate => ?scan⟩
  case chain =>
    intro x res good bad
    have limit : (if chainResult bits == 0 then s.goTo at_ else (s.goTo at_).count Od.chainCheckFails 1 p).reg Od.chainFail = s.reg Od.chainFail := by
      split
      · rfl
      · exact State.reg_count_ne _ 1 (show 0x601100 + 0 ≠ 0x605200 + p by omega)
    have room : p < (if chainResult bits == 0 then s.goTo at_ else (s.goTo at_).count Od.chainCheckFails 1 p).lamp.ports.length := by
      split <;> exact hl
    have now : (if chainResult bits == 0 then s.goTo at_ else (s.goTo at_).count Od.chainCheckFails 1 p).tm = (s.goTo at_).tm := by
      split <;> rfl
    have run := exec_chainReturnWindowClose bits loop hp runs window
    simp only [limit] at run
    obtain ⟨lp, tm, reg⟩ := State.faultStep room ((s.lp p).closeWindow bits loop) (s.reg Od.chainFail) (natBE 1 p ++ natBE 1 (chainResult bits))
      (natBE 1 p ++ natBE 2 ((s.lp p).closeWindow bits loop).measured)
    have badRun : ((s.lp p).closeWindow bits loop).badRun = bad := by
      simp only [LampPort.closeWindow, bad, res, x, beq_iff_eq]
    have goodRun : ((s.lp p).closeWindow bits loop).goodRun = good := by
      simp only [LampPort.closeWindow, good, res, x, beq_iff_eq]
    refine ⟨_, run, congrArg TimeState.now (tm.trans now), by rw [lp]; rfl, by rw [lp]; rfl, by rw [lp]; exact goodRun, by rw [lp]; exact badRun, ?_,
      fun ok => ⟨?_, ?_, ?_⟩, fun fails => ?_⟩
    · rw [lp, badRun, goodRun]
      rfl
    · rw [lp]
      exact if_pos ok
    · rw [lp]
      exact if_pos (beq_iff_eq.mpr ok)
    · rw [reg, if_pos (beq_iff_eq.mpr ok)]
      rfl
    · rw [reg, if_neg (fun ok => fails (beq_iff_eq.mp ok)), State.reg_count]
      rfl
  case dmx =>
    intro x t r slots
    have outside : ¬(48 ≤ p ∨ s.lampRuns p 2 = false ∨ s.gate = false ∨ (s.lp p).rdmNow.isSome = true) := by
      rw [runs, gate, free]
      simp only [Bool.true_eq_false, Option.isSome_none, Bool.false_eq_true, or_false, Nat.not_le.mpr hp, not_false_iff]
    have run : exec (.dmxPacketStart p) s = .next (State.ended s
        (let u := t.setLp p { x with busy := 2, busyEnd := t.now + dmxTime r (dmxSlots r), carried := true, packet := slots
                                     sinceRdm := x.sinceRdm + 1, pins := [1, 1, 2] }
         ({ u with lamp := { u.lamp with lines := { port := p, kind := 2, start := u.now, rec_ := r, bytes := 0#8 :: slots } :: u.lamp.lines } } :
           State).count Od.dmxPackets 1 p)) := by
      show execDmxPacketStart p s = _
      have tl : (if (s.lp p).busy = 0 then s else s.goTo (s.lp p).busyEnd).tl = s.tl := by split <;> rfl
      rw [execDmxPacketStart]
      simp only [outside, if_false, tl, finish] <;> rfl
    have lamp : t.lamp = s.lamp := by
      simp only [t]
      split <;> rfl
    have regs : t.od = s.od := by
      simp only [t]
      split <;> rfl
    have lp := State.lp_setLp (s := t) (p := p) (by rw [lamp]; exact hl)
      { x with busy := 2, busyEnd := t.now + dmxTime r (dmxSlots r), carried := true, packet := slots, sinceRdm := x.sinceRdm + 1, pins := [1, 1, 2] }
    refine ⟨_, run, rfl, (congrArg LampPort.busy lp).trans rfl, (congrArg LampPort.busyEnd lp).trans rfl, (congrArg LampPort.packet lp).trans rfl,
      (congrArg LampPort.carried lp).trans rfl, ?_, ?_⟩
    · exact congrArg (fun l : LampState => { port := p, kind := 2, start := t.now, rec_ := r, bytes := 0#8 :: slots } :: l.lines) lamp
    · rw [State.reg_count]
      exact congrArg (fun o : OdState => Od.dmxPackets.counted (o.regs.num Od.dmxPackets p) 1) regs
  case rdm =>
    have outside : ¬(48 ≤ p ∨ s.lampRuns p 2 = false ∨ s.gate = false ∨ bit (u8 (dmxRec s.tl.pres p) 12) 0 = false ∨ (s.lp p).rdmNow.isSome = true ∨
        (s.lp p).sinceRdm < u8 (dmxRec s.tl.pres p) 13) := by
      rw [runs, gate, free, rdm]
      simp only [Bool.true_eq_false, Option.isSome_none, Bool.false_eq_true, or_false, Nat.not_le.mpr hp, Nat.not_lt.mpr gap, not_false_iff]
    have now : ((s.advance dt).goTo (s.lp p).busyEnd).now = max (s.now + dt) (s.lp p).busyEnd := by
      rw [← State.advance_now (State.alive_of_lampRuns runs)]
      rfl
    obtain ⟨u, run, utm, lines, lp⟩ := exec_rdmTransaction outside queue hl
    exact ⟨u, run, by rw [State.now, utm, ← State.now, now], lp.1, by rw [lines, show u.now = _ from congrArg TimeState.now utm]; rfl, lp.2⟩
  case response =>
    have outside : ¬(48 ≤ p ∨ s.lampRuns p 2 = false ∨ s.gate = false) := by
      rw [runs, gate]
      simp only [Bool.true_eq_false, or_false, Nat.not_le.mpr hp, not_false_iff]
    show execRdmResponseRx dt p b s = _
    rw [execRdmResponseRx]
    simp only [State.advance_lampRuns, State.advance_gate, outside, if_false, State.advance_lp, takes, finish]
  case timeout =>
    have outside : ¬(48 ≤ p ∨ s.lampRuns p 2 = false ∨ s.gate = false ∨ (s.lp p).rdmNow.isNone = true) := by
      rw [runs, gate, ← Option.not_isSome, busy]
      simp only [Bool.true_eq_false, Bool.not_true, Bool.false_eq_true, or_false, Nat.not_le.mpr hp, not_false_iff]
    show execRdmTimeout p s = _
    rw [execRdmTimeout]
    simp only [outside, if_false, fails, finish]
  case discovery =>
    intro x found old stay new
    have outside : ¬(48 ≤ p ∨ s.lampRuns p 2 = false ∨ s.gate = false ∨ bit (u8 (dmxRec s.tl.pres p) 12) 0 = false ∨
        bit (u8 (dmxRec s.tl.pres p) 12) 1 = false) := by
      rw [runs, gate, rdm, disc]
      simp only [Bool.true_eq_false, or_false, Nat.not_le.mpr hp, not_false_iff]
    have run : exec (.rdmDiscovery p uids) s = .next (State.ended s
        (let t := (((s.goTo x.nextDisc).setLp p { x with
             uids := stay ++ (new.take (512 - stay.length)).map (fun u => (u, 0))
             nextDisc := (s.goTo x.nextDisc).now + (s.goTo x.nextDisc).reg Od.rdmDiscPeriod * 1000000000 }).count Od.rdmUidOverflow
               (new.length - (512 - stay.length)) p)
         (old.filter fun u => decide (2 ≤ u.2)).foldl (fun (s : State) u => s.raise 0x6005 (natBE 1 p ++ natBE 6 u.1))
           ((new.take (512 - stay.length)).foldl (fun (s : State) u => s.raise 0x6004 (natBE 1 p ++ natBE 6 u)) t))) := by
      show execRdmDiscovery p uids s = _
      rw [execRdmDiscovery]
      simp only [outside, if_false, finish]
      rfl
    have spoke (t : State) : t.Speaks ((old.filter fun u => decide (2 ≤ u.2)).foldl (fun (s : State) u => s.raise 0x6005 (natBE 1 p ++ natBE 6 u.1))
        ((new.take (512 - stay.length)).foldl (fun (s : State) u => s.raise 0x6004 (natBE 1 p ++ natBE 6 u)) t)) :=
      .after (.foldl (fun s u => s.speaks_raise ..) _ _) (.foldl (fun s u => s.speaks_raise ..) _ _)
    have lp := State.lp_setLp (s := s.goTo x.nextDisc) hl { x with
      uids := stay ++ (new.take (512 - stay.length)).map (fun u => (u, 0))
      nextDisc := (s.goTo x.nextDisc).now + (s.goTo x.nextDisc).reg Od.rdmDiscPeriod * 1000000000 }
    refine ⟨_, run, congrArg TimeState.now (spoke _).tm, ?_, ?_⟩
    · rw [State.lp, (spoke _).lamp]
      exact congrArg LampPort.uids lp
    · refine Eq.trans ?_ (congrArg (· + s.reg Od.rdmDiscPeriod * 1000000000) (congrArg TimeState.now (spoke _).tm)).symm
      rw [State.lp, (spoke _).lamp]
      exact congrArg LampPort.nextDisc lp
  case scan =>
    rcases next : s.nextScan g with ⟨k, m⟩
    intro enabled x
    obtain ⟨u, run, keeps⟩ := exec_matrixScanStart status hg hl on gate next enabled
    obtain ⟨shown, then_, after⟩ := State.scanned_mg hl k m (matrixRec (s.periodCfg k) g)
    have now : u.now = (s.goTo (scanStart s.gridRate (mxRefresh (matrixRec (s.periodCfg k) g)) k m)).now := congrArg TimeState.now keeps.tm
    refine ⟨u, run, now, ?_, ?_, keeps.after.trans after⟩
    · rw [keeps.shown, shown, now]
    · rw [keeps.next, then_, now]

end Sys2Proof.Machine

/-!
PROOFS. String controllers, their loops, bursts and thermistors (R344–R354).
-/
namespace Sys2Proof.Machine

theorem State.str_setStr {s : State} {n : Nat} (h : n < s.strs.ctl.length) (c : StringSt) : (s.setStr n c).str n = c := getD_setAt_self h ..

theorem State.advance_str (s : State) (dt n : Nat) : (s.advance dt).str n = s.str n := by rw [State.str, State.advance_strs, State.str]

/-! ## What the pieces of a period keep (R345–R354) -/

theorem State.stringFault_keeps (s : State) (n st : Nat) :
    (s.stringFault n st).strs.ctl.length = s.strs.ctl.length ∧ (s.stringFault n st).tm = s.tm := ⟨length_setAt .., rfl⟩

theorem State.stringTest_keeps (s : State) (n : Nat) :
    (s.stringTest n).strs.ctl.length = s.strs.ctl.length ∧ (s.stringTest n).tm = s.tm := by
  unfold State.stringTest
  extract_lets c r c' t
  split
  · exact ⟨rfl, rfl⟩
  · obtain ⟨len, tm⟩ := State.stringFault_keeps t n 1
    obtain ⟨len', tm'⟩ := State.stringFault_keeps t n 2
    have here : t.strs.ctl.length = s.strs.ctl.length := length_setAt ..
    split
    · exact ⟨len.trans here, tm⟩
    · split
      · exact ⟨len'.trans here, tm'⟩
      · exact ⟨here, rfl⟩

theorem State.enableStr_enabled (s : State) (st : Store) (n : Nat) (c : StringSt) : (s.enableStr st n c).enabled = true := by
  unfold State.enableStr
  split
  next on => exact on
  · rfl

theorem State.heatStr_enabled (s : State) (st : Store) (n : Nat) (c : StringSt) : (s.heatStr st n c).enabled = c.enabled := by
  unfold State.heatStr
  extract_lets off
  split
  · rfl
  · split <;> rfl

/-! ## The loop, the sensor's gain and the derating (R347, R352, R353) -/

theorem StringSt.loop_bounds {cfg : Bytes} (c : StringSt) (code : Nat) (h : u16 cfg 12 ≤ u16 cfg 14) :
    u16 cfg 12 ≤ (c.loop cfg code).duty ∧ (c.loop cfg code).duty ≤ u16 cfg 14 ∧ (c.loop cfg code).iMeas = code := by
  unfold StringSt.loop
  extract_lets e lo hi pushed acc duty
  refine ⟨?_, ?_, rfl⟩ <;> simp only [duty, lo, hi] <;> omega

theorem gainNext_spec (g target step : Nat) : gainNext g target step ≤ g + step ∧ g ≤ gainNext g target step + step ∧
    (g ≤ target + step → target ≤ g + step → gainNext g target step = target) := by
  unfold gainNext
  split <;> omega

theorem derateOf_spec {r : Bytes} (t : Int) (h : s16 r 0 < s16 r 2) : (t ≤ s16 r 0 → derateOf r t = 32768) ∧
    (s16 r 2 ≤ t → derateOf r t = u16 r 4) ∧ (u16 r 4 ≤ 32768 → u16 r 4 ≤ derateOf r t ∧ derateOf r t ≤ 32768) := by
  unfold derateOf
  extract_lets td tm fmin
  refine ⟨fun cool => if_pos cool, fun hot => ?_, fun top => ?_⟩
  · rw [if_neg (by omega), if_neg (by omega)]
  · split
    · exact ⟨top, le_rfl⟩
    · split
      next warm below =>
        have part : (32768 - fmin) * (t - td).toNat / (tm - td).toNat ≤ 32768 - fmin :=
          Nat.div_le_of_le_mul ((Nat.mul_comm _ _).le.trans (Nat.mul_le_mul_right _ (by omega)))
        have low : fmin ≤ 32768 := top
        generalize (32768 - fmin) * (t - td).toNat / (tm - td).toNat = cut at part ⊢
        exact ⟨show fmin ≤ 32768 - cut by omega, Nat.sub_le ..⟩
      · exact ⟨le_rfl, top⟩

/-! ## Thermistors (R353, R354): the heat of a group touches no thermistor -/

theorem State.heatGroup_keeps (s : State) (g : Nat) : (s.heatGroup g).strs.ntcs = s.strs.ntcs ∧ (s.heatGroup g).tm = s.tm := by
  have off (t : State) (l : List Nat) : (l.foldl (fun (s : State) n => let c := s.str n; if c.state = 4 then s.setStr n { c with state := c.before } else s) t).strs.ntcs =
      t.strs.ntcs ∧ (l.foldl (fun (s : State) n => let c := s.str n; if c.state = 4 then s.setStr n { c with state := c.before } else s) t).tm = t.tm := by
    refine List.foldlRecOn (motive := fun (u : State) => u.strs.ntcs = t.strs.ntcs ∧ u.tm = t.tm) l _ ⟨rfl, rfl⟩ fun u hu n _ => ?_
    simp only []
    split
    · exact hu
    · exact hu
  unfold State.heatGroup
  extract_lets r f x temp arg derating told _ t ctls
  have heated : t.strs.ntcs = s.strs.ntcs ∧ t.tm = s.tm := by
    simp only [t, told]
    split <;> exact ⟨rfl, rfl⟩
  split
  · exact heated
  · extract_lets d tOff on
    split
    · exact heated
    · split
      · exact ⟨(off t ctls).1.trans heated.1, (off t ctls).2.trans heated.2⟩
      · exact heated

theorem State.heatGroups_keep (s : State) (l : List Nat) :
    (l.foldl State.heatGroup s).strs.ntcs = s.strs.ntcs ∧ (l.foldl State.heatGroup s).tm = s.tm :=
  List.foldlRecOn (motive := fun (u : State) => u.strs.ntcs = s.strs.ntcs ∧ u.tm = s.tm) l _ ⟨rfl, rfl⟩
    fun u hu g _ => ⟨(u.heatGroup_keeps g).1.trans hu.1, (u.heatGroup_keeps g).2.trans hu.2⟩

/-- A thermistor's reading is taken; one outside the table is its fault. -/
def State.takeNtc (t : State) (i : Nat) (n : Ntc) : State :=
  let bad := (ntcTemp (t.od.regs.recs Od.ntcTable) n.mean).isNone
  let u := if bad && !n.fault then t.raise 0x6406 (natBE 1 i ++ natBE 2 n.mean) else t
  { u with strs := { u.strs with ntcs := setAt u.strs.ntcs i { n with fault := bad } } }

theorem State.takeNtc_spec {t : State} {i : Nat} (hl : i < t.strs.ntcs.length) (n : Ntc) :
    (t.takeNtc i n).tm = t.tm ∧ (t.takeNtc i n).ntc i = { n with fault := (ntcTemp (t.od.regs.recs Od.ntcTable) n.mean).isNone } := by
  unfold State.takeNtc
  extract_lets bad u
  have told : u.tm = t.tm ∧ u.strs = t.strs := by
    simp only [u]
    split <;> exact ⟨rfl, rfl⟩
  exact ⟨told.1, getD_setAt_self (by rw [told.2]; exact hl) ..⟩

/-! ## The commands -/

/-- The controller as a period begins: its plan's pulses, its pins, and a measurement of d_on where the tick's is due. -/
def StringSt.begun (c : StringSt) (plan : PeriodPlan) (gives : Bool) (edge : Option Nat) (k t0 : Nat) : StringSt :=
  let c := match edge with
    | some e => { c with donTick := some k, measure := some { edge := e } }
    | none => c
  { c with iRef := plan.iRef, rise := plan.rise, steps := plan.steps, rise2 := plan.rise2, steps2 := plan.steps2
           gives := gives, untested := false
           pinA := if c.state = 0 then 1 else 0
           pinB := if plan.steps = 0 ∧ plan.steps2 = 0 then 0 else 1
           after := t0 + 1 }

/-- The state with that controller: what the plan cut is counted, and a burst is noted with its group. -/
def State.periodBegun (s : State) (st : Store) (n t0 : Nat) (plan : PeriodPlan) (c : StringSt) : State :=
  let s := s.setStr n c
  let s := if plan.clipped then s.count Od.senseClips else s
  match stringBinding st n with
  | some (g, ch) =>
    if plan.burst then
      let x := s.strGroup g
      let r := slice (st.tab Od.stringGroup) (8 * g) 8
      s.setStrGroup g { x with burst := some (setAt (x.burst.getD [0, 0, 0, 0]) ch plan.steps)
                               burstEnd := t0 + (u8 r 0 + 1) * st.num Od.wSense }
    else s
  | none => s

theorem State.periodBegun_spec {s : State} {n : Nat} (hl : n < s.strs.ctl.length) (st : Store) (t0 : Nat) (plan : PeriodPlan) (c : StringSt) :
    (s.periodBegun st n t0 plan c).tm = s.tm ∧ (s.periodBegun st n t0 plan c).str n = c := by
  have set := State.str_setStr hl c
  unfold State.periodBegun
  extract_lets t u
  have clipped : u.tm = s.tm ∧ u.str n = c := by
    simp only [u]
    split <;> exact ⟨rfl, set⟩
  split
  · split
    · exact clipped
    · exact clipped
  · exact clipped

theorem StringSt.begun_spec (c : StringSt) (plan : PeriodPlan) (gives : Bool) (edge : Option Nat) (k t0 : Nat) :
    let d := c.begun plan gives edge k t0
    d.enabled = c.enabled ∧ d.state = c.state ∧ d.iRef = plan.iRef ∧ d.rise = plan.rise ∧ d.steps = plan.steps ∧ d.rise2 = plan.rise2 ∧
      d.steps2 = plan.steps2 ∧ d.pinA = (if c.state = 0 then 1 else 0) ∧ d.pinB = (if plan.steps = 0 ∧ plan.steps2 = 0 then 0 else 1) ∧
      d.after = t0 + 1 := by
  cases edge <;> exact ⟨rfl, rfl, rfl, rfl, rfl, rfl, rfl, rfl, rfl, rfl⟩

/-- A period of a controller that runs, by what stands before it and its plan. -/
theorem exec_dimPeriodStart {s : State} {n : Nat} (hn : n < 16) (on : s.domOn 10 = true) (gate : s.gate = true)
    (enabled : u8 (stringCfg (s.periodCfg (s.nextPeriod n).1) n) 0 = 1) :
    let km := s.nextPeriod n
    let st := s.periodCfg km.1
    let tp := s.periodAt km
    let w := (s.stringTest n).goTo (tp.1 - ((s.stringTest n).str n).don)
    let c0 := w.enableStr st n (w.str n)
    let c := w.heatStr st n (if c0.soft then c0.softStart (stringCfg st n) else c0)
    let plan := planPeriod st c n km.1 km.2 tp.1 tp.2
      (ceilDiv (tickTime s.gridRate (km.1 + 1) - tickTime s.gridRate km.1) (max (st.num Od.dimPeriods) 1))
    ∃ gives edge, exec (.dimPeriodStart n) s = .next (State.ended s (w.periodBegun st n tp.1 plan (c.begun plan gives edge km.1 tp.1))) := by
  intro km st tp w c0 c plan
  have outside : ¬(16 ≤ n ∨ u8 (stringCfg st n) 0 ≠ 1 ∨ s.domOn 10 = false ∨ s.gate = false) := by
    rw [on, gate, enabled]
    simp only [Bool.true_eq_false, ne_eq, not_true_eq_false, or_false, Nat.not_le.mpr hn, not_false_iff]
  exact ⟨_, _, congrArg (finish s) (if_neg outside)⟩

/-- The instant of a sample lies in a pulse, a µs behind its edge. -/
def samplePulse (now rise steps : Nat) : Bool := decide (rise + 1000 ≤ now) && decide (4 * now < 4 * rise + 5 * steps)

/-- It is the pulse's last sample. -/
def sampleLast (now rise steps : Nat) : Bool := samplePulse now rise steps && decide (4 * rise + 5 * steps ≤ 4 * (now + 1000))

theorem samplePulse_iff (now rise steps : Nat) : samplePulse now rise steps = true ↔ rise + 1000 ≤ now ∧ 4 * now < 4 * rise + 5 * steps := by
  rw [samplePulse, Bool.and_eq_true, decide_eq_true_eq, decide_eq_true_eq]

theorem sampleLast_iff (now rise steps : Nat) : sampleLast now rise steps = true ↔
    (rise + 1000 ≤ now ∧ 4 * now < 4 * rise + 5 * steps) ∧ 4 * rise + 5 * steps ≤ 4 * (now + 1000) := by
  rw [sampleLast, Bool.and_eq_true, samplePulse_iff, decide_eq_true_eq]

/-- A sample that its string's converter has for it. -/
theorem exec_currentSample {s : State} {dt n code vcode : Nat} (outside : ¬(16 ≤ n ∨ 16383 < code ∨ 16383 < vcode ∨
      u8 (stringCfg s.tl.pres n) 0 ≠ 1 ∨ s.domOn 10 = false ∨ s.gate = false ∨ (s.str n).state ≠ 0 ∨ (s.advance dt).converterTaken n = true)) :
    exec (.currentSample dt n code vcode) s = .next (State.ended s
      (let c := (s.str n).sampleDon n (s.advance dt).now code
       let t := (s.advance dt).setStr n c
       let d : StringSt := { (c.loop (stringCfg s.tl.pres n) code) with vMeas := vcode }
       let v := t.setStr n d
       if samplePulse t.now c.rise c.steps || samplePulse t.now c.rise2 c.steps2 then
         if (sampleLast t.now c.rise c.steps && c.steps2 == 0) || sampleLast t.now c.rise2 c.steps2 then v.stringTest n
         else if sampleLast t.now c.rise c.steps && decide (1600 ≤ c.steps) then ((v.setStr n { d with gives := true }).stringTest n).keepGives n c.gives
         else v
       else t)) := by
  show execCurrentSample dt n code vcode s = _
  rw [execCurrentSample]
  simp only [State.advance_domOn, State.advance_gate, State.advance_tl, State.advance_str, outside, if_false, finish]
  rfl

/-- Settles O54: a period is built from the clean test before it, and each loop is bounded by its clamp. -/
theorem stringsFollowTheirLoops : Obligations.StringsFollowTheirLoops := by
  unfold Obligations.StringsFollowTheirLoops
  refine ⟨fun s n hn hl on gate => ?period, fun s dt n code vcode hn hc hv enabled on gate ok => ⟨fun taken => ?taken, fun free => ?sample⟩,
    fun c cfg code h => c.loop_bounds code h, fun s dt n hn enabled on => ⟨fun ok => ?stop, fun faulty => ?stopped⟩,
    fun s n code vcode hn enabled on gate low high => ?retry,
    fun s g dark lit b hg hl on gate burst => ?burst, gainNext_spec, fun s dt i code hi hl hc on => ?ntc, fun r t h => derateOf_spec t h⟩
  case period =>
    intro km st tp enabled w c0 c plan
    obtain ⟨gives, edge, run⟩ := exec_dimPeriodStart hn on gate enabled
    have room : n < w.strs.ctl.length := (State.stringTest_keeps s n).1.symm ▸ hl
    obtain ⟨tm, str⟩ := State.periodBegun_spec room st tp.1 plan (c.begun plan gives edge km.1 tp.1)
    obtain ⟨on, state, iRef, rise, steps, rise2, steps2, pinA, pinB, after⟩ := StringSt.begun_spec c plan gives edge km.1 tp.1
    have came : c.enabled = true := by
      simp only [c, State.heatStr_enabled]
      split <;> exact State.enableStr_enabled ..
    refine ⟨_, run, congrArg TimeState.now tm, ?_⟩
    rw [str]
    exact ⟨on.trans came, state, iRef, rise, steps, rise2, steps2, pinA, pinB, after⟩
  case taken =>
    show execCurrentSample dt n code vcode s = _
    rw [execCurrentSample]
    simp only [taken, or_true, if_true, finish]
  case sample =>
    intro c t inPulse last v
    have run := exec_currentSample (s := s) (dt := dt) (n := n) (code := code) (vcode := vcode) (by
      rw [enabled, on, gate, ok, free]
      simp only [Bool.true_eq_false, Bool.false_eq_true, ne_eq, not_true_eq_false, or_false, Nat.not_le.mpr hn, Nat.not_lt.mpr hc,
        Nat.not_lt.mpr hv, not_false_iff])
    have pulse : (samplePulse t.now c.rise c.steps || samplePulse t.now c.rise2 c.steps2) = true ↔ inPulse c.rise c.steps ∨ inPulse c.rise2 c.steps2 := by
      rw [Bool.or_eq_true, samplePulse_iff, samplePulse_iff]
    have ends : (sampleLast t.now c.rise c.steps && c.steps2 == 0 || sampleLast t.now c.rise2 c.steps2) = true ↔
        last c.rise c.steps ∧ c.steps2 = 0 ∨ last c.rise2 c.steps2 := by
      rw [Bool.or_eq_true, Bool.and_eq_true, sampleLast_iff, sampleLast_iff, beq_iff_eq]
    have first : (sampleLast t.now c.rise c.steps && decide (1600 ≤ c.steps)) = true ↔ last c.rise c.steps ∧ 1600 ≤ c.steps := by
      rw [Bool.and_eq_true, sampleLast_iff, decide_eq_true_eq]
    refine ⟨fun no no2 => ?_, fun within => ⟨fun lasts => ?_, fun more => ⟨fun one => ?_, fun none => ?_⟩⟩⟩
    · exact run.trans (congrArg (fun t => Host.Outcome.next (State.ended s t)) (if_neg (fun h => (pulse.mp h).elim no no2)))
    · exact run.trans (congrArg (fun t => Host.Outcome.next (State.ended s t)) ((if_pos (pulse.mpr within)).trans (if_pos (ends.mpr lasts))))
    · exact run.trans (congrArg (fun t => Host.Outcome.next (State.ended s t))
        ((if_pos (pulse.mpr within)).trans ((if_neg (fun h => more (ends.mp h))).trans (if_pos (first.mpr one)))))
    · exact run.trans (congrArg (fun t => Host.Outcome.next (State.ended s t))
        ((if_pos (pulse.mpr within)).trans ((if_neg (fun h => more (ends.mp h))).trans (if_neg (fun h => none (first.mp h))))))
  case stop =>
    have outside : ¬(16 ≤ n ∨ s.domOn 10 = false ∨ u8 (stringCfg s.tl.pres n) 0 ≠ 1) := by
      rw [on, enabled]
      simp only [Bool.true_eq_false, ne_eq, not_true_eq_false, or_false, Nat.not_le.mpr hn, not_false_iff]
    show execStageFault dt n s = _
    rw [execStageFault]
    simp only [State.advance_domOn, State.advance_tl, State.advance_str, outside, if_false, ok, if_true, State.stringFault, State.advance_reg, finish]
  case stopped =>
    have outside : ¬(16 ≤ n ∨ s.domOn 10 = false ∨ u8 (stringCfg s.tl.pres n) 0 ≠ 1) := by
      rw [on, enabled]
      simp only [Bool.true_eq_false, ne_eq, not_true_eq_false, or_false, Nat.not_le.mpr hn, not_false_iff]
    show execStageFault dt n s = _
    rw [execStageFault]
    simp only [State.advance_domOn, State.advance_tl, State.advance_str, outside, if_false, faulty, finish]
  case retry =>
    intro cfg u t c
    have outside : ¬(16 ≤ n ∨ s.domOn 10 = false ∨ s.gate = false ∨ u8 (stringCfg s.tl.pres n) 0 ≠ 1 ∨ ¬(1 ≤ (s.str n).state ∧ (s.str n).state ≤ 3)) := by
      rw [on, gate, enabled]
      simp only [Bool.true_eq_false, ne_eq, not_true_eq_false, or_false, Nat.not_le.mpr hn, low, high, and_self, not_false_iff]
    have run : exec (.stringRetry n code vcode) s = .next (State.ended s
        (if c.test cfg = 0 then (t.setStr n { c with state := 0, opens := 0, shorts := 0 }).raise 0x6402 (natBE 2 n)
         else (t.setStr n c).count Od.retryFails)) := congrArg (finish s) (if_neg outside)
    exact ⟨fun clean => run.trans (by rw [if_pos clean]), fun fails => run.trans (by rw [if_neg fails])⟩
  case burst =>
    have outside : ¬(16 ≤ g ∨ s.domOn 10 = false ∨ s.gate = false) := by
      rw [on, gate]
      simp only [Bool.true_eq_false, or_false, Nat.not_le.mpr hg, not_false_iff]
    show execSenseBurstDone g dark lit s = _
    rw [execSenseBurstDone]
    simp only [burst, outside, if_false, State.goTo_tl, finish]
  case ntc =>
    have outside : ¬(4 ≤ i ∨ 16383 < code ∨ (s.advance dt).domOn 10 = false) := by
      rw [State.advance_domOn, on]
      simp only [Bool.true_eq_false, or_false, Nat.not_le.mpr hi, Nat.not_lt.mpr hc, not_false_iff]
    have run : ∃ l : List Nat, exec (.ntcSample dt i code) s = .next (State.ended s (l.foldl State.heatGroup
        ((s.advance dt).takeNtc i { (s.advance dt).ntc i with samples := pushLast 16 ((s.advance dt).ntc i).samples code }))) :=
      ⟨_, congrArg (finish s) (if_neg outside)⟩
    obtain ⟨l, run⟩ := run
    have same : (s.advance dt).ntc i = s.ntc i := by rw [State.ntc, State.advance_strs, State.ntc]
    rw [same] at run
    obtain ⟨tm, ntc⟩ := State.takeNtc_spec (t := s.advance dt) (by rw [State.advance_strs]; exact hl)
      { s.ntc i with samples := pushLast 16 (s.ntc i).samples code }
    obtain ⟨ntcs, tm'⟩ := State.heatGroups_keep ((s.advance dt).takeNtc i { s.ntc i with samples := pushLast 16 (s.ntc i).samples code }) l
    have final := (congrArg (fun l : List Ntc => l.getD i {}) ntcs).trans ntc
    rw [State.advance_od] at final
    exact ⟨_, run, congrArg Ntc.samples final, congrArg Ntc.fault final,
      (congrArg TimeState.now (tm'.trans tm)).trans (State.advance_now (State.alive_of_domOn on) dt)⟩

end Sys2Proof.Machine

/-!
PROOFS. Raster frames and the latch line (R360–R371).
-/
namespace Sys2Proof.Machine

theorem State.advance_rasterOn (s : State) (dt : Nat) : (s.advance dt).rasterOn = s.rasterOn := by rw [State.advance_eq]; rfl

/-- The raster as its frame m of tick k starts (R362, R369, R370). -/
def RasterState.framed (r : RasterState) (k m : Nat) (gate : Bool) : RasterState :=
  let start := rasterStart r.timing r.rate k m
  let due : Bool := m == 0 || decide (r.nextAt ≤ start)
  let shown := if due && r.next.isSome then r.next else r.shown
  { r with
    shown := shown
    next := if due then none else r.next
    content := if r.black then 0 else if u8 r.scan 0 = 1 then 2 else if shown.isSome then 1 else 0
    black := false, frameStart := start, inFrame := true, after := start + 1
    pins := if gate then [1, if u8 r.scan 2 = 1 then 1 else 0] else [0, 0] }

/-- A frame starts, behind a relock that has had its 2 ms. -/
theorem exec_rasterFrameStart {s : State} (scans : s.rasterScans = true) : exec .rasterFrameStart s = .next (State.ended s
    (let w := s.relocked
     let km := w.nextRaster
     let u := w.goTo (rasterStart w.ras.timing w.ras.rate km.1 km.2)
     let v : State := { u with ras := w.ras.framed km.1 km.2 w.gate }
     if w.gate then v.count Od.framesOut else v)) :=
  congrArg (finish s) (if_neg (by rw [scans]; decide))

theorem State.framed_fields (w : State) (k m : Nat) :
    let u := w.goTo (rasterStart w.ras.timing w.ras.rate k m)
    let v : State := { u with ras := w.ras.framed k m w.gate }
    (if w.gate then v.count Od.framesOut else v).ras = w.ras.framed k m w.gate ∧ (if w.gate then v.count Od.framesOut else v).tm = u.tm := by
  intro u v
  split <;> exact ⟨rfl, rfl⟩

theorem State.relocked_none {s : State} (h : s.ras.relock = none) : s.relocked = s := by rw [State.relocked, h]

/-- What takes effect at the latch line. -/
theorem State.latchRaster_spec (s : State) (t c : Bytes) (rate : Nat) : (s.latchRaster t c rate).ras.timing = t ∧ (s.latchRaster t c rate).ras.scan = c ∧
    (t ≠ s.ras.timing → (s.latchRaster t c rate).ras.black = true ∧
      (s.latchRaster t c rate).reg Od.modeChanges = Od.modeChanges.counted (s.reg Od.modeChanges) 1) := by
  unfold State.latchRaster
  extract_lets r timing f a b clock u
  refine ⟨?_, ?_, fun changed => ?_⟩
  · split <;> rfl
  · split <;> rfl
  · have new : timing = true := by
      simp only [timing, Bool.or_eq_true, bne_iff_ne]
      exact .inl changed
    rw [if_pos new]
    refine ⟨(congrArg (r.black || ·) new).trans (Bool.or_true _), ?_⟩
    rw [State.raise_reg, State.reg_count]
    rfl

/-- Settles O55: a raster frame is framed on its grid, and the latch line is one equation of the shadow set. -/
theorem rasterFramesLatchTheirSettings : Obligations.RasterFramesLatchTheirSettings := by
  unfold Obligations.RasterFramesLatchTheirSettings
  refine ⟨fun s scans locked => ?frame, fun s t scans relocking => ?relock, fun s scans inFrame => ?latch, State.latchRaster_spec,
    fun s dt on => ?locked, fun s dt output px on ho hp => ⟨fun told => ?again, fun untold => ?first⟩⟩
  case frame =>
    rcases next : s.nextRaster with ⟨k, m⟩
    have run := exec_rasterFrameStart scans
    simp only [State.relocked_none locked, next] at run
    refine run.trans ?_
    simp only [RasterState.framed, Bool.and_eq_true, Bool.or_eq_true, beq_iff_eq, decide_eq_true_eq]
  case relock =>
    have w : s.relocked = { s.goTo (t + 2000000) with ras := { s.ras with relock := none } } := by
      rw [State.relocked, relocking]
      rfl
    have late : t + 2000000 ≤ s.relocked.now := by
      rw [w]
      exact le_max_right ..
    have done : s.relocked.ras.relock = none := by rw [w]
    obtain ⟨ras, tm⟩ := State.framed_fields s.relocked s.relocked.nextRaster.1 s.relocked.nextRaster.2
    refine ⟨_, exec_rasterFrameStart scans, (congrArg RasterState.relock ras).trans done, ?_, congrArg RasterState.inFrame ras⟩
    exact late.trans ((le_max_left ..).trans (congrArg TimeState.now tm).ge)
  case latch =>
    have outside : ¬(s.rasterScans = false ∨ s.ras.inFrame = false) := by
      rw [scans, inFrame]
      decide
    intro t due rate u
    have run : exec .rasterLatchLine s = .next (State.ended s (if s.reg Od.rsCommit = 1 then
        ((u.setReg Od.rsCommit 0).count Od.commitsLatched).latchRaster s.rsShadow.1 s.rsShadow.2 rate
      else u.latchRaster s.ras.timing s.ras.scan rate)) := congrArg (finish s) (if_neg outside)
    exact ⟨fun asked => run.trans (by rw [if_pos asked]), fun idle => run.trans (by rw [if_neg idle])⟩
  case locked =>
    show execRasterPllLocked dt s = _
    rw [execRasterPllLocked]
    simp only [State.advance_domOn, on, if_true, State.advance_ras, finish]
  case again =>
    have outside : ¬((s.advance dt).rasterOn = false ∨ 2 ≤ output ∨ px = 0) := by
      rw [State.advance_rasterOn, on]
      simp only [Bool.true_eq_false, Nat.not_le.mpr ho, hp, or_self, not_false_iff]
    show execRasterUnderrun dt output px s = _
    rw [execRasterUnderrun]
    simp only [outside, if_false, State.count_ras, State.count_tl, State.advance_ras, State.advance_tl, told, if_true, finish]
  case first =>
    have outside : ¬((s.advance dt).rasterOn = false ∨ 2 ≤ output ∨ px = 0) := by
      rw [State.advance_rasterOn, on]
      simp only [Bool.true_eq_false, Nat.not_le.mpr ho, hp, or_self, not_false_iff]
    show execRasterUnderrun dt output px s = _
    rw [execRasterUnderrun]
    simp only [outside, if_false, State.count_ras, State.count_tl, State.advance_ras, State.advance_tl, untold, finish]

end Sys2Proof.Machine

/-!
PROOFS. The towpath: claims (R393–R400), beacons and the mirror (R401–R405).
-/
namespace Sys2Proof.Machine

/-! ## A claim out of mooring whose start finds no image -/

/-- A moored unit whose claim writes its epoch, with an image slot that fails its checks at the start that follows (R441, R470). -/
def claimOutOfMooring : State :=
  { pwr := { state := 3, cause := 1, selfTests := [{ slots := [(0, 3)] }] }
    tow := { state := 2, hold := true, rechecked := true, epochWrite := some 1 } }

/-- TOW_STATE once a command has ended. -/
def towStateOf : Host.Outcome State Fault Refusal → Nat
  | .next t => t.tow.state
  | _ => 0

/-- Refutes O56: a claim made in mooring starts the device as its epoch is written (R470, R475). Where the start's tests leave no image to
load, the unit goes to recovery and gives HOLD back (R392, R441): it is in STANDBY and not ACTIVE. -/
theorem not_claimsTakeTheTowpath : ¬ Obligations.ClaimsTakeTheTowpath := by
  unfold Obligations.ClaimsTakeTheTowpath
  intro h
  obtain ⟨-, -, -, -, written, -⟩ := h
  obtain ⟨u, run, active, -⟩ := (written claimOutOfMooring 0 1 (by decide) rfl).1 rfl
  have standby : towStateOf (exec (.epochWriteDone 0) claimOutOfMooring) = 1 := by decide +kernel
  rw [run] at standby
  exact absurd (active.symm.trans standby) (by decide)

/-! ## Beacons and the mirror -/

/-- A beacon that goes out leaves every register. -/
theorem reg_sendBeacon (s : State) (r : OdRow) (i : Nat) : s.sendBeacon.reg r i = s.reg r i := by
  unfold State.sendBeacon
  split
  · exact (State.speaks_send s _).reg r i
  · rfl

/-- The part at the head of those unanswered leaves it as it fails: it goes to the end while it may be resent, or is given up (R403). -/
theorem partFails_head {s : State} {m : MirrorOut} {rest : List MirrorOut} (waiting : s.tow.unanswered = m :: rest) :
    s.partFails m =
      if m.resends < 3 then
        { s.sendPart m with tow := { (s.sendPart m).tow with unanswered := rest ++ [{ m with resends := m.resends + 1 }] } }
      else (({ s with tow := { s.tow with unanswered := rest } } : State).setReg Od.mirrorStale 1).raise 0xD008
        (natBE 2 (m.key / 256) ++ natBE 1 m.key ++ natBE 2 m.tag) := by
  have gone : s.tow.unanswered.erase m = rest := by rw [waiting, List.erase_cons_head]
  rw [State.partFails, gone]

/-- The part that has gone unanswered for longest is resent, or the mirror is stale. -/
theorem exec_mirrorPartNotAnswered {s : State} {m : MirrorOut} {rest : List MirrorOut} (dt : Nat) (alive : s.alive = true)
    (waiting : s.tow.unanswered = m :: rest) :
    exec (.mirrorPartNotAnswered dt) s = .next (State.ended s ((s.advance dt).partFails m)) := by
  have waits : (s.advance dt).tow.unanswered = m :: rest := by rw [State.advance_tow, waiting]
  have lives : ¬ (s.advance dt).alive = false := by rw [State.advance_alive, alive]; decide
  show execMirrorPartNotAnswered dt s = _
  rw [execMirrorPartNotAnswered]
  simp only [waits, if_neg lives, finish]

/-- Settles O57: each command of the beacons and the mirror takes its branch, and a beacon sent leaves BEACON_PERIOD. -/
theorem theMirrorKeepsThePartnerInformed : Obligations.TheMirrorKeepsThePartnerInformed := by
  unfold Obligations.TheMirrorKeepsThePartnerInformed
  refine ⟨?_, ?_, ?_, ?_, ?_, ?_⟩
  · intro s alive pair
    have outside : ¬ (s.alive = false ∨ s.pair = false) := by rw [alive, pair]; decide
    have period : (s.goTo s.tow.nextBeacon).sendBeacon.reg Od.beaconPeriod = s.reg Od.beaconPeriod := reg_sendBeacon ..
    intro t
    rw [← period]
    exact congrArg (finish s) (if_neg outside)
  · intro s active pair alive
    have outside : ¬ (s.tow.state ≠ 3 ∨ s.pair = false ∨ s.alive = false) := by rw [active, pair, alive]; decide
    exact congrArg (finish s) (if_neg outside)
  · intro s active pair alive
    have outside : ¬ (s.tow.state ≠ 3 ∨ s.pair = false ∨ s.alive = false) := by rw [active, pair, alive]; decide
    exact congrArg (finish s) (if_neg outside)
  · intro s alive pair up
    have outside : ¬ (s.tow.linkLost = true ∨ s.alive = false ∨ s.pair = false) := by rw [alive, pair, up]; decide
    exact congrArg (finish s) (if_neg outside)
  · intro s p rest parts
    show execMirrorPartsExpire s = _
    rw [execMirrorPartsExpire]
    simp only [parts, State.goTo_tow, finish]
  · intro s dt m rest alive waiting
    have waits : (s.advance dt).tow.unanswered = m :: rest := by rw [State.advance_tow, waiting]
    rw [exec_mirrorPartNotAnswered dt alive waiting, partFails_head waits]
    exact ⟨fun few => by rw [if_pos few], fun many => by rw [if_neg (Nat.not_lt.mpr many), State.advance_tow]⟩

end Sys2Proof.Machine

/-!
PROOFS. Field updates (R430–R445): messages, sessions, trials and the image a start loads.
-/
namespace Sys2Proof.Machine

/-! ## UPDATE_OPEN and UPDATE_ACTIVATE -/

/-- A content key used, or found bad, leaves the update block and its counters. -/
theorem useSlot_keeps (s : State) (i : Nat) :
    (s.useSlot i).1.upd = s.upd ∧ (s.useSlot i).1.reg Od.headersRefused = s.reg Od.headersRefused := by
  unfold State.useSlot
  extract_lets k
  split_ifs
  · exact ⟨rfl, rfl⟩
  · exact ⟨rfl, rfl⟩
  · exact ⟨rfl, State.reg_count_ne _ _ (by decide)⟩

/-- What UPDATE_OPEN answers: a refusal is counted once in HEADERS_REFUSED and leaves the update block (R433). -/
def CountsRefusal (s : State) (answer : State × Nat × Bytes) : Prop :=
  answer.2.1 ≠ stOk →
    answer.1.upd = s.upd ∧ answer.1.reg Od.headersRefused = Od.headersRefused.counted (s.reg Od.headersRefused) 1

theorem countsRefusal_refused {s t : State} (same : t.upd = s.upd ∧ t.reg Od.headersRefused = s.reg Od.headersRefused) (st : Nat) (p : Bytes) :
    CountsRefusal s (t.count Od.headersRefused, st, p) :=
  fun _ => ⟨same.1, by rw [State.reg_count, same.2]⟩

theorem countsRefusal_accepted (s t : State) (p : Bytes) : CountsRefusal s (t, stOk, p) := fun refused => absurd rfl refused

theorem updateOpen_countsRefusal {s : State} {p : Bytes} (full : p.length = 516) : CountsRefusal s (s.updateOpen p) := by
  have unused : s.upd = s.upd ∧ s.reg Od.headersRefused = s.reg Od.headersRefused := ⟨rfl, rfl⟩
  have used := useSlot_keeps s (u8 p 0)
  unfold State.updateOpen
  rw [if_neg (not_not.mpr full)]
  split
  · exact countsRefusal_refused unused _ _
  dsimp only
  split
  · exact countsRefusal_refused unused _ _
  split
  · exact countsRefusal_refused unused _ _
  split
  · exact countsRefusal_refused unused _ _
  generalize s.useSlot (u8 p 0) = use at used ⊢
  obtain ⟨t, key⟩ := use
  cases key with
  | none => exact countsRefusal_refused used _ _
  | some key =>
    dsimp only
    split
    · exact countsRefusal_refused used _ _
    split
    · split
      · exact countsRefusal_refused used _ _
      · exact countsRefusal_accepted s _ _
    · split
      · exact countsRefusal_refused used _ _
      · exact countsRefusal_accepted s _ _

/-- An activation without a staged image, or one ill-formed, is refused. -/
theorem updateActivate_refused (s : State) (p : Bytes) : (p.length ≠ 16 → s.updateActivate p = (s, stType)) ∧
    (p.length = 16 → s.staged? = none → s.updateActivate p = (s, stNotStaged)) :=
  ⟨fun long => if_pos long, fun full bare => (if_neg (not_not.mpr full)).trans (if_pos (by rw [bare]; rfl))⟩

/-! ## Confirmation and tries -/

theorem upd_raiseFloor (s : State) (index : Nat) : (s.raiseFloor index).upd = { s.upd with floor := max s.upd.floor index } := by
  unfold State.raiseFloor
  split
  next higher => rw [Nat.max_eq_right higher.le]
  next low => rw [Nat.max_eq_left (Nat.not_lt.mp low)]

/-- A trial confirmed is no trial any more, and the floor is at least the image's index (R443). -/
theorem confirmTrial_upd {s : State} (trial : s.upd.trial = true) :
    s.confirmTrial.upd.trial = false ∧ s.confirmTrial.upd.floor = max s.upd.floor (s.image s.upd.running).rollback ∧
      s.confirmTrial.upd.running = s.upd.running := by
  unfold State.confirmTrial
  rw [if_neg (by rw [trial]; decide)]
  extract_lets r im t u v
  rw [State.raise_upd, upd_raiseFloor]
  exact ⟨rfl, rfl, rfl⟩

/-- After the third failed try the device falls back; before it the image is tried again (R444). -/
theorem failedTry_eq (s : State) : (3 ≤ (s.image s.upd.running).tries → s.failedTry = s.fallBack 2) ∧
    ((s.image s.upd.running).tries < 3 → s.failedTry = (s.setImage s.upd.running
      { s.image s.upd.running with tries := max (s.image s.upd.running).tries 1 + 1 }).writeBoot.serviceRestart) :=
  ⟨fun third => if_pos (third.trans (le_max_left ..)),
    fun early => if_neg (by rw [not_le, max_lt_iff]; exact ⟨early, by decide⟩)⟩

/-! ## eNVM copies -/

/-- A record written is what the next read returns: it stands in the older copy, one generation on (R399, R414). -/
theorem Copies.read_write (n : Copies) (v : Bytes) : (n.write v).read.1 = v := by
  obtain ⟨a, b⟩ := n
  cases a with
  | none =>
    cases b with
    | none => rfl
    | some y =>
      have newer : ¬ y.2 + 1 ≤ y.2 := by omega
      simp only [Copies.write, Copies.olderA, Copies.read, if_true, newer, if_false]
  | some x =>
    cases b with
    | none => simp only [Copies.write, Copies.olderA, Copies.read, Bool.false_eq_true, if_false, Nat.le_succ, if_true]
    | some y =>
      by_cases older : x.2 ≤ y.2
      · have newer : ¬ y.2 + 1 ≤ y.2 := by omega
        simp only [Copies.write, Copies.olderA, Copies.read, older, decide_true, if_true, newer, if_false]
      · simp only [Copies.write, Copies.olderA, Copies.read, older, decide_false, Bool.false_eq_true, if_false, Nat.le_succ, if_true]

/-- A write that is torn leaves what was read, where both copies held (R399). -/
theorem Copies.read_tear {n : Copies} (ha : n.a ≠ none) (hb : n.b ≠ none) : (n.tear true).read = n.read := by
  obtain ⟨a, b⟩ := n
  obtain ⟨x, rfl⟩ := Option.ne_none_iff_exists'.mp ha
  obtain ⟨y, rfl⟩ := Option.ne_none_iff_exists'.mp hb
  by_cases older : x.2 ≤ y.2
  · simp only [Copies.tear, Copies.olderA, Copies.read, older, decide_true, Bool.not_true, Bool.false_eq_true, if_false, if_true]
  · simp only [Copies.tear, Copies.olderA, Copies.read, older, decide_false, Bool.not_true, Bool.false_eq_true, if_false]

/-! ## The image a start loads -/

/-- What the start's tests find, as the choice of the image sees it (log entries 60, 122). -/
def State.tested (s : State) : State :=
  { s with pwr := { s.pwr with selfTest := s.pwr.selfTests.headD {}, selfTests := s.pwr.selfTests.drop 1 } }

theorem chooseImage_eq (s : State) : s.chooseImage =
    if s.pwr.flashMiB < 64 then (s.tested, 2)
    else
      match (s.pwr.selfTests.headD {}).slots.find? fun x => x.1 == s.upd.running with
      | none => (s.tested, 0)
      | some x => if s.tested.otherLoads then (s.tested.fallRecord (if x.2 = 3 then 3 else 4), 1) else (s.tested, 2) := rfl

/-- A fallback takes the other slot, off trial (R444). -/
theorem fallRecord_upd (s : State) (reason : Nat) :
    (s.fallRecord reason).upd.running = 1 - s.upd.running ∧ (s.fallRecord reason).upd.trial = false := ⟨rfl, rfl⟩

/-- Where the tests find the running slot alone at fault and the other one is usable, a start takes the other. -/
theorem chooseImage_falls {s : State} (usable : (s.image (1 - s.upd.running)).state = 5 ∨ (s.image (1 - s.upd.running)).state = 4)
    (above : s.upd.floor ≤ (s.image (1 - s.upd.running)).rollback) (only : ∀ x ∈ (s.pwr.selfTests.headD {}).slots, x.1 = s.upd.running)
    (some_ : (s.pwr.selfTests.headD {}).slots ≠ []) (flash : 64 ≤ s.pwr.flashMiB) (slot : s.upd.running < 2) :
    s.chooseImage.2 = 1 ∧ s.chooseImage.1.upd.running = 1 - s.upd.running ∧ s.chooseImage.1.upd.trial = false := by
  obtain ⟨x, xs, found⟩ := List.exists_cons_of_ne_nil some_
  have first : x.1 = s.upd.running := only x (found ▸ List.mem_cons_self)
  have fails : (s.pwr.selfTests.headD {}).slots.find? (fun x => x.1 == s.upd.running) = some x := by
    rw [found, List.find?_cons_of_pos (by rw [first]; exact beq_self_eq_true _)]
  have clean : ((s.pwr.selfTests.headD {}).slots.all fun x => x.1 != 1 - s.upd.running) = true := by
    rw [List.all_eq_true]
    intro y hy
    rw [bne_iff_ne, only y hy]
    omega
  have loads : s.tested.otherLoads = true := by
    show ((_ == 4 || _ == 5) && decide (s.upd.floor ≤ _) && _) = true
    rw [Bool.and_eq_true, Bool.and_eq_true, Bool.or_eq_true, beq_iff_eq, beq_iff_eq, decide_eq_true_eq]
    exact ⟨⟨usable.symm, above⟩, clean⟩
  have chosen : s.chooseImage = (s.tested.fallRecord (if x.2 = 3 then 3 else 4), 1) := by
    rw [chooseImage_eq, if_neg (Nat.not_lt.mpr flash), fails]
    exact if_pos loads
  rw [chosen]
  exact ⟨rfl, fallRecord_upd ..⟩

/-- Where the tests find nothing against the running slot, a start keeps it. -/
theorem chooseImage_keeps {s : State} (clean : ∀ x ∈ (s.pwr.selfTests.headD {}).slots, x.1 ≠ s.upd.running) (flash : 64 ≤ s.pwr.flashMiB) :
    s.chooseImage.2 = 0 ∧ s.chooseImage.1.upd = s.upd := by
  have none : (s.pwr.selfTests.headD {}).slots.find? (fun x => x.1 == s.upd.running) = none := by
    rw [List.find?_eq_none]
    intro x hx
    rw [beq_iff_eq]
    exact clean x hx
  rw [chooseImage_eq, if_neg (Nat.not_lt.mpr flash), none]
  exact ⟨rfl, rfl⟩

theorem chooseImage_none {s : State} (flash : s.pwr.flashMiB < 64) : s.chooseImage.2 = 2 := by
  rw [chooseImage_eq, if_pos flash]

/-! ## The commands -/

/-- An UPDATE message the server takes is answered as its meaning concludes. -/
theorem finish_update {s : State} {cmd dt : Nat} {m : Msg} {run : State → Answer} {a : Answer} (taken : s.takesMsg cmd m = true)
    (update : 0x10 ≤ cmd) (runs : run (s.served dt) = a) (loud : a.silent = false) (done : a.waits = []) :
    finish s (s.message dt cmd m run) = .next (State.ended s (a.s.reply m.src cmd m.seq a.status a.payload)) := by
  have reply : (cmd != 1) = true := bne_iff_ne.mpr (by omega)
  rw [finish_message_taken taken, runs, conclude_replies (State.takesMsg_not_group taken) loud done (by omega) (by omega), reply]

/-- Settles O58: each message is answered as its meaning concludes, and each timer and start takes the branch its premises name. -/
theorem updatesAreStagedTriedAndConfirmed : Obligations.UpdatesAreStagedTriedAndConfirmed := by
  unfold Obligations.UpdatesAreStagedTriedAndConfirmed
  refine ⟨fun s dt m => ⟨?_, ?_, ?_, ?_, ?_, ?_, ?_⟩, fun s p => ⟨?short, fun full refused => ?_⟩, updateActivate_refused, ?expire,
    ?activation, ?confirm, fun s trial => ?_, fun s off => ?_, ?window, failedTry_eq, fun s => Copies.read_write .., ?_, ?_,
    fun s flash => chooseImage_none flash⟩
  · rcases run : (s.served dt).updateOpen m.payload with ⟨t, st, p⟩
    exact fun taken => finish_update (a := { s := t, status := st, payload := p }) taken (by decide) (by rw [run]) rfl rfl
  · rcases run : (s.served dt).updatePiece m.payload with ⟨t, st, p⟩
    exact fun taken => finish_update (a := { s := t, status := st, payload := p }) taken (by decide) (by rw [run]) rfl rfl
  · rcases run : (s.served dt).updateFinish m.payload with ⟨t, st, p⟩
    exact fun taken => finish_update (a := { s := t, status := st, payload := p }) taken (by decide) (by rw [run]) rfl rfl
  · rcases run : (s.served dt).updateActivate m.payload with ⟨t, st⟩
    exact fun taken => finish_update (a := { s := t, status := st }) taken (by decide) (by rw [run]) rfl rfl
  · exact fun taken empty => finish_update (a := { s := (s.served dt).confirmTrial }) taken (by decide) (if_pos empty) rfl rfl
  · exact fun taken full => finish_update (a := (s.served dt).refuse stType) taken (by decide) (if_neg full) rfl rfl
  · rcases run : (s.served dt).updateAbort m.payload with ⟨t, st⟩
    exact fun taken => finish_update (a := { s := t, status := st }) taken (by decide) (by rw [run]) rfl rfl
  case short =>
    intro short
    have refused : s.updateOpen p = (s, stType, openReply 0 0 0) := if_pos short
    rw [refused]
    exact ⟨rfl, rfl⟩
  · exact updateOpen_countsRefusal full refused
  case expire =>
    intro s x session alive set
    have outside : ¬ (s.reg Od.timeSet = 0 ∨ s.alive = false) := by rw [alive]; simp only [set, Bool.true_eq_false, or_self, not_false_iff]
    show execUpdateSessionExpire s = _
    rw [execUpdateSessionExpire]
    simp only [session, if_neg outside, finish]
  case activation =>
    intro s a i activation staged running t
    refine ⟨?_, fun handing bit0 => ?_, fun handing bit0 no => ?_⟩
    · have outside : ¬ (s.pwr.state ≠ 2 ∧ s.pwr.state ≠ 7) := fun h => h.1 running
      show execUpdateActivation s = _
      rw [execUpdateActivation]
      simp only [activation, staged, if_neg outside, finish] <;> rfl
    · rw [State.actOnActivation]
      simp only [handing, bit0, Bool.false_eq_true, if_false]
    · rw [State.actOnActivation]
      simp only [handing, bit0, Bool.false_eq_true, if_false, if_true, no, State.raise_upd]
  case confirm =>
    intro s t trial calm auto runs
    show execAutoConfirm s = _
    rw [execAutoConfirm]
    simp only [calm, trial, auto, runs, and_self, if_true, finish]
  · obtain ⟨ended, floor, slot⟩ := confirmTrial_upd trial
    exact ⟨ended, floor, floor ▸ le_max_left .., slot⟩
  · exact if_pos off
  case window =>
    intro s t tried trial alive
    show execConfirmWindowExpire s = _
    rw [execConfirmWindowExpire]
    simp only [tried, trial, alive, and_self, if_true, finish]
  · exact fun s usable above only some_ flash slot => chooseImage_falls usable above only some_ flash slot
  · exact fun s clean flash => chooseImage_keeps clean flash

end Sys2Proof.Machine

/-!
PROOFS. Trim and the lengthsman (R447–R459).
-/
namespace Sys2Proof.Machine

/-! ## What the replace request and a trim run leave -/

/-- The replace request moves what was reported, and no other part of the lengthsman's state (R457). -/
theorem trim_replaceCheck (s : State) : s.replaceCheck.trim = { s.trim with reported := s.replaceCause } := by
  unfold State.replaceCheck
  extract_lets c _ t u
  split <;> rfl

theorem tm_replaceCheck (s : State) : s.replaceCheck.tm = s.tm := by
  unfold State.replaceCheck
  extract_lets c _ t u
  split <;> rfl

theorem owed_replaceCheck (s : State) : s.replaceCheck.od.owed = s.od.owed := by
  unfold State.replaceCheck
  extract_lets c _ t u
  split <;> rfl

theorem num?_replaceCheck (s : State) {key : Nat} (cause : key ≠ Od.replaceCause.key + 0) (request : key ≠ Od.replaceRequest.key + 0) :
    s.replaceCheck.num? key = s.num? key := by
  unfold State.replaceCheck
  extract_lets c _ t u
  have same : u.num? key = s.num? key := (num?_setReg _ _ _ _ _ request).trans (num?_setReg t _ _ _ _ cause)
  split
  · exact same
  · exact (num?_raise ..).trans same

/-- Events raised one after another leave the lengthsman's state and the replies owed. -/
theorem foldl_raise_keeps (s : State) (code : Nat) (arg : Nat → Bytes) (l : List Nat) :
    (l.foldl (fun s p => s.raise code (arg p)) s).trim = s.trim ∧ (l.foldl (fun s p => s.raise code (arg p)) s).od.owed = s.od.owed :=
  List.foldlRecOn (motive := fun (t : State) => t.trim = s.trim ∧ t.od.owed = s.od.owed) l _ ⟨rfl, rfl⟩ fun _ kept _ _ => kept

theorem State.raise_owed (s : State) (c : Nat) (a : Bytes) : (s.raise c a).od.owed = s.od.owed := rfl

theorem advance_trimRun (s : State) (dt run : Nat) : (s.advance dt).trimRun run = s.trimRun run := by
  simp only [State.trimRun, State.advance_domOn]

/-- A class T run that is done: its figures wait for the tick, and the run asked for meanwhile follows (R449, R450). -/
theorem trimDone_trim (s : State) : s.trimDone.trim.running = s.trim.again ∧ s.trimDone.trim.again = false ∧
    s.trimDone.trim.runs = s.trim.runs + 1 ∧ s.trimDone.trim.waiting = some s.trim.runs ∧ s.trimDone.trim.next = s.trimRun s.trim.runs ∧
    s.trimDone.trim.lastTj = s.weir.tjHottest ∧ s.trimDone.trim.lastTime = s.now := by
  unfold State.trimDone
  extract_lets run figs ends kept t
  rw [trim_replaceCheck, (foldl_raise_keeps ..).1]
  exact ⟨rfl, rfl, rfl, rfl, rfl, rfl, rfl⟩

/-- A class A run that is done is stored, and the replies that waited for it leave (R452, R453). -/
theorem trimADone_fields {s : State} {tag at_ : Nat} {q : Req} (run : s.trim.aRun = some (tag, at_, q)) :
    s.trimADone.trim.aRun = none ∧ s.trimADone.trim.aGen = s.trim.aGen + 1 ∧ s.trimADone.trim.aState = 1 ∧
      s.trimADone.trim.wear = s.trim.wear + 1 ∧
      s.trimADone.od.owed = (s.od.owed.map fun w => { w with waits := w.waits.filter (· != 4) }).filter fun w => !w.waits.isEmpty := by
  unfold State.trimADone
  simp only [run]
  rw [trim_replaceCheck, owed_replaceCheck, (State.settleOwed_od ..).2.2, (State.speaks_settleOwed ..).trim, State.raise_trim, State.raise_owed]
  rw [(foldl_raise_keeps ..).1, (foldl_raise_keeps ..).2]
  exact ⟨rfl, rfl, rfl, rfl, rfl⟩

/-- A trim run started or asked for again moves nothing else. -/
theorem startTrim_eq (s : State) : ∃ running again, s.startTrim = { s with trim := { s.trim with running := running, again := again } } := by
  unfold State.startTrim
  split <;> exact ⟨_, _, rfl⟩

/-! ## The commands -/

/-- What a second of the lengthsman has left: the ledger, the history and the largest temperature one second on. -/
def SecondTaken (s t : State) : Prop :=
  t.tm = (s.goTo s.trim.nextSecond).tm ∧ t.trim.life = s.trim.life + Config.lifeStep s.secondTj ∧ t.trim.seconds = s.trim.seconds + 1 ∧
    t.trim.hist = modAt s.trim.hist (tjBin s.secondTj) (· + 1) ∧ t.trim.nextSecond = s.trim.nextSecond + 1000000000 ∧
    t.trim.tjMax = some (match s.trim.tjMax with | some m => max m s.secondTj | none => s.secondTj)

theorem SecondTaken.replaceCheck {s t : State} (h : SecondTaken s t) : SecondTaken s t.replaceCheck := by
  rw [SecondTaken, tm_replaceCheck, trim_replaceCheck]
  exact h

theorem SecondTaken.startTrim {s t : State} (h : SecondTaken s t) : SecondTaken s t.startTrim := by
  obtain ⟨running, again, started⟩ := startTrim_eq t
  rw [started]
  exact h

theorem exec_lengthsmanSecond {s : State} (alive : s.alive = true) :
    ∃ t, exec .lengthsmanSecond s = .next (State.ended s t) ∧ SecondTaken s t := by
  have outside : ¬ s.alive = false := by rw [alive]; decide
  refine ⟨_, congrArg (finish s) (if_neg outside), ?_⟩
  extract_lets u tj old t b t' v warned _ ended moved
  have taken : SecondTaken s v := ⟨rfl, rfl, rfl, rfl, rfl, rfl⟩
  have told : SecondTaken s warned := by
    simp only [warned]
    split
    · exact taken
    · exact taken
  have caused : SecondTaken s ended := by
    simp only [ended]
    split
    · exact told
    · exact told
  refine SecondTaken.replaceCheck ?_
  split
  · exact caused.startTrim
  · exact caused

/-- Corrected errors summed over the hour that ends with a step of `n` (R456). -/
def State.ddrSummed (s : State) (n : Nat) : State :=
  let l := pushLast 60 s.trim.ddr (if s.domOn 4 then n else 0)
  let sum := l.foldl (· + ·) 0
  let t := s.goTo s.trim.nextDdr
  ({ t with trim := { s.trim with ddr := l, nextDdr := s.trim.nextDdr + 60000000000
                                  ddrCause := s.trim.ddrCause || decide (s.reg Od.ddrCeLimit < sum) } } : State).setReg Od.ddrCeHour (min sum (2 ^ 32 - 1))

theorem exec_ddrCeStep {s : State} (n : Nat) (alive : s.alive = true) :
    exec (.ddrCeStep n) s = .next (State.ended s (s.ddrSummed n).replaceCheck) := by
  have outside : ¬ s.alive = false := by rw [alive]; decide
  exact congrArg (finish s) (if_neg outside)

/-- Settles O59: a run's figures pass through events and the replace request, which leave them as they are. -/
theorem trimAndWearAreKept : Obligations.TrimAndWearAreKept := by
  unfold Obligations.TrimAndWearAreKept
  refine ⟨?tRun, ?aRun, ?second, ?ledgers, ?ddr⟩
  case tRun =>
    intro s dt on running
    have run : exec (.trimTRunDone dt) s = .next (State.ended s (s.advance dt).trimDone) := by
      show execTrimTRunDone dt s = _
      rw [execTrimTRunDone]
      simp only [State.advance_trim, running, State.advance_domOn, on, and_self, if_true, finish]
    refine ⟨_, run, ?_⟩
    have done := trimDone_trim (s.advance dt)
    rw [State.advance_now (State.alive_of_domOn on), advance_trimRun, State.advance_trim, State.advance_weir] at done
    rw [ended_trim]
    exact done
  case aRun =>
    intro s dt tag at_ q on aRun
    have run : exec (.trimARunDone dt) s = .next (State.ended s (s.advance dt).trimADone) := by
      show execTrimARunDone dt s = _
      rw [execTrimARunDone]
      simp only [State.advance_domOn, on, if_true, finish]
    refine ⟨_, run, ?_⟩
    have done := trimADone_fields (s := s.advance dt) (tag := tag) (at_ := at_) (q := q) (by rw [State.advance_trim, aRun])
    rw [State.advance_trim, State.advance_od] at done
    rw [ended_trim, ended_owed]
    exact done
  case second =>
    intro s alive
    obtain ⟨t, run, time, life, seconds, hist, next, most⟩ := exec_lengthsmanSecond alive
    refine ⟨_, run, ?_⟩
    rw [State.now, ended_tm, ended_trim, time]
    exact ⟨rfl, life, seconds, hist, next, most⟩
  case ledgers =>
    intro s alive
    have outside : ¬ s.alive = false := by rw [alive]; decide
    exact congrArg (finish s) (if_neg outside)
  case ddr =>
    intro s n alive
    refine ⟨_, exec_ddrCeStep n alive, ?_, ?_, ?_, ?_⟩
    · rw [State.now, ended_tm, tm_replaceCheck]
      rfl
    · rw [ended_trim, trim_replaceCheck]
      rfl
    · rw [ended_reg _ _ _ _ (by decide), State.reg_eq_of_num?_eq (num?_replaceCheck _ (by decide) (by decide))]
      exact State.reg_setReg ..
    · rw [ended_trim, trim_replaceCheck]
      rfl

end Sys2Proof.Machine

/-!
PROOFS. Reset and power (R463–R478): what the AO supervisor keeps as domains go off, the straps a start samples, and the commands.
-/
namespace Sys2Proof.Machine

/-! ## Domains going off -/

/-- The AO supervisor's own state stands: power, eNVM, and HOLD. -/
structure State.Supervised (s t : State) : Prop where
  pwr : t.pwr = s.pwr
  nv : t.nv = s.nv
  hold : t.tow.hold = s.tow.hold

namespace State.Supervised
variable {s t u : State}

theorem of_core (h : t.core = s.core) : s.Supervised t := by
  simp only [State.core, Prod.mk.injEq, TowState.mk.injEq] at h
  exact ⟨by simp only [h], by simp only [h], by simp only [h]⟩

theorem trans (h : s.Supervised t) (h' : t.Supervised u) : s.Supervised u :=
  ⟨h'.pwr.trans h.pwr, h'.nv.trans h.nv, h'.hold.trans h.hold⟩

theorem foldl {α : Type} {f : State → α → State} (h : ∀ s a, State.Supervised s (f s a)) (l : List α) (s : State) : s.Supervised (l.foldl f s) :=
  List.foldlRecOn (motive := s.Supervised) l f ⟨rfl, rfl, rfl⟩ fun _ ht a _ => ht.trans (h _ a)

end State.Supervised

theorem core_linkDrop (s : State) (p : Nat) : (s.linkDrop p).core = s.core := by
  unfold State.linkDrop
  extract_lets x _ down ended
  split
  · rfl
  · have cut : ended.core = s.core := by
      simp only [ended]
      split
      · exact core_completeTx _ _ _ _ (by decide)
      · rfl
    exact cut

theorem core_completeAll (s : State) (p q st : Nat) (es : List PEntry) (hs : st ≠ txLateDropped) : (s.completeAll p q st es).core = s.core :=
  core_foldl _ (fun t _ => core_completeTx t p _ _ hs) es s

theorem core_emptyPound (s : State) (p : Nat) : (s.emptyPound p).core = s.core := (core_watermark ..).trans (core_setPound ..)

theorem core_flushPort (s : State) (p : Nat) : (s.flushPort p).core = s.core := by
  unfold State.flushPort
  extract_lets jobs _ emptied done
  have flushed : done.core = s.core := core_foldl _ (fun t j => core_completeTx t p j txFlushed (by decide)) jobs emptied
  refine (core_foldl _ (fun t q => ?_) _ done).trans flushed
  exact (core_completeAll _ _ _ txFlushed _ (by decide)).trans (core_emptyPound ..)

theorem core_stopPort (s : State) (p : Nat) : (s.stopPort p).core = s.core :=
  (core_setPort ..).trans ((core_flushPort ..).trans (core_linkDrop ..))

theorem State.supervised_setTsq (s : State) (p : Nat) (l : List Bytes) : s.Supervised (s.setTsq p l) := ⟨rfl, rfl, rfl⟩

theorem State.supervised_netDomainOff (s : State) (d : Nat) : s.Supervised (s.netDomainOff d) := by
  unfold State.netDomainOff
  exact State.Supervised.foldl (fun t p => (State.Supervised.of_core (core_stopPort t p)).trans (State.supervised_setTsq ..)) _ s

theorem State.supervised_loseNet (s : State) (d : Nat) : s.Supervised (s.loseNet d) :=
  (s.supervised_netDomainOff d).trans ⟨rfl, rfl, rfl⟩

theorem State.supervised_loseCells (s : State) (q : Nat) : s.Supervised (s.loseCells q) := by
  refine State.Supervised.foldl (fun t c => ?_) _ s
  extract_lets x dropped
  have kept : t.Supervised dropped := by
    simp only [dropped]
    split
    · unfold State.vacate
      split <;> exact ⟨rfl, rfl, rfl⟩
    · exact ⟨rfl, rfl, rfl⟩
  exact kept.trans ⟨rfl, rfl, rfl⟩

/-- A domain lost is told in DOMAIN_STATE; eNVM and HOLD stand (R469). -/
theorem State.domainLost_keeps (v : Nat) (s : State) (d : Nat) :
    (State.domainLost v s d).nv = s.nv ∧ (State.domainLost v s d).tow.hold = s.tow.hold ∧
      (State.domainLost v s d).pwr = { s.pwr with doms := setAt s.pwr.doms d v } := by
  have of_lost {t : State} (h : s.Supervised t) : (t.setDomState d v).nv = s.nv ∧ (t.setDomState d v).tow.hold = s.tow.hold ∧
      (t.setDomState d v).pwr = { s.pwr with doms := setAt s.pwr.doms d v } :=
    ⟨h.nv, h.hold, by rw [State.setDomState, h.pwr]⟩
  unfold State.domainLost
  refine of_lost ?_
  split
  · exact ⟨rfl, rfl, rfl⟩
  · exact State.supervised_loseNet ..
  · exact State.supervised_loseNet ..
  · exact ⟨rfl, rfl, rfl⟩
  · exact State.supervised_loseCells ..
  · exact State.supervised_loseCells ..
  · exact State.supervised_loseCells ..
  · exact State.supervised_loseCells ..
  · exact ⟨rfl, rfl, rfl⟩
  · exact ⟨rfl, rfl, rfl⟩
  · exact ⟨rfl, rfl, rfl⟩
  · exact ⟨rfl, rfl, rfl⟩
  · exact ⟨rfl, rfl, rfl⟩

/-- Domains switched off one after another. -/
theorem State.foldl_domainLost_keeps (v : Nat) (ds : List Nat) (s : State) :
    (ds.foldl (State.domainLost v) s).nv = s.nv ∧ (ds.foldl (State.domainLost v) s).tow.hold = s.tow.hold ∧
      (ds.foldl (State.domainLost v) s).pwr = { s.pwr with doms := ds.foldl (fun l d => setAt l d v) s.pwr.doms } := by
  induction ds generalizing s with
  | nil => exact ⟨rfl, rfl, rfl⟩
  | cons d ds ih =>
    obtain ⟨nv, hold, pwr⟩ := State.domainLost_keeps v s d
    obtain ⟨nvs, holds, all⟩ := ih (State.domainLost v s d)
    refine ⟨nvs.trans nv, holds.trans hold, ?_⟩
    rw [List.foldl_cons, all, pwr, List.foldl_cons]

/-- Every place that a list of zeroed places names, and every place that was zero, is zero. -/
theorem getD_foldl_setAt_zero {d : Nat} (ds l : List Nat) (h : d ∈ ds ∨ l.getD d 0 = 0) :
    (ds.foldl (fun l e => setAt l e 0) l).getD d 0 = 0 := by
  induction ds generalizing l with
  | nil => exact h.resolve_left (List.not_mem_nil)
  | cons e ds ih =>
    refine ih (setAt l e 0) ?_
    by_cases same : d = e
    · subst same
      refine .inr ?_
      rcases lt_or_ge d l.length with inside | beyond
      · exact getD_setAt_self inside 0 0
      · exact List.getD_eq_default _ _ (by rw [length_setAt]; exact beyond)
    · rw [getD_setAt_ne _ same]
      exact h.imp_left fun mem => (List.mem_cons.mp mem).resolve_left same

/-- With every domain lost none but AO is on (R470). -/
theorem State.allLost_keeps (s : State) : s.allLost.nv = s.nv ∧ s.allLost.tow.hold = s.tow.hold ∧
    ∀ d, 1 ≤ d → d ≤ 12 → s.allLost.pwr.doms.getD d 0 = 0 := by
  rw [State.allLost]
  obtain ⟨nv, hold, doms⟩ := State.foldl_domainLost_keeps 0 allDomains s
  refine ⟨nv, hold, fun d low high => ?_⟩
  have named : d ∈ allDomains := by
    simp only [allDomains, List.mem_cons, List.not_mem_nil, or_false]
    omega
  rw [doms]
  exact getD_foldl_setAt_zero _ _ (.inl named)

/-- What TJ_SHUT leaves: the state is latched, HOLD is released and the domains are off (R227, R474). -/
theorem State.shutDown_fields (s : State) : s.shutDown.pwr.state = 5 ∧ s.shutDown.pwr.shutLatched = true ∧ s.shutDown.tow.hold = false ∧
    s.shutDown.nv.shutdowns = min (s.nv.shutdowns + 1) 65535 ∧ ∀ d, 1 ≤ d → d ≤ 12 → s.shutDown.domOn d = false := by
  unfold State.shutDown
  extract_lets was _ released off
  obtain ⟨nv, hold, doms⟩ := State.allLost_keeps released.flushJournal
  have shuts : off.nv = s.nv := nv
  have gone : off.tow.hold = false := hold
  have zero : ∀ d, 1 ≤ d → d ≤ 12 → off.pwr.doms.getD d 0 = 0 := doms
  clear_value off
  refine ⟨rfl, rfl, gone, ?_, fun d low high => ?_⟩
  · show min (off.nv.shutdowns + 1) 65535 = _
    rw [shuts]
  · have notAO : (d == 0) = false := beq_eq_false_iff_ne.mpr (by omega)
    rw [State.domOn, notAO, Bool.false_or]
    show (_ && (off.pwr.doms.getD d 0 == 1)) = false
    rw [zero d low high]
    exact Bool.and_false _

theorem ended_hold (s0 s : State) : (State.ended s0 s).tow.hold = s.tow.hold := (State.Supervised.of_core (ended_core s0 s)).hold

theorem gate_of_released {s : State} (released : s.tow.hold = false) : s.gate = false := by
  rw [State.gate, released, Bool.and_false, Bool.false_and]

/-! ## The straps a start samples -/

section
variable {key : Nat}

theorem num?_switchTo (step : stepTouches key = false) (sel : key ≠ Od.select.key + 0) (switches : key ≠ Od.switches.key + 0) (s : State) (d : Nat) :
    (s.switchTo d).num? key = s.num? key := by
  unfold State.switchTo
  extract_lets settled selected told off moved
  have selects : selected.num? key = s.num? key := (num?_noteJournal ..).trans (num?_setReg _ _ _ _ _ sel)
  have tells : told.num? key = s.num? key := (num?_setReg _ _ _ _ _ switches).trans selects
  have moves : moved.num? key = told.num? key := by
    simp only [moved]
    split
    · exact num?_stepTo step ..
    · unfold State.startSlew
      split <;> rfl
  exact (num?_of_od (State.timePins_od moved)).trans (moves.trans tells)

theorem num?_autoSwitch (step : stepTouches key = false) (sel : key ≠ Od.select.key + 0) (switches : key ≠ Od.switches.key + 0) (s : State) :
    s.autoSwitch.num? key = s.num? key := by
  unfold State.autoSwitch
  split
  · exact num?_switchTo step sel switches ..
  · rfl

theorem num?_setDom (s : State) {d : Nat} (x : PtpDomain) (st : key ≠ (Od.ptpState.inst d).key + 0) (offset : key ≠ Od.offsetAb.key + 0) :
    (s.setDom d x).num? key = s.num? key := by
  unfold State.setDom
  extract_lets was _ _ stated told
  have states : stated.num? key = s.num? key := num?_setReg _ _ _ _ _ st
  have tells : told.num? key = s.num? key := by
    simp only [told]
    split
    · exact states
    · exact (num?_setReg _ _ _ _ _ offset).trans states
  exact (num?_of_od (State.timePins_od told)).trans tells

end

/-- The registers a check of a PTP domain may change do not hold the straps. -/
theorem straps_ptpCheck (s : State) {d : Nat} (hd : Od.straps.key ≠ (Od.ptpState.inst d).key + 0) :
    (s.ptpCheck d).num? Od.straps.key = s.num? Od.straps.key := by
  have dom (t : State) (x : PtpDomain) : (t.setDom d x).num? Od.straps.key = t.num? Od.straps.key := num?_setDom t x hd (by decide)
  have switch (t : State) : t.autoSwitch.num? Od.straps.key = t.num? Od.straps.key := num?_autoSwitch (by decide) (by decide) (by decide) t
  unfold State.ptpCheck
  extract_lets x p off
  split
  · split
    · rfl
    · exact (switch _).trans (dom ..)
  split
  · split
    · rfl
    · exact (switch _).trans (dom ..)
  split
  · exact dom ..
  split
  · exact dom ..
  · rfl

theorem straps_ptpChecks (s : State) : s.ptpChecks.num? Od.straps.key = s.num? Od.straps.key :=
  (straps_ptpCheck _ (by decide)).trans (straps_ptpCheck _ (by decide))

end Sys2Proof.Machine

/-!
PROOFS. The straps a start samples outlive it (R476), and the commands of reset and power (R463–R478).
-/
namespace Sys2Proof.Machine

/-! ## What a start loads keeps the straps -/

/-- A keyed list filtered by its keys reads the same at a key that passes. -/
theorem kvGet_filter {α : Type} (f : Nat → Bool) {k : Nat} (h : f k = true) (l : List (Nat × α)) :
    kvGet k (l.filter fun p => f p.1) = kvGet k l := by
  induction l with
  | nil => rfl
  | cons p t ih =>
    obtain ⟨j, v⟩ := p
    by_cases same : j = k
    · subst same
      rw [List.filter_cons_of_pos (p := fun p : Nat × α => f p.1) h, kvGet, kvGet, if_pos rfl, if_pos rfl]
    · rw [kvGet, if_neg same, ← ih, List.filter_cons]
      split
      · rw [kvGet, if_neg same]
      · rfl

/-- Values set one after another leave a key none of them names. -/
theorem kvGet_foldl_kvSet {α : Type} {k : Nat} (vals l : List (Nat × α)) (h : ∀ p ∈ vals, k ≠ p.1) :
    kvGet k (vals.foldl (fun l p => kvSet p.1 p.2 l) l) = kvGet k l := by
  induction vals generalizing l with
  | nil => rfl
  | cons p t ih =>
    rw [List.foldl_cons, ih _ fun q hq => h q (List.mem_cons_of_mem _ hq), kvGet_kvSet_ne _ _ (h p List.mem_cons_self)]

/-- No journalled value is the straps': its row is not persisted. -/
theorem journalled_not_straps (j : Store) (keep : OdRow → Bool) : ∀ p ∈ (journalled j keep).nums, Od.straps.key ≠ p.1 := by
  have row : Od.find Od.straps.key = some (Od.straps, 0) := by decide +kernel
  intro p hp same
  unfold journalled at hp
  extract_lets mine at hp
  have picked := (List.mem_filter.mp hp).2
  have passes : mine Od.straps.key = true := by
    rw [same]
    exact (Bool.and_eq_true_iff.mp picked).1
  have persists : Od.straps.persist = true := by
    simp only [mine, row, Bool.and_eq_true] at passes
    exact passes.1
  exact absurd persists (by decide)

theorem straps_kept : keptAtStart Od.straps.key = true := by decide +kernel

theorem straps_takePound (s : State) (cfg : Store) (p owner : Nat) : (s.takePound cfg p owner).num? Od.straps.key = s.num? Od.straps.key := by
  unfold State.takePound
  extract_lets x
  split
  · rfl
  split
  · split <;> rfl
  · rfl

theorem straps_setLedgers (s : State) (b : Bytes) : (s.setLedgers b).num? Od.straps.key = s.num? Od.straps.key :=
  num?_foldl Od.straps.key (fun (s : State) r =>
    let u := unitKey (u8 r 0) (u16 r 1)
    let v := (List.range 4).map fun c => u32 r (3 + 4 * c) * 2 ^ 40
    { s with col := { s.col with ledger := kvSet u v s.col.ledger, curveEnd := s.col.curveEnd.filter (· != u) } }) _ (fun _ _ _ => rfl) s

/-- The settings a start loads leave the straps (R53, R476). -/
theorem straps_loadSettings (s : State) (service : Bool) : (s.loadSettings service).num? Od.straps.key = s.num? Od.straps.key := by
  unfold State.loadSettings
  extract_lets j rw_ sh cal cfg regs old _ _ loaded _ _ _ ready numbered aged told
  have loads : loaded.num? Od.straps.key = s.num? Od.straps.key :=
    (kvGet_foldl_kvSet rw_.nums _ (journalled_not_straps j _)).trans (kvGet_filter keptAtStart straps_kept _)
  have numbers : numbered.num? Od.straps.key = s.num? Od.straps.key := by
    simp only [numbered]
    split
    · exact (num?_setReg _ _ _ _ _ (by decide)).trans loads
    · exact loads
  have tells : told.num? Od.straps.key = s.num? Od.straps.key :=
    (num?_foldl _ _ _ (fun t k _ => num?_raise t 0x1415 _ _) aged).trans ((straps_setLedgers ..).trans numbers)
  refine (num?_foldl _ _ _ (fun t p _ => straps_takePound t {} p.1 p.2) _).trans ?_
  exact (num?_of_od (State.retick_od _)).trans (((State.sends_bindTiles told old cfg _).num _ (by decide)).trans tells)

/-! ## The start itself -/

theorem straps_completeFloor (s : State) : s.completeFloor.num? Od.straps.key = s.num? Od.straps.key := by
  unfold State.completeFloor State.raiseFloor
  split
  · rfl
  · split <;> rfl

theorem State.bootTimers_od (s : State) : s.bootTimers.od = s.od := rfl

theorem num?_setReg_same (s : State) (r : OdRow) (v i : Nat) : (s.setReg r v i).num? (r.key + i) = some v := kvGet_kvSet ..

theorem straps_bootLoad (s : State) (straps : Nat) : (s.bootLoad straps).num? Od.straps.key = some straps := by
  unfold State.bootLoad
  extract_lets _ held loaded
  have loads : loaded.num? Od.straps.key = some straps :=
    (straps_completeFloor _).trans ((num?_of_od (State.bootTimers_od _)).trans ((straps_loadSettings _ false).trans (num?_setReg_same held Od.straps straps 0)))
  have pins : loaded.timePins.num? Od.straps.key = some straps := (num?_of_od (State.timePins_od loaded)).trans loads
  exact (straps_ptpChecks loaded.timePins).trans pins

theorem straps_countStart (s : State) (cause st : Nat) : (s.countStart cause st).num? Od.straps.key = s.num? Od.straps.key := by
  unfold State.countStart
  extract_lets found _ _ _ started
  have checks : started.checkKeyCopies.num? Od.straps.key = s.num? Od.straps.key := by
    refine num?_foldl _ _ _ (fun t i _ => ?_) started
    extract_lets r copies
    split <;> rfl
  exact (num?_replaceCheck _ (by decide) (by decide)).trans ((num?_raise started.checkKeyCopies ..).trans checks)

/-- A start switches domains on and leaves the registers. -/
theorem num?_switchOn (l : List Nat) (s : State) (key : Nat) : (l.foldl State.switchOn s).num? key = s.num? key :=
  num?_foldl key State.switchOn l (fun _ _ _ => rfl) s

theorem State.moorRails_od (s : State) : s.moorRails.od = s.od := rfl

theorem straps_bootOn (s : State) (r : Nat) : (s.bootOn r).num? Od.straps.key = s.num? Od.straps.key := by
  unfold State.bootOn
  extract_lets _ held _ caused started
  have holds : held.num? Od.straps.key = s.num? Od.straps.key := num?_of_od rfl
  split
  · exact (straps_countStart held _ _).trans holds
  have causes : caused.num? Od.straps.key = s.num? Od.straps.key := by
    simp only [caused]
    split
    · exact num?_of_od rfl
    · exact holds
  split
  · exact (num?_of_od (State.moorRails_od _)).trans ((straps_countStart caused _ _).trans causes)
  · exact (num?_switchOn _ started _).trans ((straps_countStart caused _ _).trans causes)

/-- The straps a start has sampled are what STRAPS reads after it (R476, R478). -/
theorem reg_straps_bootAO (s : State) (straps : Nat) : (s.bootAO straps).reg Od.straps = straps := by
  unfold State.bootAO
  rcases s.chooseImage with ⟨t, r⟩
  have sampled : ((t.bootLoad straps).bootOn r).num? Od.straps.key = some straps := (straps_bootOn ..).trans (straps_bootLoad t straps)
  exact congrArg (·.getD 0) sampled

/-! ## The commands -/

theorem State.advance_strap (s : State) (dt k : Nat) : (s.advance dt).strap k = s.strap k := by rw [State.strap, State.advance_reg, State.strap]

/-- What the device in reset holds (R471). -/
theorem State.coldReset_fields (s : State) (c : Nat) : (s.coldReset c).pwr.state = 0 ∧ (s.coldReset c).pwr.cause = c ∧ (s.coldReset c).now = 0 ∧
    (s.coldReset c).gate = false ∧ (s.coldReset c).od.regs = {} ∧ (s.coldReset c).od.journal = s.od.journal ∧
    (s.coldReset c).nv.epoch = beNat (s.nv.epochs.tear s.tow.epochWrite.isSome).read.1 ∧ (s.coldReset c).upd.running = u8 s.nv.boot.read.1 0 ∧
    (s.coldReset c).upd.floor = beNat s.nv.floors.read.1 ∧ (s.coldReset c).trim.life = s.trim.lifeSaved :=
  ⟨rfl, rfl, rfl, rfl, rfl, rfl, rfl, rfl, rfl, rfl⟩

/-- A core that hangs outside a trial and below the storm limit starts the device warm (R473). -/
theorem coreHung_warm {s : State} (core : Nat) (off : s.upd.trial = false)
    (few : (s.pwr.wdStarts.filter fun t => decide (s.now < t + 600000000000)).length + 1 < s.reg Od.wdStormLimit) :
    s.coreHung core = State.warmStart { s.raise 0xE003 (natBE 1 core) with pwr := { s.pwr with
      wdStarts := (s.pwr.wdStarts.filter fun t => decide (s.now < t + 600000000000)) ++ [s.now] } } 3 := by
  unfold State.coreHung
  extract_lets told recent _ noted
  have trial : ¬ told.upd.trial = true := by
    show ¬ s.upd.trial = true
    rw [off]
    decide
  have calm : ¬ noted.reg Od.wdStormLimit ≤ recent.length := by
    show ¬ s.reg Od.wdStormLimit ≤ (_ ++ [_]).length
    rw [List.length_append, List.length_singleton]
    exact Nat.not_le.mpr few
  rw [if_neg trial, if_neg calm]
  rfl

/-- Settles O60: the straps pass through all a start loads, and domains lost leave eNVM and HOLD; the rest is one branch each. -/
theorem resetsAndPowerAct : Obligations.ResetsAndPowerAct := by
  unfold Obligations.ResetsAndPowerAct
  refine ⟨fun s dt => ⟨rfl, rfl⟩, State.coldReset_fields, fun n v => ⟨n.read_write v, Copies.read_tear⟩, ?release, ?held, ?powerOn,
    reg_straps_bootAO, ?warmFalls, ?warmRises, ?brownOut, ?brownIgnored, ?recovered, ?restarts, ?shut, ?cool, ?good, ?fault, ?watchdog,
    fun s core => coreHung_warm core, ?supervisor, ?strap⟩
  case release =>
    intro s dt straps st cause rails
    show execPorstRelease dt straps true s = _
    rw [execPorstRelease]
    simp only [State.advance_pwr, st, cause, rails, ne_eq, not_true_eq_false, or_self, if_false, if_true, Bool.true_eq_false, finish]
  case held =>
    intro s dt straps good st cause rails
    show execPorstRelease dt straps good s = _
    rw [execPorstRelease]
    simp only [State.advance_pwr, st, cause, rails, ne_eq, not_true_eq_false, or_self, if_false, if_true, finish]
  case powerOn =>
    intro s dt st cause
    show execPowerOnResetEnd dt s = _
    rw [execPowerOnResetEnd]
    simp only [State.advance_pwr, st, cause, and_self, if_true, finish]
  case warmFalls =>
    intro s dt on cool up high
    have outside : ¬ (s.pwr.state = 0 ∨ s.pwr.state = 5 ∨ s.pwr.state = 6 ∨ s.pwr.warmLow = true) := by
      rw [high]
      simp only [on, cool, up, Bool.false_eq_true, or_self, not_false_iff]
    intro t
    show execWarmAssert dt s = _
    rw [execWarmAssert]
    simp only [State.advance_pwr, if_neg outside, finish] <;> rfl
  case warmRises =>
    intro s dt low
    show execWarmStart dt s = _
    rw [execWarmStart]
    simp only [State.advance_pwr, low, if_true, finish]
  case brownOut =>
    intro s dt rail on
    have outside : ¬ (s.pwr.state = 0 ∨ s.pwr.state = 5 ∨ s.pwr.state = 6 ∨ s.pwr.state = 7 ∨ s.pwr.state = 8 ∨
        (s.pwr.state = 3 ∧ s.pwr.railsEn = false)) := by
      rcases on with st | st | st | ⟨st, rails⟩
      · simp [st]
      · simp [st]
      · simp [st]
      · simp [st, rails]
    intro t
    show execBrownOut dt rail s = _
    rw [execBrownOut]
    simp only [State.advance_pwr, if_neg outside, finish, t]
  case brownIgnored =>
    intro s dt rail on
    have held : 5 ≤ s.pwr.state ∧ s.pwr.state ≤ 8 → s.pwr.state = 5 ∨ s.pwr.state = 6 ∨ s.pwr.state = 7 ∨ s.pwr.state = 8 := by omega
    have inside : s.pwr.state = 0 ∨ s.pwr.state = 5 ∨ s.pwr.state = 6 ∨ s.pwr.state = 7 ∨ s.pwr.state = 8 ∨
        (s.pwr.state = 3 ∧ s.pwr.railsEn = false) := by tauto
    rw [← State.advance_pwr s dt] at inside ⊢
    exact congrArg (finish s) (if_pos inside)
  case recovered =>
    intro s dt st
    exact congrArg (finish s) (if_neg st)
  case restarts =>
    intro s dt st
    exact congrArg (finish s) (if_pos st)
  case shut =>
    intro s dt alive st
    have outside : ¬ (s.alive = false ∨ s.pwr.state = 5) := by
      rw [alive]
      simp only [st, Bool.true_eq_false, or_self, not_false_iff]
    have run : exec (.tjShut dt) s = .next (State.ended s (s.advance dt).shutDown) := by
      show execTjShut dt s = _
      rw [execTjShut]
      simp only [State.advance_alive, State.advance_pwr, if_neg outside, finish]
    obtain ⟨state, latched, hold, shutdowns, off⟩ := State.shutDown_fields (s.advance dt)
    rw [State.advance_nv] at shutdowns
    refine ⟨_, run, ?_, ?_, ?_, ?_, ?_, fun d low high => ?_⟩
    · rw [ended_pwr, state]
    · rw [ended_pwr, latched]
    · rw [ended_hold, hold]
    · rw [ended_gate, gate_of_released hold]
    · rw [ended_nv, shutdowns]
    · have same : (State.ended s (s.advance dt).shutDown).domOn d = (s.advance dt).shutDown.domOn d := by
        rw [State.domOn, State.alive, ended_pwr, State.domOn, State.alive]
      rw [same, off d low high]
  case cool =>
    intro s t st latched cool
    show execShutdownCool s = _
    rw [execShutdownCool]
    simp only [cool, st, latched, and_self, if_true, finish] <;> rfl
  case good =>
    intro s dt d alive starting high
    show execDomainPowerGood dt d s = _
    rw [execDomainPowerGood]
    simp only [State.advance_alive, State.advance_pwr, alive, starting, high, and_self, if_true, finish]
  case fault =>
    intro s d alive starting
    exact congrArg (finish s) (if_pos ⟨alive, starting⟩)
  case watchdog =>
    intro s dt core on
    exact congrArg (finish s) (if_pos on)
  case supervisor =>
    intro s dt alive
    have lives : ¬ s.alive = false := by rw [alive]; decide
    show execSupervisorWatchdog dt s = _
    rw [execSupervisorWatchdog]
    simp only [State.advance_alive, State.advance_tow, if_neg lives, finish]
  case strap =>
    intro s dt k level alive hk live t
    have four : ¬ 4 ≤ k := by omega
    have lives : ¬ t.alive = false := by
      show ¬ (s.pwr.state != 0) = false
      rw [← State.alive, alive]
      decide
    have strap : t.strap k = s.strap k := State.advance_strap s dt k
    have straps : t.reg Od.straps = s.reg Od.straps := State.advance_reg ..
    have run : exec (.strapChanged dt k level) s = finish s
        (if level = t.strap k then { t with pwr := { t.pwr with strapRaised := t.pwr.strapRaised.filter (· != k) } }
         else if t.pwr.strapRaised.contains k then t
         else ({ t with pwr := { t.pwr with strapRaised := k :: t.pwr.strapRaised } } : State).raise 0xE005 (natBE 1 (t.reg Od.straps) ++ natBE 1 live)) := by
      show execStrapChanged dt k level s = _
      rw [execStrapChanged]
      simp only [if_neg four, State.advance_pwr]
      exact congrArg (finish s) (if_neg lives)
    rw [strap, straps] at run
    refine ⟨fun agrees => ?_, fun differs told => ?_, fun differs untold => ?_⟩
    · exact run.trans (congrArg (finish s) (if_pos agrees))
    · exact run.trans (congrArg (finish s) ((if_neg differs).trans (if_pos told)))
    · have new : ¬ s.pwr.strapRaised.contains k = true := by rw [untold]; decide
      exact run.trans (congrArg (finish s) ((if_neg differs).trans (if_neg new)))

end Sys2Proof.Machine
